-- ==== Sys2Proof/Word.lean ====
section
/-! DEFINITION. The byte, the plain integer arithmetic of section 2.2 of spec/00_scope.md (clamp, ceil, saturate),
and two helpers over tables of fixed length. -/

namespace Sys2Proof

/-- One byte of a serial line (spec/10_station_ports.md, R177: 8 data bits). -/
abbrev Byte := BitVec 8

/-- "Clamped to a range" (spec/00_scope.md section 2.2): below the range the lowest value, above it the highest. -/
def clamp (lo hi x : Nat) : Nat := max lo (min hi x)

/-- "ceil" of a quotient (section 2.2). -/
def ceilDiv (a b : Nat) : Nat := (a + b - 1) / b

/-- An addition that saturates at `cap` (section 2.2). -/
def satAdd (cap x y : Nat) : Nat := min cap (x + y)

/-- The table with `f` applied to every entry. -/
def mapAll {α β : Type} {n : Nat} (f : α → β) (v : Vector α n) : Vector β n :=
  Vector.ofFn fun i => f v[i]

end Sys2Proof
end

