-- ==== Sys2Proof/Syntax.lean ====
section
/-! DEFINITION. The commands of the 4806: one constructor for each row of spec/opcode_table.json, with the row's
operands. Fields of a request are bit vectors of the widths of R181. -/

namespace Sys2Proof

/-- The five station ports (R177; spec/10_station_ports.md section 10.1). -/
inductive Port where
  | E | A | B | W | F
deriving DecidableEq, Repr

/-- The six dose channels (R48; spec/03_dose_channels.md section 3.1). -/
inductive ChannelId where
  | AB | AM | BB | BM | FC | FA
deriving DecidableEq, Repr

/-- The two exposure units (R75). -/
inductive UnitId where
  | A | B
deriving DecidableEq, Repr

/-- What every request frame carries beside its KIND and fields: the port it comes from and its LEN byte (R178). -/
structure Hdr where
  port : Port
  len  : Nat
deriving DecidableEq, Repr

/-- The commands. A request constructor is the completion of a valid frame of that request (R180); an event
constructor is the event itself, on a line, a timer or a receiver. -/
inductive Instr where
  /-- R2: power-on or assertion of RESET_N, with the level of the RATE strap it samples (true = high). -/
  | reset (rate : Bool)
  /-- R70. -/
  | sstopAsserted
  /-- R117. -/
  | sstopReleased
  /-- R54. -/
  | sensorPulse (ch : ChannelId)
  /-- R56. -/
  | graceEnd (ch : ChannelId)
  /-- R57. -/
  | windowEnd (ch : ChannelId)
  /-- R59. -/
  | dimWatchExpiry (ch : ChannelId)
  /-- R60. -/
  | deadWatchExpiry (ch : ChannelId)
  /-- R61. -/
  | overtimeExpiry (ch : ChannelId)
  /-- R67. -/
  | tailExpiry (ch : ChannelId)
  /-- R174. -/
  | lineSecond
  /-- R43. -/
  | storeComplete
  /-- R107: the overdue expiry of the belt record of docket `n`. -/
  | overdueExpiry (n : Nat)
  /-- R144: the drying expiry of drawer `d + 1`. -/
  | dryingExpiry (d : Fin 8)
  /-- R145: the overdry expiry of drawer `d + 1`. -/
  | overdryExpiry (d : Fin 8)
  /-- R182. -/
  | portLost (p : Port)
  /-- R179: the byte `b` in the place of LEN. -/
  | badLen (p : Port) (b : Byte)
  /-- R179. -/
  | missingStopBit (p : Port)
  /-- R179: the late byte `b` after a gap of more than 20 ms. -/
  | byteGapTimeout (p : Port) (b : Byte)
  /-- R179. -/
  | frameCrcError (p : Port)
  /-- R179. -/
  | frameOverrun (p : Port)
  /-- R180: a valid frame with the KIND `kind`, which the request table does not hold. -/
  | unknownRequest (p : Port) (kind : Byte)
  /-- R180. -/
  | answerSent (p : Port)
  /-- R13. -/
  | register (h : Hdr) (recipe : BitVec 8) (area : BitVec 16) (coverage pref cls : BitVec 8)
  /-- R15. -/
  | cancel (h : Hdr) (n : BitVec 16)
  /-- R21: RELEASE with the form code 0 (or a code that is neither 0 nor 1). -/
  | releasePass (h : Hdr) (n : BitVec 16) (form : BitVec 8)
  /-- R22: RELEASE with the form code 1. -/
  | releaseRewash (h : Hdr) (n : BitVec 16) (form : BitVec 8)
  /-- R23. -/
  | retire (h : Hdr) (n : BitVec 16)
  /-- R24. -/
  | readDocket (h : Hdr) (n : BitVec 16) (part : BitVec 8)
  /-- R25. -/
  | list (h : Hdr) (collection start : BitVec 8)
  /-- R26. -/
  | lineClear (h : Hdr)
  /-- R30. -/
  | setRecipe (h : Hdr) (index valid : BitVec 8) (name : List Byte) (thickness relief : BitVec 16)
      (back main : BitVec 24) (w0 margin dryTime : BitVec 16) (uvc uva : BitVec 24)
  /-- R32. -/
  | readRecipe (h : Hdr) (index : BitVec 8)
  /-- R34. -/
  | setSetting (h : Hdr) (item channel : BitVec 8) (value : BitVec 32)
  /-- R38. -/
  | readSetting (h : Hdr) (item channel : BitVec 8)
  /-- R39. -/
  | setLevel (h : Hdr) (kind level : BitVec 8)
  /-- R39. -/
  | readLevel (h : Hdr) (kind : BitVec 8)
  /-- R41: with the level of SKEY it samples (true = high). -/
  | store (h : Hdr) (skey : Bool)
  /-- R46. -/
  | recall (h : Hdr)
  /-- R47. -/
  | storeInfo (h : Hdr)
  /-- R71. -/
  | clearChannel (h : Hdr) (ch : BitVec 8)
  /-- R72: SET_LAMP_REF with the form 0 (or a form that is neither 0 nor 1). -/
  | setLampRefValue (h : Hdr) (ch form : BitVec 8) (value : BitVec 24)
  /-- R72: SET_LAMP_REF with the form 1. -/
  | setLampRefMeasured (h : Hdr) (ch form : BitVec 8) (value : BitVec 24)
  /-- R73. -/
  | readChannel (h : Hdr) (ch : BitVec 8)
  /-- R77. -/
  | claim (h : Hdr) (n : BitVec 16)
  /-- R79. -/
  | startBack (h : Hdr) (n : BitVec 16)
  /-- R80. -/
  | startMain (h : Hdr) (n : BitVec 16)
  /-- R85. -/
  | stop (h : Hdr) (n : BitVec 16)
  /-- R86. -/
  | resume (h : Hdr) (n : BitVec 16)
  /-- R89. -/
  | returnDocket (h : Hdr) (n : BitVec 16)
  /-- R92. -/
  | readUnit (h : Hdr) (unit : BitVec 8)
  /-- R102. -/
  | feed (h : Hdr)
  /-- R110. -/
  | exit (h : Hdr) (n : BitVec 16)
  /-- R118. -/
  | readWash (h : Hdr)
  /-- R129. -/
  | reportBath (h : Hdr) (load volume : BitVec 16)
  /-- R132. -/
  | replenish (h : Hdr) (drained added : BitVec 16)
  /-- R136. -/
  | readBath (h : Hdr)
  /-- R143. -/
  | drawerLoaded (h : Hdr) (d : BitVec 8) (n : BitVec 16)
  /-- R147. -/
  | drawerUnloaded (h : Hdr) (d force : BitVec 8)
  /-- R149: DRAWER_SERVICE with the direction 0 (or a direction that is neither 0 nor 1). -/
  | drawerServiceOut (h : Hdr) (d dir : BitVec 8)
  /-- R149: DRAWER_SERVICE with the direction 1. -/
  | drawerServiceIn (h : Hdr) (d dir : BitVec 8)
  /-- R152. -/
  | readDryer (h : Hdr)
  /-- R154. -/
  | claimFinish (h : Hdr) (n : BitVec 16)
  /-- R156. -/
  | startFinish (h : Hdr) (n : BitVec 16)
  /-- R159: STOP from port F. -/
  | finisherStop (len : Nat) (n : BitVec 16)
  /-- R160: RESUME from port F. -/
  | finisherResume (len : Nat) (n : BitVec 16)
  /-- R161: RETURN from port F. -/
  | finisherReturn (len : Nat) (n : BitVec 16)
  /-- R164. -/
  | readFinisher (h : Hdr)
  /-- R168. -/
  | status (h : Hdr)
  /-- R169. -/
  | ack (h : Hdr)
  /-- R171. -/
  | readNotice (h : Hdr) (kind : BitVec 8)
  /-- R171. -/
  | setThreshold (h : Hdr) (threshold : BitVec 8)
  /-- R175. -/
  | setCounter (h : Hdr) (k event recipe cls unit : BitVec 8)
  /-- R176. -/
  | clearCounters (h : Hdr)
  /-- R176. -/
  | readCounters (h : Hdr)
  /-- R185. -/
  | ping (h : Hdr)
  /-- R185. -/
  | portInfo (h : Hdr)
  /-- R179: the byte D9h. -/
  | frameBegins (p : Port)
  /-- R179: the byte `b` inside a frame, short of its last byte. -/
  | frameByte (p : Port) (b : Byte)
deriving DecidableEq, Repr

end Sys2Proof
end

