-- ==== Sys2Proof/Decode.lean ====
section
/-! DEFINITION. Request frames (R178 to R181): byte order, CRC-8, the request table with its KIND codes, the reading of
a frame's bytes as the command it is, the frame of a command, and Sys2Proof.decodeTableWord. -/

namespace Sys2Proof

/-! ## Bytes -/

/-- `v` as `w` bytes, most significant first (R178). -/
def bytesBE : (w v : Nat) → List Byte
  | 0, _ => []
  | w + 1, v => BitVec.ofNat 8 (v / 256 ^ w) :: bytesBE w v

/-- The number that bytes spell, most significant first (R178). -/
def natBE (bs : List Byte) : Nat := bs.foldl (fun n b => n * 256 + b.toNat) 0

/-- The `w` bytes of a frame's fields that begin at `off`, as a number. -/
def fieldAt (fs : List Byte) (off w : Nat) : Nat := natBE ((fs.drop off).take w)

/-- The CRC-8 of R178 over the bits of one byte: polynomial 07h, most significant bit first. -/
def crc8Bits : Nat → Byte → Byte
  | 0, c => c
  | k + 1, c => crc8Bits k (if c.msb then (c <<< 1) ^^^ 0x07#8 else c <<< 1)

/-- The CRC-8 of R178: initial value 00h, no final inversion. -/
def crc8 (bs : List Byte) : Byte := bs.foldl (fun c b => crc8Bits 8 (c ^^^ b)) 0

/-- The sync byte (section 10.2). -/
def syncByte : Byte := 0xD9

/-! ## The request table (section 10.5) -/

/-- The requests, by the names of section 10.5. -/
inductive Request where
  | register | cancel | release | retire | readDocket | list | lineClear | setRecipe | readRecipe | setSetting
  | readSetting | setLevel | readLevel | store | recall | storeInfo | clearChannel | setLampRef | readChannel | claim
  | startBack | startMain | stop | resume | returnDocket | readUnit | feed | exit | readWash | reportBath | replenish
  | readBath | drawerLoaded | drawerUnloaded | drawerService | readDryer | claimFinish | startFinish | readFinisher
  | status | ack | readNotice | setThreshold | setCounter | clearCounters | readCounters | ping | portInfo
deriving DecidableEq, Repr

/-- The KIND column. -/
def Request.kind : Request → Nat
  | .register => 0x01 | .cancel => 0x02 | .release => 0x03 | .retire => 0x04 | .readDocket => 0x05 | .list => 0x06
  | .lineClear => 0x07 | .setRecipe => 0x10 | .readRecipe => 0x11 | .setSetting => 0x12 | .readSetting => 0x13
  | .setLevel => 0x14 | .readLevel => 0x15 | .store => 0x16 | .recall => 0x17 | .storeInfo => 0x18
  | .clearChannel => 0x20 | .setLampRef => 0x21 | .readChannel => 0x22 | .claim => 0x28 | .startBack => 0x29
  | .startMain => 0x2A | .stop => 0x2B | .resume => 0x2C | .returnDocket => 0x2D | .readUnit => 0x2E | .feed => 0x30
  | .exit => 0x31 | .readWash => 0x32 | .reportBath => 0x34 | .replenish => 0x35 | .readBath => 0x36
  | .drawerLoaded => 0x38 | .drawerUnloaded => 0x39 | .drawerService => 0x3A | .readDryer => 0x3B
  | .claimFinish => 0x3C | .startFinish => 0x3D | .readFinisher => 0x3E | .status => 0x40 | .ack => 0x41
  | .readNotice => 0x42 | .setThreshold => 0x43 | .setCounter => 0x44 | .clearCounters => 0x45
  | .readCounters => 0x46 | .ping => 0x48 | .portInfo => 0x49

def allRequests : List Request :=
  [.register, .cancel, .release, .retire, .readDocket, .list, .lineClear, .setRecipe, .readRecipe, .setSetting,
   .readSetting, .setLevel, .readLevel, .store, .recall, .storeInfo, .clearChannel, .setLampRef, .readChannel, .claim,
   .startBack, .startMain, .stop, .resume, .returnDocket, .readUnit, .feed, .exit, .readWash, .reportBath, .replenish,
   .readBath, .drawerLoaded, .drawerUnloaded, .drawerService, .readDryer, .claimFinish, .startFinish, .readFinisher,
   .status, .ack, .readNotice, .setThreshold, .setCounter, .clearCounters, .readCounters, .ping, .portInfo]

/-- The request a KIND byte names, if the table holds it. -/
def requestOfKind (k : Nat) : Option Request := allRequests.find? fun r => r.kind == k

/-- The Ports column. -/
def Request.ports : Request → List Port
  | .register => [.E] | .cancel => [.E] | .release => [.E] | .retire => [.E] | .lineClear => [.E]
  | .setRecipe => [.E] | .setSetting => [.E] | .setLevel => [.E] | .store => [.E] | .recall => [.E]
  | .clearChannel => [.A, .B, .F] | .setLampRef => [.A, .B, .F]
  | .claim => [.A, .B] | .startBack => [.A, .B] | .startMain => [.A, .B]
  | .stop => [.A, .B, .F] | .resume => [.A, .B, .F] | .returnDocket => [.A, .B, .F]
  | .feed => [.W] | .exit => [.W] | .reportBath => [.W] | .replenish => [.W]
  | .drawerLoaded => [.F] | .drawerUnloaded => [.F] | .drawerService => [.F] | .claimFinish => [.F]
  | .startFinish => [.F] | .setCounter => [.E] | .clearCounters => [.E]
  | _ => [.E, .A, .B, .W, .F]

/-- The bytes of a request's fields, from the field types its rule lists (R181); for SET_RECIPE with a name of
`nameCount` characters (R180). -/
def Request.fieldBytes (r : Request) (nameCount : Nat) : Nat :=
  match r with
  | .register => 1 + 2 + 1 + 1 + 1
  | .cancel => 2
  | .release => 2 + 1
  | .retire => 2
  | .readDocket => 2 + 1
  | .list => 1 + 1
  | .setRecipe => 1 + 1 + (1 + nameCount) + 2 + 2 + 3 + 3 + 2 + 2 + 2 + 3 + 3
  | .readRecipe => 1
  | .setSetting => 1 + 1 + 4
  | .readSetting => 1 + 1
  | .setLevel => 1 + 1
  | .readLevel => 1
  | .clearChannel => 1
  | .setLampRef => 1 + 1 + 3
  | .readChannel => 1
  | .claim => 2
  | .startBack => 2
  | .startMain => 2
  | .stop => 2
  | .resume => 2
  | .returnDocket => 2
  | .readUnit => 1
  | .exit => 2
  | .reportBath => 2 + 2
  | .replenish => 2 + 2
  | .drawerLoaded => 1 + 2
  | .drawerUnloaded => 1 + 1
  | .drawerService => 1 + 1
  | .claimFinish => 2
  | .startFinish => 2
  | .readNotice => 1
  | .setThreshold => 1
  | .setCounter => 1 + 1 + 1 + 1 + 1
  | _ => 0

/-! ## From the bytes of a frame to a command -/

/-- The command of a valid frame with the KIND of `r` and the field bytes `fs`, from port `p`. `skey` is the level of SKEY
at its last byte, which only STORE samples (R41). A field the frame is too short for reads as 0; such a frame is
refused RANGE by its LEN (R180). -/
def commandOf (p : Port) (skey : Bool) (r : Request) (fs : List Byte) : Instr :=
  let h : Hdr := { port := p, len := fs.length + 1 }
  let b (off : Nat) : BitVec 8 := BitVec.ofNat 8 (fieldAt fs off 1)
  let w (off : Nat) : BitVec 16 := BitVec.ofNat 16 (fieldAt fs off 2)
  let t (off : Nat) : BitVec 24 := BitVec.ofNat 24 (fieldAt fs off 3)
  match r with
  | .register => .register h (b 0) (w 1) (b 3) (b 4) (b 5)
  | .cancel => .cancel h (w 0)
  | .release => if b 2 = 1 then .releaseRewash h (w 0) (b 2) else .releasePass h (w 0) (b 2)
  | .retire => .retire h (w 0)
  | .readDocket => .readDocket h (w 0) (b 2)
  | .list => .list h (b 0) (b 1)
  | .lineClear => .lineClear h
  | .setRecipe =>
    let c := (b 2).toNat
    .setRecipe h (b 0) (b 1) ((fs.drop 3).take c) (w (3 + c)) (w (5 + c)) (t (7 + c)) (t (10 + c)) (w (13 + c))
      (w (15 + c)) (w (17 + c)) (t (19 + c)) (t (22 + c))
  | .readRecipe => .readRecipe h (b 0)
  | .setSetting => .setSetting h (b 0) (b 1) (BitVec.ofNat 32 (fieldAt fs 2 4))
  | .readSetting => .readSetting h (b 0) (b 1)
  | .setLevel => .setLevel h (b 0) (b 1)
  | .readLevel => .readLevel h (b 0)
  | .store => .store h skey
  | .recall => .recall h
  | .storeInfo => .storeInfo h
  | .clearChannel => .clearChannel h (b 0)
  | .setLampRef =>
    if b 1 = 1 then .setLampRefMeasured h (b 0) (b 1) (t 2) else .setLampRefValue h (b 0) (b 1) (t 2)
  | .readChannel => .readChannel h (b 0)
  | .claim => .claim h (w 0)
  | .startBack => .startBack h (w 0)
  | .startMain => .startMain h (w 0)
  | .stop => if p = .F then .finisherStop h.len (w 0) else .stop h (w 0)
  | .resume => if p = .F then .finisherResume h.len (w 0) else .resume h (w 0)
  | .returnDocket => if p = .F then .finisherReturn h.len (w 0) else .returnDocket h (w 0)
  | .readUnit => .readUnit h (b 0)
  | .feed => .feed h
  | .exit => .exit h (w 0)
  | .readWash => .readWash h
  | .reportBath => .reportBath h (w 0) (w 2)
  | .replenish => .replenish h (w 0) (w 2)
  | .readBath => .readBath h
  | .drawerLoaded => .drawerLoaded h (b 0) (w 1)
  | .drawerUnloaded => .drawerUnloaded h (b 0) (b 1)
  | .drawerService => if b 1 = 1 then .drawerServiceIn h (b 0) (b 1) else .drawerServiceOut h (b 0) (b 1)
  | .readDryer => .readDryer h
  | .claimFinish => .claimFinish h (w 0)
  | .startFinish => .startFinish h (w 0)
  | .readFinisher => .readFinisher h
  | .status => .status h
  | .ack => .ack h
  | .readNotice => .readNotice h (b 0)
  | .setThreshold => .setThreshold h (b 0)
  | .setCounter => .setCounter h (b 0) (b 1) (b 2) (b 3) (b 4)
  | .clearCounters => .clearCounters h
  | .readCounters => .readCounters h
  | .ping => .ping h
  | .portInfo => .portInfo h

/-- The command that the bytes of a frame are at port `p`: the frame errors of R179, a KIND outside the table (R180), or
the request. Absent for bytes that are not one whole frame. -/
def commandOfFrame (p : Port) (skey : Bool) : List Byte → Option Instr
  | sync :: len :: rest =>
    if sync ≠ syncByte then none
    else if len.toNat = 0 ∨ 120 < len.toNat then some (.badLen p len)
    else if rest.length ≠ len.toNat + 1 then none
    else if rest.drop len.toNat ≠ [crc8 (len :: rest.take len.toNat)] then some (.frameCrcError p)
    else
      match rest.take len.toNat with
      | kind :: fs =>
        match requestOfKind kind.toNat with
        | some r => some (commandOf p skey r fs)
        | none => some (.unknownRequest p kind)
      | [] => none
  | _ => none

/-! ## From a command to its frame -/

/-- The request, the port and the field bytes a request command is sent as; absent for an event. -/
def fieldsOf : Instr → Option (Request × Port × List Byte)
  | .register h r a c u k =>
    some (.register, h.port, r :: bytesBE 2 a.toNat ++ [c, u, k])
  | .cancel h n => some (.cancel, h.port, bytesBE 2 n.toNat)
  | .releasePass h n f => some (.release, h.port, bytesBE 2 n.toNat ++ [f])
  | .releaseRewash h n f => some (.release, h.port, bytesBE 2 n.toNat ++ [f])
  | .retire h n => some (.retire, h.port, bytesBE 2 n.toNat)
  | .readDocket h n part => some (.readDocket, h.port, bytesBE 2 n.toNat ++ [part])
  | .list h c st => some (.list, h.port, [c, st])
  | .lineClear h => some (.lineClear, h.port, [])
  | .setRecipe h i v name th re ba ma w0 mg dt uc ua =>
    some (.setRecipe, h.port, i :: v :: BitVec.ofNat 8 name.length :: name ++ bytesBE 2 th.toNat ++ bytesBE 2 re.toNat
      ++ bytesBE 3 ba.toNat ++ bytesBE 3 ma.toNat ++ bytesBE 2 w0.toNat ++ bytesBE 2 mg.toNat ++ bytesBE 2 dt.toNat
      ++ bytesBE 3 uc.toNat ++ bytesBE 3 ua.toNat)
  | .readRecipe h i => some (.readRecipe, h.port, [i])
  | .setSetting h i c v => some (.setSetting, h.port, i :: c :: bytesBE 4 v.toNat)
  | .readSetting h i c => some (.readSetting, h.port, [i, c])
  | .setLevel h k l => some (.setLevel, h.port, [k, l])
  | .readLevel h k => some (.readLevel, h.port, [k])
  | .store h _ => some (.store, h.port, [])
  | .recall h => some (.recall, h.port, [])
  | .storeInfo h => some (.storeInfo, h.port, [])
  | .clearChannel h c => some (.clearChannel, h.port, [c])
  | .setLampRefValue h c f v => some (.setLampRef, h.port, c :: f :: bytesBE 3 v.toNat)
  | .setLampRefMeasured h c f v => some (.setLampRef, h.port, c :: f :: bytesBE 3 v.toNat)
  | .readChannel h c => some (.readChannel, h.port, [c])
  | .claim h n => some (.claim, h.port, bytesBE 2 n.toNat)
  | .startBack h n => some (.startBack, h.port, bytesBE 2 n.toNat)
  | .startMain h n => some (.startMain, h.port, bytesBE 2 n.toNat)
  | .stop h n => some (.stop, h.port, bytesBE 2 n.toNat)
  | .resume h n => some (.resume, h.port, bytesBE 2 n.toNat)
  | .returnDocket h n => some (.returnDocket, h.port, bytesBE 2 n.toNat)
  | .readUnit h u => some (.readUnit, h.port, [u])
  | .feed h => some (.feed, h.port, [])
  | .exit h n => some (.exit, h.port, bytesBE 2 n.toNat)
  | .readWash h => some (.readWash, h.port, [])
  | .reportBath h l v => some (.reportBath, h.port, bytesBE 2 l.toNat ++ bytesBE 2 v.toNat)
  | .replenish h d a => some (.replenish, h.port, bytesBE 2 d.toNat ++ bytesBE 2 a.toNat)
  | .readBath h => some (.readBath, h.port, [])
  | .drawerLoaded h d n => some (.drawerLoaded, h.port, d :: bytesBE 2 n.toNat)
  | .drawerUnloaded h d f => some (.drawerUnloaded, h.port, [d, f])
  | .drawerServiceOut h d f => some (.drawerService, h.port, [d, f])
  | .drawerServiceIn h d f => some (.drawerService, h.port, [d, f])
  | .readDryer h => some (.readDryer, h.port, [])
  | .claimFinish h n => some (.claimFinish, h.port, bytesBE 2 n.toNat)
  | .startFinish h n => some (.startFinish, h.port, bytesBE 2 n.toNat)
  | .finisherStop _ n => some (.stop, .F, bytesBE 2 n.toNat)
  | .finisherResume _ n => some (.resume, .F, bytesBE 2 n.toNat)
  | .finisherReturn _ n => some (.returnDocket, .F, bytesBE 2 n.toNat)
  | .readFinisher h => some (.readFinisher, h.port, [])
  | .status h => some (.status, h.port, [])
  | .ack h => some (.ack, h.port, [])
  | .readNotice h k => some (.readNotice, h.port, [k])
  | .setThreshold h v => some (.setThreshold, h.port, [v])
  | .setCounter h k e r c u => some (.setCounter, h.port, [k, e, r, c, u])
  | .clearCounters h => some (.clearCounters, h.port, [])
  | .readCounters h => some (.readCounters, h.port, [])
  | .ping h => some (.ping, h.port, [])
  | .portInfo h => some (.portInfo, h.port, [])
  | .reset _ => none
  | .sstopAsserted => none
  | .sstopReleased => none
  | .sensorPulse _ => none
  | .graceEnd _ => none
  | .windowEnd _ => none
  | .dimWatchExpiry _ => none
  | .deadWatchExpiry _ => none
  | .overtimeExpiry _ => none
  | .tailExpiry _ => none
  | .lineSecond => none
  | .storeComplete => none
  | .overdueExpiry _ => none
  | .dryingExpiry _ => none
  | .overdryExpiry _ => none
  | .portLost _ => none
  | .badLen _ _ => none
  | .missingStopBit _ => none
  | .byteGapTimeout _ _ => none
  | .frameCrcError _ => none
  | .frameOverrun _ => none
  | .unknownRequest _ _ => none
  | .answerSent _ => none
  | .frameBegins _ => none
  | .frameByte _ _ => none

/-- The LEN a request command carries. -/
def lenOf : Instr → Option Nat
  | .finisherStop len _ => some len
  | .finisherResume len _ => some len
  | .finisherReturn len _ => some len
  | .register h _ _ _ _ _ => some h.len
  | .cancel h _ => some h.len
  | .releasePass h _ _ => some h.len
  | .releaseRewash h _ _ => some h.len
  | .retire h _ => some h.len
  | .readDocket h _ _ => some h.len
  | .list h _ _ => some h.len
  | .lineClear h => some h.len
  | .setRecipe h _ _ _ _ _ _ _ _ _ _ _ _ => some h.len
  | .readRecipe h _ => some h.len
  | .setSetting h _ _ _ => some h.len
  | .readSetting h _ _ => some h.len
  | .setLevel h _ _ => some h.len
  | .readLevel h _ => some h.len
  | .store h _ => some h.len
  | .recall h => some h.len
  | .storeInfo h => some h.len
  | .clearChannel h _ => some h.len
  | .setLampRefValue h _ _ _ => some h.len
  | .setLampRefMeasured h _ _ _ => some h.len
  | .readChannel h _ => some h.len
  | .claim h _ => some h.len
  | .startBack h _ => some h.len
  | .startMain h _ => some h.len
  | .stop h _ => some h.len
  | .resume h _ => some h.len
  | .returnDocket h _ => some h.len
  | .readUnit h _ => some h.len
  | .feed h => some h.len
  | .exit h _ => some h.len
  | .readWash h => some h.len
  | .reportBath h _ _ => some h.len
  | .replenish h _ _ => some h.len
  | .readBath h => some h.len
  | .drawerLoaded h _ _ => some h.len
  | .drawerUnloaded h _ _ => some h.len
  | .drawerServiceOut h _ _ => some h.len
  | .drawerServiceIn h _ _ => some h.len
  | .readDryer h => some h.len
  | .claimFinish h _ => some h.len
  | .startFinish h _ => some h.len
  | .readFinisher h => some h.len
  | .status h => some h.len
  | .ack h => some h.len
  | .readNotice h _ => some h.len
  | .setThreshold h _ => some h.len
  | .setCounter h _ _ _ _ _ => some h.len
  | .clearCounters h => some h.len
  | .readCounters h => some h.len
  | .ping h => some h.len
  | .portInfo h => some h.len
  | .reset _ => none
  | .sstopAsserted => none
  | .sstopReleased => none
  | .sensorPulse _ => none
  | .graceEnd _ => none
  | .windowEnd _ => none
  | .dimWatchExpiry _ => none
  | .deadWatchExpiry _ => none
  | .overtimeExpiry _ => none
  | .tailExpiry _ => none
  | .lineSecond => none
  | .storeComplete => none
  | .overdueExpiry _ => none
  | .dryingExpiry _ => none
  | .overdryExpiry _ => none
  | .portLost _ => none
  | .badLen _ _ => none
  | .missingStopBit _ => none
  | .byteGapTimeout _ _ => none
  | .frameCrcError _ => none
  | .frameOverrun _ => none
  | .unknownRequest _ _ => none
  | .answerSent _ => none
  | .frameBegins _ => none
  | .frameByte _ _ => none

/-- The level of SKEY that a STORE command carries (R41). -/
def skeyOf : Instr → Bool
  | .store _ k => k
  | _ => false

/-- The frame of a KIND and its field bytes, with LEN and CRC-8 (R178). -/
def frameOf (kind : Nat) (fields : List Byte) : List Byte :=
  let body := BitVec.ofNat 8 (fields.length + 1) :: BitVec.ofNat 8 kind :: fields
  syncByte :: body ++ [crc8 body]

/-- The frame a request command is sent as (R178); absent for an event. -/
def encodeFrame (i : Instr) : Option (List Byte) :=
  (fieldsOf i).map fun x => frameOf x.1.kind x.2.2

/-- No row of spec/opcode_table.json gives bits, so no word spells a command. -/
def decodeTableWord (_nbits _w : Nat) : Option Instr := none

end Sys2Proof
end

