-- ==== Sys2Proof/Config.lean ====
section
/-! DEFINITION. The figures the spec fixes for every part, and the FREE VALUES: constants without a body for what
the spec leaves open. Nothing can be proved about a free value, so every claim holds whatever it is. -/

namespace Sys2Proof.Config

/-- R184: line time is kept to the millisecond and wraps after 2³² s. -/
def timeModulus : Nat := 4294967296000
/-- R184, R59: the wrap of line time in microseconds. -/
def microModulus : Nat := 4294967296000000
/-- R184: the wrap of line time in whole seconds. -/
def secondsModulus : Nat := 4294967296
/-- R42: a store lasts 350 ms. -/
def storeMs : Nat := 350
/-- R179: more than 20 ms since the previous byte of a frame discards it. -/
def gapMs : Nat := 20
/-- R71: CLEAR_CHANNEL waits for 5 s without a pulse. -/
def quietMs : Nat := 5000
/-- R57: an irradiance window is one second. -/
def windowMs : Nat := 1000
/-- R40: the wear count does not go past 20,000. -/
def wearMax : Nat := 20000
/-- R49: the accumulator and the irradiance saturate here. -/
def doseMax : Nat := 16777215
/-- R34, R120, R172: the largest setting value, dissolved mass and counter value. -/
def valueMax : Nat := 4294967295
/-- R52, R49: the cap of predictions, elapsed figures, stray pulses and error counters. -/
def figureMax : Nat := 65535

/-- How far a store had gone when a reset cut it short: the cases of R44. -/
inductive StoreProgress where
  /-- The body is not yet fully written. -/
  | bodyPartial
  /-- Body and CRC written, the wear record not yet touched. -/
  | bodyWritten
  /-- The first copy of the wear record was being written. -/
  | firstCopy
  /-- The second copy of the wear record was being written. -/
  | secondCopy
deriving DecidableEq, Repr, Inhabited

/-- FREE VALUE (assumption 6): how far a store has gone after `ms` milliseconds. R44 lists the cases and gives no
times for them. -/
opaque storeProgress : (ms : Nat) → StoreProgress

/-- FREE VALUE (assumption 7): what READ_UNIT shows at `now` in its sub-stage field for the VACANT unit of a
code; R92 states no value. -/
opaque vacantUnitSubStage : (unit now : Nat) → Option Nat

/-- FREE VALUE (assumption 7): what READ_FINISHER shows in its sub-stage field for a VACANT finisher; R164 states
no value. -/
opaque vacantFinisherSubStage : (now : Nat) → Option Nat

/-- FREE VALUE (assumption 23): the order in which the effects of one event on several channels or ports are taken at
`now`; no rule orders them. -/
opaque turn : (now : Nat) → Nat

/-- FREE VALUE (assumption 8): the number sent for a value that does not fit its field of `width` bytes; R181 states
no result for it (an achieved depth above 65,535 µm can be computed by R111). -/
opaque overwide : (width value : Nat) → Nat

end Sys2Proof.Config
end

