-- ==== Sys2Proof/Machine/State.lean ====
section
/-! DEFINITION. The state of the 4806 as plain data: every record, collection, counter, timer and line the spec names,
the queue of waiting commands, and the state right after reset. -/

namespace Sys2Proof.Machine

/-! ## Tables indexed by port, channel and unit -/

/-- One value for each of the five ports. -/
structure PerPort (α : Type) where
  e : α
  a : α
  b : α
  w : α
  f : α
deriving DecidableEq, Repr

/-- One value for each of the six dose channels. -/
structure PerChannel (α : Type) where
  ab : α
  am : α
  bb : α
  bm : α
  fc : α
  fa : α
deriving DecidableEq, Repr

/-- One value for each of the two exposure units. -/
structure PerUnit (α : Type) where
  a : α
  b : α
deriving DecidableEq, Repr

/-! ## Dockets (spec/01_plate_dockets.md) -/

/-- The eleven live docket states (section 1.4); a FREE slot holds no docket. -/
inductive DocketState where
  | registered | atExposure | washQueued | onBelt | dryQueued | atDryer | finishQueued | atFinisher | held | done
  | scrapped
deriving DecidableEq, Repr

/-- The sub-stage field (section 1.11). -/
inductive SubStage where
  | none | backReady | backRun | mainReady | mainRun | ready | run | reserved | drying | dry
deriving DecidableEq, Repr

inductive PlateClass where
  | normal | rush
deriving DecidableEq, Repr

/-- Reasons of a hold (section "The hold record"). -/
inductive HoldReason where
  | operator | stationLost | stopped | lampOut | overtime | beltStopped | overdue | underwash | overwash
deriving DecidableEq, Repr

/-- Reasons of an abort (spec/03_dose_channels.md section 3.8). -/
inductive AbortReason where
  | lampOut | overtime | stopped | operator | stationLost | cancelled
deriving DecidableEq, Repr

inductive HoldStage where
  | back | main | finish | wash
deriving DecidableEq, Repr

inductive HoldLocation where
  | unitA | unitB | finisher | washExit
deriving DecidableEq, Repr

/-- The hold record of R7. `first` is the BACK, MAIN or UV-C partial dose, `second` the UV-A one. -/
structure HoldRecord where
  reason   : HoldReason
  stage    : HoldStage
  location : HoldLocation
  timeHeld : Nat
  first    : Option Nat
  second   : Option Nat
deriving DecidableEq, Repr

inductive ScrapMark where
  | atExit | atUnload
deriving DecidableEq, Repr

/-- The copy of the recipe a docket takes at CLAIM (R33). -/
structure Snapshot where
  thickness : Nat
  relief    : Nat
  back      : Nat
  main      : Nat
  w0        : Nat
  margin    : Nat
  dryTime   : Nat
  uvc       : Nat
  uva       : Nat
deriving DecidableEq, Repr

/-- A wash pass entry (R6). -/
structure WashPass where
  feedTime     : Nat
  w            : Nat
  vReq         : Nat
  vBelt        : Nat
  expectedExit : Nat
  exitTime     : Option Nat
  depth        : Option Nat
  underwash    : Bool
  overwash     : Bool
  overdue      : Bool
  beltStopped  : Bool
deriving DecidableEq, Repr

/-- The docket record (section 1.3). Its slot is the place it has in the docket table. `regOrder` and `unloadOrder` are
the registration order and unload order that R12 keeps beside the record; `regOrder` also tells one docket from
a later one of the same number (R5). -/
structure Docket where
  number        : Nat
  state         : DocketState
  sub           : SubStage
  recipe        : Fin 16
  cls           : PlateClass
  pref          : Option UnitId
  area          : Nat
  coverage      : Nat
  registeredAt  : Nat
  snapshot      : Option Snapshot
  unit          : Option UnitId
  backDelivered : Option Nat
  mainDelivered : Option Nat
  dimSeen       : Bool
  agedSeen      : Bool
  passOver      : Nat
  passes        : List WashPass
  removed       : Nat
  drawer        : Option (Fin 8)
  dryStart      : Option Nat
  dryEnd        : Option Nat
  shortDry      : Bool
  overdry       : Bool
  finishC       : Option Nat
  finishA       : Option Nat
  hold          : Option HoldRecord
  scrapMark     : Option ScrapMark
  doneAt        : Option Nat
  regOrder      : Nat
  unloadOrder   : Nat
deriving DecidableEq, Repr

/-! ## Recipes, settings and the stored image (spec/02_recipes_and_line_settings.md) -/

/-- A recipe record (R29). -/
structure Recipe where
  valid   : Bool
  name    : List Byte
  figures : Snapshot
deriving DecidableEq, Repr

/-- The 17 line settings (R34). `transportHold` is TRANSPORT_FAILSAFE: 0 DROP, 1 HOLD. -/
structure LineSettings where
  beltPlaces    : Nat
  pathLength    : Nat
  speedMin      : Nat
  speedMax      : Nat
  speedBand     : Nat
  derate        : Nat
  loadWarn      : Nat
  loadStop      : Nat
  density       : Nat
  bathVolMin    : Nat
  bathVolMax    : Nat
  overwashLimit : Nat
  exitGrace     : Nat
  drawers       : Nat
  overdryLimit  : Nat
  transportHold : Nat
  silenceLimit  : Nat
deriving DecidableEq, Repr

/-- The eight settings of one dose channel (R37). -/
structure ChanSettings where
  quantum      : Nat
  grace        : Nat
  dimInterval  : Nat
  deadInterval : Nat
  tail         : Nat
  overtime     : Nat
  aged         : Nat
  eRef         : Nat
deriving DecidableEq, Repr

/-- The working copy (section 2.1): recipes, line settings, channel settings and the level of each notice kind. -/
structure WorkingCopy where
  recipes  : Vector Recipe 16
  line     : LineSettings
  channels : PerChannel ChanSettings
  levels   : Vector Nat 17
deriving DecidableEq, Repr

/-- The body of the stored image with its CRC-16 (R40). -/
structure ImageBody where
  contents : WorkingCopy
  crc      : BitVec 16
deriving DecidableEq, Repr

/-- The stored image (R40). No body: never written, or written in part only (its CRC does not match).
A copy of the wear record is absent when it fails its check. -/
structure StoredImage where
  body  : Option ImageBody
  wear1 : Option Nat
  wear2 : Option Nat
deriving DecidableEq, Repr

/-- A store in flight (R42): the contents it writes and the moment (ms) it was taken. -/
structure StoreJob where
  contents : WorkingCopy
  takenAt  : Nat
deriving DecidableEq, Repr

/-- The last result of the store information (R47). -/
inductive StoreResult where
  | none | stored | imageBad
deriving DecidableEq, Repr

/-- The settings store: image, store in flight and store information (R47). -/
structure Store where
  image      : StoredImage
  job        : Option StoreJob
  wear       : Nat
  lastResult : StoreResult
  resultTime : Option Nat
deriving DecidableEq, Repr

/-! ## Dose channels (spec/03_dose_channels.md) -/

inductive ChannelState where
  | idle | exposing | tail | fault
deriving DecidableEq, Repr

/-- The last end of a channel (R49). -/
inductive LastEnd where
  | none
  | reached
  | aborted (r : AbortReason)
deriving DecidableEq, Repr

/-- The run docket as it was at the start (R51). `order` is the docket's `regOrder`. -/
structure RunDocket where
  number : Nat
  order  : Nat
  recipe : Fin 16
  cls    : PlateClass
  unit   : Option UnitId
deriving DecidableEq, Repr

/-- The irradiance window in progress (R57). -/
structure Window where
  openedAt : Nat
  pulses   : Nat
deriving DecidableEq, Repr

/-- The channel record (R49), its permit line LPM, and its timers. A timer is the moment it was last started (in ms, that
of the dim watch in µs: R59), absent while it does not run; the overtime watch runs while EXPOSING with an overtime
limit. -/
structure Channel where
  state       : ChannelState
  permit      : Bool
  latched     : Option ChanSettings
  run         : Option RunDocket
  target      : Option Nat
  accumulator : Nat
  prediction  : Nat
  overtime    : Option Nat
  elapsed     : Nat
  irradiance  : Option Nat
  health      : Option Nat
  lastEnd     : LastEnd
  stray       : Nat
  idleCount   : Nat
  lastPulse   : Option Nat
  dimRaised   : Bool
  agedRaised  : Bool
  startedAt   : Nat
  inGrace     : Bool
  window      : Option Window
  dimFrom     : Option Nat
  deadFrom    : Option Nat
  tailFrom    : Option Nat
deriving DecidableEq, Repr

/-! ## Exposure units and finisher (spec/04_exposure_units.md, spec/08_light_finishing.md) -/

inductive Stage where
  | back | main
deriving DecidableEq, Repr

/-- A unit record (R75): the fields present in each state are the arguments of its constructor. -/
inductive UnitRecord where
  | vacant
  | loaded (docket : Nat)
  | running (docket : Nat) (stage : Stage)
  | halted (docket : Nat) (stage : Stage) (reason : HoldReason)
deriving DecidableEq, Repr

/-- A finisher mark (section 8.1). -/
inductive Mark where
  | openMark | reached
deriving DecidableEq, Repr

/-- The finisher record (R153): UV-C mark, then UV-A mark. A LOADED finisher has both marks OPEN. -/
inductive FinisherRecord where
  | vacant
  | loaded (docket : Nat)
  | running (docket : Nat) (uvc uva : Mark)
  | halted (docket : Nat) (uvc uva : Mark) (reason : HoldReason)
deriving DecidableEq, Repr

/-! ## Washout, bath and dryer (spec/05, 06 and 07) -/

/-- A belt record (R97). -/
structure BeltRecord where
  docket        : Nat
  feedTime      : Nat
  expectedExit  : Nat
  overdueRaised : Bool
deriving DecidableEq, Repr

inductive BathCondition where
  | unknown | normal | warn | low | spent
deriving DecidableEq, Repr

/-- The solvent bath account (R120). -/
structure Bath where
  mass       : Nat
  volume     : Nat
  condition  : BathCondition
  correction : Option Int
  reportedAt : Option Nat
deriving DecidableEq, Repr

/-- A running drawer timer: the moment (ms) it started and its whole length in seconds (R137). -/
structure DrawerTimer where
  startedAt : Nat
  seconds   : Nat
deriving DecidableEq, Repr

/-- A drawer record (R137): the fields present in each state are the arguments of its constructor. -/
inductive Drawer where
  | empty
  | reserved (docket : Nat)
  | drying (docket : Nat) (timer : DrawerTimer)
  | dry (docket : Nat) (overdry : Option DrawerTimer) (raised : Bool)
  | out
deriving DecidableEq, Repr

/-! ## Notices, counters and ports (spec/09 and 10) -/

/-- The 17 notice kinds (section 9.1). -/
inductive NoticeKind where
  | doseReached | exposureHalted | lampDim | lampAged | lampStuck | washReady | washOverdue | bathWarn | bathHalt
  | drawerAssigned | dryDone | overdry | plateHeld | plateDone | stationSilent | storeResult | docketsLow
deriving DecidableEq, Repr

/-- A pending notice record (R165). -/
structure Notice where
  count       : Nat
  latest      : Option Nat
  firstRaised : Nat
deriving DecidableEq, Repr

/-- The events a line counter can select, codes 0–15 (section 9.6). -/
inductive CounterEvent where
  | none | registered | exposed | fed | washed | dried | finished | scrapped | held | passOver | feedRefused
  | washQueueOccupancy | dryQueueOccupancy | drawersBusy | doseOvershoot | massAdded
deriving DecidableEq, Repr

/-- A line counter (R172). A filter part that is absent is ANY. -/
structure LineCounter where
  event   : CounterEvent
  recipe  : Option (Fin 16)
  cls     : Option PlateClass
  unit    : Option UnitId
  value   : Nat
  timeSet : Nat
deriving DecidableEq, Repr

inductive PortState where
  | down | online | lost
deriving DecidableEq, Repr

/-- The result codes (section 10.5). -/
inductive ResultCode where
  | ok | busy | wrongState | noRoom | unknown | notPermitted | range | badRecipe | stopped | channelFault | bathUnknown
  | bathLow | bathSpent | wait | empty | outOfOrder | limit | keyOff | worn | notHere | unknownRequest
deriving DecidableEq, Repr

/-- The field types of R181 (a name is a field form of its own). -/
inductive FieldType where
  | docket | dose | irradiance | time | mass | speed | depth | volume | load | area | figure | value | flags | code
  | bitmap
deriving DecidableEq, Repr

/-- A field of an answer (R181): always present, in a position that may be absent, a correction, or a name. -/
inductive Field where
  | num (t : FieldType) (v : Nat)
  | opt (t : FieldType) (v : Option Nat)
  | correction (v : Option Int)
  | name (cs : List Byte)
deriving DecidableEq, Repr

/-- A composed answer (R178, R180): its KIND, its result code and the fields after it. -/
structure Answer where
  kind   : Nat
  result : ResultCode
  fields : List Field
deriving DecidableEq, Repr

/-- A port's receiver (R179). `at` is the moment (ms) of the previous byte of the frame. -/
inductive Receiver where
  | hunting
  | lenExpected (lastByte : Nat)
  | inFrame (received : List Byte) (expected : Nat) (lastByte : Nat)
deriving DecidableEq, Repr

/-- A port record (R177) with what the notice unit holds for the port (R165 to R171): the notice records (kind k at
index k − 1, absent = not pending), the STATUS snapshot (0 = kind not in it), the threshold and the attention
line. The answer is present exactly while "answer pending" is yes. -/
structure PortRecord where
  state     : PortState
  lastHeard : Option Nat
  answer    : Option Answer
  framing   : Nat
  crc       : Nat
  overrun   : Nat
  receiver  : Receiver
  notices   : Vector (Option Notice) 17
  snapshot  : Option (Vector Nat 17)
  threshold : Nat
  attention : Bool
deriving DecidableEq, Repr

/-! ## The machine -/

/-- Everything the 4806 holds, its output lines, the input lines it has sampled, and the commands that wait. -/
structure State where
  /-- Internal line time in ms (R184), below 2³² s. -/
  now          : Nat
  /-- The model's own: microseconds past the millisecond count, 0–999. The dim watch alone is timed on it (R59). -/
  micro        : Nat
  /-- SSTOP is asserted (R70). -/
  sstop        : Bool
  /-- RATE as sampled at reset (R177). -/
  rateHigh     : Bool
  /-- The transport permit line TPM (R116). -/
  tpm          : Bool
  ports        : PerPort PortRecord
  /-- The 48 slots (R1); slot i + 1 at index i. -/
  slots        : Vector (Option Docket) 48
  /-- The docket number counter (R3). -/
  nextNumber   : Nat
  /-- The model's own: the next registration or unload stamp (R12). -/
  nextOrder    : Nat
  exposurePool : List Nat
  finishPool   : List Nat
  working      : WorkingCopy
  store        : Store
  channels     : PerChannel Channel
  units        : PerUnit UnitRecord
  finisher     : FinisherRecord
  washQueue    : List Nat
  belt         : List BeltRecord
  beltSpeed    : Option Nat
  bath         : Bath
  /-- Drawer d at index d − 1. -/
  drawers      : Vector Drawer 8
  dryQueue     : List Nat
  counters     : Vector LineCounter 4
  /-- The commands that wait, first in, first out. -/
  pending      : List Instr
deriving DecidableEq, Repr

/-- No rule of the spec stops the 4806: every command and event it describes leaves it running, so no fault exists.
(Safe: there is nothing to raise.) -/
inductive Fault
deriving DecidableEq, Repr

/-- Why a command has no next state. -/
inductive Refusal where
  /-- Raised by an arm of exec whose command has no meaning yet. Safe: nothing can be proved about its effect. -/
  | notModelled (mnemonic : String)
deriving DecidableEq, Repr

/-! ## Values after reset -/

/-- The factory recipe of R29. -/
def Recipe.factory : Recipe :=
  { valid := false, name := [],
    figures := { thickness := 760, relief := 100, back := 0, main := 1, w0 := 40, margin := 1000, dryTime := 10,
                 uvc := 0, uva := 0 } }

/-- The default column of the table of section 2.2. -/
def LineSettings.factory : LineSettings :=
  { beltPlaces := 3, pathLength := 1600, speedMin := 60, speedMax := 1200, speedBand := 100, derate := 3,
    loadWarn := 600, loadStop := 800, density := 1050, bathVolMin := 500, bathVolMax := 2500, overwashLimit := 1400,
    exitGrace := 60, drawers := 6, overdryLimit := 30, transportHold := 1, silenceLimit := 10 }

/-- The default column of the table of section 2.3. -/
def ChanSettings.factory : ChanSettings :=
  { quantum := 50, grace := 1500, dimInterval := 4000, deadInterval := 500, tail := 2000, overtime := 150, aged := 700,
    eRef := 0 }

/-- The factory defaults of a bad body (R45), with the default levels of section 9.1. -/
def WorkingCopy.factory : WorkingCopy :=
  { recipes := Vector.replicate 16 Recipe.factory
    line := LineSettings.factory
    channels := ⟨.factory, .factory, .factory, .factory, .factory, .factory⟩
    levels := #v[5, 7, 3, 2, 7, 2, 6, 3, 6, 4, 4, 3, 5, 2, 6, 2, 3] }

/-- "A part leaves manufacture with an unwritten image, whose body is bad and whose wear record is unreadable" (R40). -/
def StoredImage.unwritten : StoredImage := { body := none, wear1 := none, wear2 := none }

/-- The last column of the table of R49. The times of timers that do not run are the model's own. -/
def Channel.fresh : Channel :=
  { state := .idle, permit := false, latched := none, run := none, target := none, accumulator := 0, prediction := 0,
    overtime := none, elapsed := 0, irradiance := none, health := none, lastEnd := .none, stray := 0, idleCount := 0,
    lastPulse := none, dimRaised := false, agedRaised := false, startedAt := 0, inGrace := false, window := none,
    dimFrom := none, deadFrom := none, tailFrom := none }

/-- A port record after reset (R165, R167, R177). -/
def PortRecord.fresh : PortRecord :=
  { state := .down, lastHeard := none, answer := none, framing := 0, crc := 0, overrun := 0, receiver := .hunting,
    notices := Vector.replicate 17 none, snapshot := none, threshold := 1, attention := false }

/-- A line counter after reset (R172). -/
def LineCounter.fresh : LineCounter :=
  { event := .none, recipe := none, cls := none, unit := none, value := 0, timeSet := 0 }

/-- The bath account after reset (R120). -/
def Bath.fresh : Bath :=
  { mass := 0, volume := 0, condition := .unknown, correction := none, reportedAt := none }

/-- The machine right after the first reset of a part as it leaves manufacture (R40): its stored image is unwritten, so
the working copy holds the factory defaults and STORE_RESULT is pending at port E with attention asserted (R45).
RATE low and SSTOP released are the model's choice of input levels (assumption 5). -/
def State.reset : State :=
  { now := 0
    micro := 0
    sstop := false
    rateHigh := false
    tpm := false
    ports :=
      { e := { PortRecord.fresh with
                notices := (Vector.replicate 17 none).set 15 (some { count := 1, latest := none, firstRaised := 0 })
                attention := true }
        a := .fresh, b := .fresh, w := .fresh, f := .fresh }
    slots := Vector.replicate 48 none
    nextNumber := 1
    nextOrder := 0
    exposurePool := []
    finishPool := []
    working := .factory
    store := { image := .unwritten, job := none, wear := 0, lastResult := .imageBad, resultTime := some 0 }
    channels := ⟨.fresh, .fresh, .fresh, .fresh, .fresh, .fresh⟩
    units := ⟨.vacant, .vacant⟩
    finisher := .vacant
    washQueue := []
    belt := []
    beltSpeed := none
    bath := .fresh
    drawers := Vector.replicate 8 .empty
    dryQueue := []
    counters := Vector.replicate 4 .fresh
    pending := [] }

end Sys2Proof.Machine
end

