-- ==== Sys2Proof/Machine/Flags.lean ====
section
/-! DEFINITION. Code values, routing and ownership tables, and the computations of the flags: pass flags at an exit,
expectation flags at a FEED, lamp, dry and pass flag bytes. -/

namespace Sys2Proof.Machine

/-! ## Access to the indexed tables -/

def PerPort.get {α : Type} (t : PerPort α) : Port → α
  | .E => t.e | .A => t.a | .B => t.b | .W => t.w | .F => t.f

def PerPort.set {α : Type} (t : PerPort α) (p : Port) (x : α) : PerPort α :=
  match p with
  | .E => { t with e := x } | .A => { t with a := x } | .B => { t with b := x } | .W => { t with w := x }
  | .F => { t with f := x }

def PerPort.map {α β : Type} (f : α → β) (t : PerPort α) : PerPort β := ⟨f t.e, f t.a, f t.b, f t.w, f t.f⟩

def PerChannel.get {α : Type} (t : PerChannel α) : ChannelId → α
  | .AB => t.ab | .AM => t.am | .BB => t.bb | .BM => t.bm | .FC => t.fc | .FA => t.fa

def PerChannel.set {α : Type} (t : PerChannel α) (c : ChannelId) (x : α) : PerChannel α :=
  match c with
  | .AB => { t with ab := x } | .AM => { t with am := x } | .BB => { t with bb := x } | .BM => { t with bm := x }
  | .FC => { t with fc := x } | .FA => { t with fa := x }

def PerChannel.map {α β : Type} (f : α → β) (t : PerChannel α) : PerChannel β :=
  ⟨f t.ab, f t.am, f t.bb, f t.bm, f t.fc, f t.fa⟩

def PerUnit.get {α : Type} (t : PerUnit α) : UnitId → α
  | .A => t.a | .B => t.b

def PerUnit.set {α : Type} (t : PerUnit α) (u : UnitId) (x : α) : PerUnit α :=
  match u with
  | .A => { t with a := x } | .B => { t with b := x }

/-! ## Ports, channels and units -/

def allPorts : List Port := [.E, .A, .B, .W, .F]
def allChannels : List ChannelId := [.AB, .AM, .BB, .BM, .FC, .FA]

/-- The port codes of section 10.1. -/
def portCode : Port → Nat
  | .E => 1 | .A => 2 | .B => 3 | .W => 4 | .F => 5

/-- The channel codes of section 3.1. -/
def channelCode : ChannelId → Nat
  | .AB => 0 | .AM => 1 | .BB => 2 | .BM => 3 | .FC => 4 | .FA => 5

def channelOfCode : Nat → Option ChannelId
  | 0 => some .AB | 1 => some .AM | 2 => some .BB | 3 => some .BM | 4 => some .FC | 5 => some .FA | _ => none

/-- The owner of a channel (section 3.1): a unit's stage, or the finisher. -/
inductive Owner where
  | unit (u : UnitId) (st : Stage)
  | finisher
deriving DecidableEq, Repr

def channelOwner : ChannelId → Owner
  | .AB => .unit .A .back | .AM => .unit .A .main | .BB => .unit .B .back | .BM => .unit .B .main
  | .FC => .finisher | .FA => .finisher

/-- The owning port of a channel (section 3.1). -/
def channelPort : ChannelId → Port
  | .AB => .A | .AM => .A | .BB => .B | .BM => .B | .FC => .F | .FA => .F

/-- The channel that runs a unit's stage (section 4.1). -/
def stageChannel : UnitId → Stage → ChannelId
  | .A, .back => .AB | .A, .main => .AM | .B, .back => .BB | .B, .main => .BM

def unitPort : UnitId → Port
  | .A => .A | .B => .B

/-- The unit a port serves (R75). -/
def portUnit : Port → Option UnitId
  | .A => some .A | .B => some .B | _ => none

def unitLocation : UnitId → HoldLocation
  | .A => .unitA | .B => .unitB

def stageHold : Stage → HoldStage
  | .back => .back | .main => .main

def stageRunning : Stage → SubStage
  | .back => .backRun | .main => .mainRun

def stageReady : Stage → SubStage
  | .back => .backReady | .main => .mainReady

/-! ## Code values (sections 1.11, 3.11, 8.8, 9.6 and 10.5) -/

def DocketState.code : DocketState → Nat
  | .registered => 1 | .atExposure => 2 | .washQueued => 3 | .onBelt => 4 | .dryQueued => 5 | .atDryer => 6
  | .finishQueued => 7 | .atFinisher => 8 | .held => 9 | .done => 10 | .scrapped => 11

def SubStage.code : SubStage → Nat
  | .none => 0 | .backReady => 1 | .backRun => 2 | .mainReady => 3 | .mainRun => 4 | .ready => 5 | .run => 6
  | .reserved => 7 | .drying => 8 | .dry => 9

def PlateClass.code : PlateClass → Nat
  | .normal => 0 | .rush => 1

def classOfCode : Nat → Option PlateClass
  | 0 => some .normal | 1 => some .rush | _ => none

def unitCode : UnitId → Nat
  | .A => 1 | .B => 2

/-- 0 ANY, 1 A, 2 B. -/
def prefCode : Option UnitId → Nat
  | none => 0 | some u => unitCode u

/-- A unit preference code; the outer option is absent for a code that is none of 0, 1, 2. -/
def prefOfCode : Nat → Option (Option UnitId)
  | 0 => some none | 1 => some (some .A) | 2 => some (some .B) | _ => none

def HoldReason.code : HoldReason → Nat
  | .operator => 1 | .stationLost => 2 | .stopped => 3 | .lampOut => 4 | .overtime => 5 | .beltStopped => 6
  | .overdue => 7 | .underwash => 8 | .overwash => 9

/-- The hold reason of an abort (section 3.8); CANCELLED has none. -/
def AbortReason.hold : AbortReason → Option HoldReason
  | .lampOut => some .lampOut | .overtime => some .overtime | .stopped => some .stopped | .operator => some .operator
  | .stationLost => some .stationLost | .cancelled => none

def HoldStage.code : HoldStage → Nat
  | .back => 1 | .main => 2 | .finish => 3 | .wash => 4

def HoldLocation.code : HoldLocation → Nat
  | .unitA => 1 | .unitB => 2 | .finisher => 3 | .washExit => 4

def Stage.code : Stage → Nat
  | .back => 1 | .main => 2

def ScrapMark.code : ScrapMark → Nat
  | .atExit => 1 | .atUnload => 2

/-- 0 none, 1 SCRAP_AT_EXIT, 2 SCRAP_AT_UNLOAD. -/
def scrapCode : Option ScrapMark → Nat
  | none => 0 | some m => m.code

def ChannelState.code : ChannelState → Nat
  | .idle => 0 | .exposing => 1 | .tail => 2 | .fault => 3

def LastEnd.code : LastEnd → Nat
  | .none => 0 | .reached => 1 | .aborted _ => 2

/-- "hold reason codes 1–5; 0 for CANCELLED and when the last end is not ABORTED" (section 3.11). -/
def LastEnd.reasonCode : LastEnd → Nat
  | .aborted r => (r.hold.map HoldReason.code).getD 0
  | _ => 0

def UnitRecord.code : UnitRecord → Nat
  | .vacant => 0 | .loaded _ => 1 | .running _ _ => 2 | .halted _ _ _ => 3

def FinisherRecord.code : FinisherRecord → Nat
  | .vacant => 0 | .loaded _ => 1 | .running _ _ _ => 2 | .halted _ _ _ _ => 3

def Mark.code : Mark → Nat
  | .openMark => 0 | .reached => 1

def BathCondition.code : BathCondition → Nat
  | .unknown => 0 | .normal => 1 | .warn => 2 | .low => 3 | .spent => 4

def Drawer.code : Drawer → Nat
  | .empty => 0 | .reserved _ => 1 | .drying _ _ => 2 | .dry _ _ _ => 3 | .out => 4

def PortState.code : PortState → Nat
  | .down => 0 | .online => 1 | .lost => 2

def StoreResult.code : StoreResult → Nat
  | .none => 0 | .stored => 1 | .imageBad => 2

def CounterEvent.code : CounterEvent → Nat
  | .none => 0 | .registered => 1 | .exposed => 2 | .fed => 3 | .washed => 4 | .dried => 5 | .finished => 6
  | .scrapped => 7 | .held => 8 | .passOver => 9 | .feedRefused => 10 | .washQueueOccupancy => 11
  | .dryQueueOccupancy => 12 | .drawersBusy => 13 | .doseOvershoot => 14 | .massAdded => 15

def eventOfCode : Nat → Option CounterEvent
  | 0 => some .none | 1 => some .registered | 2 => some .exposed | 3 => some .fed | 4 => some .washed
  | 5 => some .dried | 6 => some .finished | 7 => some .scrapped | 8 => some .held | 9 => some .passOver
  | 10 => some .feedRefused | 11 => some .washQueueOccupancy | 12 => some .dryQueueOccupancy
  | 13 => some .drawersBusy | 14 => some .doseOvershoot | 15 => some .massAdded | _ => none

/-- The recipe part of a counter filter: 0–15, or 255 for ANY (R175). -/
def recipePartOfCode (c : Nat) : Option (Option (Fin 16)) :=
  if c = 255 then some none else if h : c < 16 then some (some ⟨c, h⟩) else none

/-- The class part of a counter filter: 0 NORMAL, 1 RUSH, 2 ANY (R175). -/
def classPartOfCode : Nat → Option (Option PlateClass)
  | 0 => some (some .normal) | 1 => some (some .rush) | 2 => some none | _ => none

def recipePartCode : Option (Fin 16) → Nat
  | none => 255 | some r => r.val

def classPartCode : Option PlateClass → Nat
  | none => 2 | some c => c.code

/-- The result codes of section 10.5. -/
def ResultCode.code : ResultCode → Nat
  | .ok => 0x00 | .busy => 0x01 | .wrongState => 0x02 | .noRoom => 0x03 | .unknown => 0x04 | .notPermitted => 0x05
  | .range => 0x06 | .badRecipe => 0x07 | .stopped => 0x08 | .channelFault => 0x09 | .bathUnknown => 0x0A
  | .bathLow => 0x0B | .bathSpent => 0x0C | .wait => 0x0D | .empty => 0x0E | .outOfOrder => 0x0F | .limit => 0x10
  | .keyOff => 0x11 | .worn => 0x12 | .notHere => 0x13 | .unknownRequest => 0x14

def boolCode (b : Bool) : Nat := if b then 1 else 0

/-! ## Notice kinds and routing (section 9.1) -/

def allKinds : List NoticeKind :=
  [.doseReached, .exposureHalted, .lampDim, .lampAged, .lampStuck, .washReady, .washOverdue, .bathWarn, .bathHalt,
   .drawerAssigned, .dryDone, .overdry, .plateHeld, .plateDone, .stationSilent, .storeResult, .docketsLow]

/-- The place of a kind in the notice tables: kind number less 1. -/
def NoticeKind.idx : NoticeKind → Fin 17
  | .doseReached => 0 | .exposureHalted => 1 | .lampDim => 2 | .lampAged => 3 | .lampStuck => 4 | .washReady => 5
  | .washOverdue => 6 | .bathWarn => 7 | .bathHalt => 8 | .drawerAssigned => 9 | .dryDone => 10 | .overdry => 11
  | .plateHeld => 12 | .plateDone => 13 | .stationSilent => 14 | .storeResult => 15 | .docketsLow => 16

/-- The kind numbers 1–17 of section 9.1. -/
def NoticeKind.number (k : NoticeKind) : Nat := k.idx.val + 1

def kindOfNumber (n : Nat) : Option NoticeKind := allKinds.find? fun k => k.number == n

/-- The kinds each port holds records for (the second table of section 9.1). -/
def routed : Port → NoticeKind → Bool
  | .E, k => k ∈ [.lampAged, .lampStuck, .washOverdue, .bathWarn, .bathHalt, .overdry, .plateHeld, .plateDone,
                  .stationSilent, .storeResult, .docketsLow]
  | .A, k => k ∈ [.doseReached, .exposureHalted, .lampDim, .lampAged, .lampStuck, .stationSilent]
  | .B, k => k ∈ [.doseReached, .exposureHalted, .lampDim, .lampAged, .lampStuck, .stationSilent]
  | .W, k => k ∈ [.washReady, .washOverdue, .bathWarn, .bathHalt, .stationSilent]
  | .F, k => k ∈ [.doseReached, .exposureHalted, .lampDim, .lampAged, .lampStuck, .drawerAssigned, .dryDone, .overdry,
                  .stationSilent]

/-! ## Setting items (sections 2.2 and 2.3) -/

inductive LineItem where
  | beltPlaces | pathLength | speedMin | speedMax | speedBand | derate | loadWarn | loadStop | density | bathVolMin
  | bathVolMax | overwashLimit | exitGrace | drawers | overdryLimit | transportFailsafe | silenceLimit
deriving DecidableEq, Repr

inductive ChanItem where
  | quantum | grace | dimInterval | deadInterval | tail | overtime | aged | eRef
deriving DecidableEq, Repr

def lineItemOfCode : Nat → Option LineItem
  | 0 => some .beltPlaces | 1 => some .pathLength | 2 => some .speedMin | 3 => some .speedMax | 4 => some .speedBand
  | 5 => some .derate | 6 => some .loadWarn | 7 => some .loadStop | 8 => some .density | 9 => some .bathVolMin
  | 10 => some .bathVolMax | 11 => some .overwashLimit | 12 => some .exitGrace | 13 => some .drawers
  | 14 => some .overdryLimit | 15 => some .transportFailsafe | 16 => some .silenceLimit | _ => none

def chanItemOfCode : Nat → Option ChanItem
  | 32 => some .quantum | 33 => some .grace | 34 => some .dimInterval | 35 => some .deadInterval | 36 => some .tail
  | 37 => some .overtime | 38 => some .aged | 39 => some .eRef | _ => none

def LineSettings.get (l : LineSettings) : LineItem → Nat
  | .beltPlaces => l.beltPlaces | .pathLength => l.pathLength | .speedMin => l.speedMin | .speedMax => l.speedMax
  | .speedBand => l.speedBand | .derate => l.derate | .loadWarn => l.loadWarn | .loadStop => l.loadStop
  | .density => l.density | .bathVolMin => l.bathVolMin | .bathVolMax => l.bathVolMax
  | .overwashLimit => l.overwashLimit | .exitGrace => l.exitGrace | .drawers => l.drawers
  | .overdryLimit => l.overdryLimit | .transportFailsafe => l.transportHold | .silenceLimit => l.silenceLimit

def LineSettings.set (l : LineSettings) (i : LineItem) (v : Nat) : LineSettings :=
  match i with
  | .beltPlaces => { l with beltPlaces := v }
  | .pathLength => { l with pathLength := v }
  | .speedMin => { l with speedMin := v }
  | .speedMax => { l with speedMax := v }
  | .speedBand => { l with speedBand := v }
  | .derate => { l with derate := v }
  | .loadWarn => { l with loadWarn := v }
  | .loadStop => { l with loadStop := v }
  | .density => { l with density := v }
  | .bathVolMin => { l with bathVolMin := v }
  | .bathVolMax => { l with bathVolMax := v }
  | .overwashLimit => { l with overwashLimit := v }
  | .exitGrace => { l with exitGrace := v }
  | .drawers => { l with drawers := v }
  | .overdryLimit => { l with overdryLimit := v }
  | .transportFailsafe => { l with transportHold := v }
  | .silenceLimit => { l with silenceLimit := v }

/-- The range column of the table of section 2.2. TRANSPORT_FAILSAFE takes 0 as DROP and any other value as HOLD. -/
def lineRange : LineItem → Nat × Nat
  | .beltPlaces => (1, 3) | .pathLength => (200, 4000) | .speedMin => (20, 500) | .speedMax => (100, 3000)
  | .speedBand => (0, 300) | .derate => (0, 40) | .loadWarn => (50, 2000) | .loadStop => (100, 2500)
  | .density => (900, 1400) | .bathVolMin => (100, 5000) | .bathVolMax => (200, 9000) | .overwashLimit => (1000, 3000)
  | .exitGrace => (10, 600) | .drawers => (1, 8) | .overdryLimit => (0, 240) | .transportFailsafe => (0, 1)
  | .silenceLimit => (1, 60)

/-- The value SET_SETTING takes for a line item: clamped to its range (R34), then against the other member of its
pair as that stands (R35). -/
def lineTaken (l : LineSettings) (i : LineItem) (v : Nat) : Nat :=
  let c := clamp (lineRange i).1 (lineRange i).2 v
  match i with
  | .speedMin => min c (l.speedMax - 10)
  | .speedMax => max c (l.speedMin + 10)
  | .loadWarn => min c (l.loadStop - 10)
  | .loadStop => max c (l.loadWarn + 10)
  | .bathVolMin => min c (l.bathVolMax - 100)
  | .bathVolMax => max c (l.bathVolMin + 100)
  | _ => c

def ChanSettings.get (c : ChanSettings) : ChanItem → Nat
  | .quantum => c.quantum | .grace => c.grace | .dimInterval => c.dimInterval | .deadInterval => c.deadInterval
  | .tail => c.tail | .overtime => c.overtime | .aged => c.aged | .eRef => c.eRef

def ChanSettings.set (c : ChanSettings) (i : ChanItem) (v : Nat) : ChanSettings :=
  match i with
  | .quantum => { c with quantum := v }
  | .grace => { c with grace := v }
  | .dimInterval => { c with dimInterval := v }
  | .deadInterval => { c with deadInterval := v }
  | .tail => { c with tail := v }
  | .overtime => { c with overtime := v }
  | .aged => { c with aged := v }
  | .eRef => { c with eRef := v }

/-- The range column of the table of section 2.3. -/
def chanRange : ChanItem → Nat × Nat
  | .quantum => (1, 65535) | .grace => (0, 10000) | .dimInterval => (100, 1000000) | .deadInterval => (50, 10000)
  | .tail => (0, 5000) | .overtime => (110, 400) | .aged => (100, 1000) | .eRef => (0, 999999)

/-- The value taken for a channel item (R37). -/
def chanTaken (i : ChanItem) (v : Nat) : Nat := clamp (chanRange i).1 (chanRange i).2 v

/-! ## Recipes (R31) -/

/-- The figures a SET_RECIPE takes: each clamped to its range, the relief last against the clamped thickness. -/
def Snapshot.taken (f : Snapshot) : Snapshot :=
  let t := clamp 760 7000 f.thickness
  { thickness := t
    relief := min (clamp 100 4000 f.relief) (t - 100)
    back := clamp 0 9999 f.back
    main := clamp 1 9999 f.main
    w0 := clamp 40 400 f.w0
    margin := clamp 1000 1500 f.margin
    dryTime := clamp 10 300 f.dryTime
    uvc := clamp 0 9999 f.uvc
    uva := clamp 0 9999 f.uva }

/-- The name a SET_RECIPE takes: the first 12 characters, a character outside 20h–7Eh as 3Fh. -/
def nameTaken (cs : List Byte) : List Byte :=
  (cs.take 12).map fun c => if 0x20 ≤ c.toNat ∧ c.toNat ≤ 0x7E then c else 0x3F

/-! ## Flag computations -/

/-- Lamp flags: DIM_SEEN 01h, AGED_SEEN 02h. -/
def Docket.lampFlags (d : Docket) : Nat := (if d.dimSeen then 1 else 0) + (if d.agedSeen then 2 else 0)

/-- Dry flags: SHORT_DRY 01h, OVERDRY 02h. -/
def Docket.dryFlags (d : Docket) : Nat := (if d.shortDry then 1 else 0) + (if d.overdry then 2 else 0)

/-- Pass flags: UNDERWASH 01h, OVERWASH 02h, OVERDUE 04h, BELT_STOPPED 08h. -/
def WashPass.flags (p : WashPass) : Nat :=
  (if p.underwash then 1 else 0) + (if p.overwash then 2 else 0) + (if p.overdue then 4 else 0)
    + (if p.beltStopped then 8 else 0)

/-- R100: UNDERWASH_EXPECTED 01h below SPEED_MIN, OVERWASH_EXPECTED 02h above SPEED_MAX. -/
def expectationFlags (l : LineSettings) (requiredSpeed : Nat) : Nat :=
  if requiredSpeed < l.speedMin then 1 else if l.speedMax < requiredSpeed then 2 else 0

/-- R111 and R112: the newest pass at its exit, with the exit time, the achieved depth `d` and the flags of the
comparison of `d` with the relief `r` still to be removed. -/
def WashPass.atExit (p : WashPass) (time d r overwashLimit : Nat) : WashPass :=
  { p with
    exitTime := some time
    depth := some d
    underwash := p.underwash || decide (d < r)
    overwash := p.overwash || decide (r * overwashLimit / 1000 < d) }

/-- R113: the hold reason of a pass, the first hold condition that stands. -/
def WashPass.holdReason (p : WashPass) : Option HoldReason :=
  if p.beltStopped then some .beltStopped
  else if p.overdue then some .overdue
  else if p.underwash then some .underwash
  else if p.overwash then some .overwash
  else none

/-! ## The bath's computed figures (R121, R122, R124, R125, R126) -/

/-- R121: the load in 0.1 g/L, 0 when the volume is 0. -/
def Bath.load (b : Bath) : Nat := if b.volume = 0 then 0 else b.mass / (10 * b.volume)

/-- R122: the condition of a bath that has been reported. -/
def Bath.judged (b : Bath) (l : LineSettings) : BathCondition :=
  if b.volume < l.bathVolMin then .low
  else if l.loadStop ≤ b.load then .spent
  else if l.loadWarn ≤ b.load then .warn
  else .normal

/-- R124: the derate factor in per mille. -/
def Bath.derate (b : Bath) (l : LineSettings) : Nat := max 250 (1000 - l.derate * b.load / 10)

/-- R125: the effective washout rate for a clean rate `w0`. -/
def Bath.rate (b : Bath) (l : LineSettings) (w0 : Nat) : Nat := max 1 (w0 * b.derate l / 1000)

/-- R126: the mass a pass dissolves. -/
def dissolved (area coverage removed density : Nat) : Nat := area * (100 - coverage) * removed * density / 1000000

/-! ## The washout figures (R99 to R101) -/

/-- R99: the relief still to be removed. -/
def Docket.reliefLeft (d : Docket) : Nat :=
  match d.snapshot with
  | some x => x.relief - d.removed
  | none => 0

/-- R99: the derated rate of a docket. -/
def Docket.rate (d : Docket) (b : Bath) (l : LineSettings) : Nat :=
  match d.snapshot with
  | some x => b.rate l x.w0
  | none => 1

/-- R100: the required time in the bath, in s. -/
def Docket.washTime (d : Docket) (b : Bath) (l : LineSettings) : Nat :=
  match d.snapshot with
  | some x => ceilDiv (d.reliefLeft * x.margin * 60) (d.rate b l * 1000)
  | none => 0

/-- R100: the required speed, before it is clamped. -/
def Docket.requiredSpeed (d : Docket) (b : Bath) (l : LineSettings) : Nat := l.pathLength * 60 / d.washTime b l

/-- R100: the effective required speed. -/
def Docket.vReq (d : Docket) (b : Bath) (l : LineSettings) : Nat :=
  clamp l.speedMin l.speedMax (d.requiredSpeed b l)

/-- R101: compatible with the belt at `vBelt`. -/
def compatible (l : LineSettings) (vBelt vReq : Nat) : Bool :=
  decide (vBelt ≤ vReq) && decide (vReq * (1000 - l.speedBand) ≤ vBelt * 1000)

end Sys2Proof.Machine
end

