-- ==== Sys2Proof/Machine/Ops.lean ====
section
/-! DEFINITION. The named operations that the commands share: line time, notices and attention, dockets and their
collections, line counters, the bath condition, drawer assignment, the transport permit, the dose channels and their
reports to the owners, and the silence of a port. -/

namespace Sys2Proof.Machine

/-! ## Parts of the state -/

def State.port (s : State) (p : Port) : PortRecord := s.ports.get p
def State.chan (s : State) (c : ChannelId) : Channel := s.channels.get c
def State.unit (s : State) (u : UnitId) : UnitRecord := s.units.get u

def State.setPort (s : State) (p : Port) (r : PortRecord) : State := { s with ports := s.ports.set p r }
def State.setChan (s : State) (c : ChannelId) (r : Channel) : State := { s with channels := s.channels.set c r }
def State.setUnit (s : State) (u : UnitId) (r : UnitRecord) : State := { s with units := s.units.set u r }
def State.setFinisher (s : State) (r : FinisherRecord) : State := { s with finisher := r }
def State.setSlots (s : State) (v : Vector (Option Docket) 48) : State := { s with slots := v }
def State.setExposurePool (s : State) (q : List Nat) : State := { s with exposurePool := q }
def State.setFinishPool (s : State) (q : List Nat) : State := { s with finishPool := q }
def State.setWashQueue (s : State) (q : List Nat) : State := { s with washQueue := q }
def State.setDryQueue (s : State) (q : List Nat) : State := { s with dryQueue := q }
def State.setBelt (s : State) (b : List BeltRecord) (v : Option Nat) : State := { s with belt := b, beltSpeed := v }
def State.setBath (s : State) (b : Bath) : State := { s with bath := b }
def State.setDrawers (s : State) (v : Vector Drawer 8) : State := { s with drawers := v }
def State.setCounters (s : State) (v : Vector LineCounter 4) : State := { s with counters := v }
def State.setWorking (s : State) (w : WorkingCopy) : State := { s with working := w }
def State.setStore (s : State) (x : Store) : State := { s with store := x }
def State.setTpm (s : State) (b : Bool) : State := { s with tpm := b }

/-! ## Line time (R184) -/

/-- The line time in seconds. -/
def State.seconds (s : State) : Nat := s.now / 1000

/-- The time in ms from `t` to `now`, across a wrap as the difference modulo 2³² s. -/
def since (t now : Nat) : Nat := (now + Config.timeModulus - t) % Config.timeModulus

/-- What is left at `now` of `ms` milliseconds that began at `t`. -/
def remainingMs (t ms now : Nat) : Nat := ms - since t now

/-- The line time in µs (R59). -/
def State.microNow (s : State) : Nat := s.now * 1000 + s.micro

/-- The time in µs from `t` to `now`, across a wrap as the difference modulo 2³² s. -/
def sinceMicro (t now : Nat) : Nat := (now + Config.microModulus - t) % Config.microModulus

/-- What is left at `now` of `us` microseconds that began at `t`. -/
def remainingMicros (t us now : Nat) : Nat := us - sinceMicro t now

/-! ## Notices and attention (R165 to R167) -/

/-- R167: the condition of a port's attention line. -/
def PortRecord.called (r : PortRecord) (levels : Vector Nat 17) : Bool :=
  allKinds.any fun k =>
    r.notices[k.idx].isSome && decide (1 ≤ levels[k.idx]) && decide (r.threshold ≤ levels[k.idx])

/-- R167: the attention line evaluated anew. -/
def PortRecord.evaluate (r : PortRecord) (levels : Vector Nat 17) : PortRecord := { r with attention := r.called levels }

/-- R166: a notice record after a raise that carries `docket`. -/
def raisedNotice (old : Option Notice) (docket : Option Nat) (time : Nat) : Notice :=
  match old with
  | none => { count := 1, latest := docket, firstRaised := time }
  | some x => { x with count := min 255 (x.count + 1), latest := docket }

/-- R166: kind `k` raised in a port's records, its attention line evaluated in the same step. -/
def PortRecord.raise (r : PortRecord) (k : NoticeKind) (docket : Option Nat) (time : Nat) (levels : Vector Nat 17) :
    PortRecord :=
  ({ r with notices := r.notices.set k.idx (some (raisedNotice r.notices[k.idx] docket time)) } : PortRecord).evaluate
    levels

/-- R166: a notice of kind `k` raised at port `p`. A port has no record for a kind that is not routed to it (R165). -/
def State.raise (s : State) (p : Port) (k : NoticeKind) (docket : Option Nat) : State :=
  if routed p k then s.setPort p ((s.port p).raise k docket s.seconds s.working.levels) else s

/-- R167: every attention line evaluated anew. -/
def State.evaluateAll (s : State) : State :=
  { s with ports := s.ports.map fun r => r.evaluate s.working.levels }

/-! ## Dockets (R1, R3, R5) -/

/-- The live docket that carries the number `n` (R1). -/
def State.docket (s : State) (n : Nat) : Option Docket :=
  s.slots.toList.findSome? fun o => o.filter fun d => d.number == n

/-- `f` applied to the live docket that carries `n`. -/
def State.updateDocket (s : State) (n : Nat) (f : Docket → Docket) : State :=
  s.setSlots (mapAll (fun o => o.map fun d => if d.number = n then f d else d) s.slots)

/-- The slot of docket `n` made FREE (R23). -/
def State.freeSlotOf (s : State) (n : Nat) : State :=
  s.setSlots (mapAll (fun o => o.filter fun d => d.number != n) s.slots)

/-- The live dockets in slot order. -/
def State.liveDockets (s : State) : List Docket := s.slots.toList.filterMap id

/-- The count of free slots (R1). -/
def State.freeSlots (s : State) : Nat := 48 - s.liveDockets.length

/-- The lowest-numbered FREE slot, as its place in the table (R1). -/
def State.lowestFree (s : State) : Option (Fin 48) := (List.finRange 48).find? fun i => s.slots[i].isNone

/-- The slot number 1–48 of docket `n`. -/
def State.slotOf (s : State) (n : Nat) : Option Nat :=
  ((List.finRange 48).find? fun i => s.slots[i].any fun d => d.number == n).map fun i => i.val + 1

/-- The docket number after `c`: 9999 is followed by 1 (R3). -/
def numberAfter (c : Nat) : Nat := if 9999 ≤ c then 1 else c + 1

/-- R3: the first number from `c` on that no live docket carries; at most `fuel` numbers are stepped past. -/
def State.firstUnused (s : State) : Nat → Nat → Nat
  | 0, c => c
  | fuel + 1, c => if (s.docket c).isSome then State.firstUnused s fuel (numberAfter c) else c

/-- The docket a channel run was started for, when it is still live (R5): same number and same registration. -/
def State.runDocket (s : State) (r : RunDocket) : Option Docket :=
  (s.docket r.number).filter fun d => d.regOrder == r.order

/-- `f` applied to the run docket, when it is still live. -/
def State.updateRunDocket (s : State) (r : RunDocket) (f : Docket → Docket) : State :=
  if (s.runDocket r).isSome then s.updateDocket r.number f else s

/-- `f` applied to the newest wash pass (R6). -/
def Docket.updateNewest (d : Docket) (f : WashPass → WashPass) : Docket :=
  { d with passes := d.passes.modify (d.passes.length - 1) f }

def Docket.newest (d : Docket) : Option WashPass := d.passes.getLast?

/-- The dockets of a list of numbers. -/
def State.docketsOf (s : State) (q : List Nat) : List Docket := q.filterMap s.docket

/-! ## Line counters (R172 to R174) -/

/-- The recipe and class parts of a filter against a docket's, absent for an event with no docket (R173). -/
def LineCounter.passes (c : LineCounter) (subject : Option (Fin 16 × PlateClass)) : Bool :=
  (c.recipe.isNone || c.recipe == subject.map Prod.fst) && (c.cls.isNone || c.cls == subject.map Prod.snd)

/-- The unit part of a filter: examined only where the event has its unit filter applied (`unit = some u`, with `u`
the exposure unit the event was offered with). -/
def LineCounter.passesUnit (c : LineCounter) (unit : Option (Option UnitId)) : Bool :=
  match unit with
  | none => true
  | some u => c.unit.isNone || c.unit == u

/-- An addition to a counter's value (R172). -/
def LineCounter.add (c : LineCounter) (amount : Nat) : LineCounter :=
  { c with value := satAdd Config.valueMax c.value amount }

/-- R173: an event offered to the line counters. -/
def State.offer (s : State) (e : CounterEvent) (amount : Nat) (subject : Option (Fin 16 × PlateClass))
    (unit : Option (Option UnitId)) : State :=
  s.setCounters (mapAll (fun c => if c.event = e ∧ c.passes subject ∧ c.passesUnit unit then c.add amount else c)
    s.counters)

def Docket.subject (d : Docket) : Option (Fin 16 × PlateClass) := some (d.recipe, d.cls)

/-- An event offered with the recipe and class of docket `n` and, where `withUnit` says so, its exposure unit. -/
def State.offerFor (s : State) (e : CounterEvent) (amount n : Nat) (withUnit : Bool) : State :=
  match s.docket n with
  | some d => s.offer e amount d.subject (if withUnit then some d.unit else none)
  | none => s

/-- The dockets a counter samples (R174); absent for an event that is no occupancy. -/
def State.sampled (s : State) : CounterEvent → Option (List Docket)
  | .washQueueOccupancy => some (s.docketsOf s.washQueue)
  | .dryQueueOccupancy => some (s.docketsOf s.dryQueue)
  | .drawersBusy => some (s.liveDockets.filter fun d => d.state == .atDryer)
  | _ => none

/-- R62 and R174: the start of `k` line seconds one after another, with nothing moved in between: the idle counts go to
0 and each occupancy counter adds `k` samples. -/
def State.lineSeconds (s : State) (k : Nat) : State :=
  if k = 0 then s
  else
    { s with
      channels := s.channels.map fun c => { c with idleCount := 0 }
      counters := mapAll
        (fun c =>
          match s.sampled c.event with
          | some ds => c.add (k * (ds.filter fun d => c.passes d.subject).length)
          | none => c)
        s.counters }

/-- `ms` milliseconds of line time pass (R184), with the line seconds that begin in them. What is due on the millisecond
count falls due at the start of its millisecond (assumption 11). -/
def State.pass (s : State) (ms : Nat) : State :=
  { s.lineSeconds ((s.now % 1000 + ms) / 1000) with
    now := (s.now + ms) % Config.timeModulus
    micro := if ms = 0 then s.micro else 0 }

/-- `us` microseconds of line time pass (R59, R184), with the milliseconds and line seconds that begin in them. -/
def State.passMicros (s : State) (us : Nat) : State :=
  { s.pass ((s.micro + us) / 1000) with micro := (s.micro + us) % 1000 }

/-! ## Collections (R12, R95, R140) -/

def State.classOf (s : State) (n : Nat) : PlateClass :=
  match s.docket n with
  | some d => d.cls
  | none => .normal

/-- Joining the tail of its class (R95, R140): a RUSH docket before every NORMAL one, a NORMAL docket last. -/
def State.joinClass (s : State) (q : List Nat) (n : Nat) : List Nat :=
  match s.classOf n with
  | .normal => q ++ [n]
  | .rush => q.takeWhile (fun m => s.classOf m == .rush) ++ n :: q.dropWhile (fun m => s.classOf m == .rush)

/-- The place of a returned docket in a pool (R12): before every docket with a later order. -/
def insertByOrder (order : Nat → Nat) (q : List Nat) (n : Nat) : List Nat :=
  q.takeWhile (fun m => decide (order m ≤ order n)) ++ n :: q.dropWhile (fun m => decide (order m ≤ order n))

def State.regOrderOf (s : State) (n : Nat) : Nat :=
  match s.docket n with
  | some d => d.regOrder
  | none => 0

def State.unloadOrderOf (s : State) (n : Nat) : Nat :=
  match s.docket n with
  | some d => d.unloadOrder
  | none => 0

/-- The docket joins the washout queue; WASH_READY when the queue was empty (R82, R95, R22). -/
def State.joinWash (s : State) (n : Nat) : State :=
  let t := (s.setWashQueue (s.joinClass s.washQueue n)).updateDocket n fun d =>
    { d with state := .washQueued, sub := .none }
  if s.washQueue.isEmpty then t.raise .W .washReady (some n) else t

/-! ## Entry into HELD and SCRAPPED (R7, R10) -/

/-- R7: the docket enters HELD. -/
def State.enterHeld (s : State) (n : Nat) (reason : HoldReason) (stage : HoldStage) (location : HoldLocation) : State :=
  ((s.updateDocket n fun d =>
      { d with
        state := .held
        sub := .none
        hold := some { reason, stage, location, timeHeld := s.seconds, first := none, second := none } }).raise
    .E .plateHeld (some n)).offerFor .held 1 n false

/-- R10: the docket enters SCRAPPED. -/
def State.enterScrapped (s : State) (n : Nat) : State :=
  (s.updateDocket n fun d => { d with state := .scrapped, sub := .none, drawer := none, hold := none }).offerFor
    .scrapped 1 n false

/-! ## The bath condition (R122, R123) -/

/-- R123: the notice of a new condition, at ports W and E. -/
def conditionNotice : BathCondition → Option NoticeKind
  | .warn => some .bathWarn
  | .low => some .bathHalt
  | .spent => some .bathHalt
  | _ => none

/-- R122 and R123: the bath replaced by `b`, its condition judged, and a change told by its notice. -/
def State.judgeBath (s : State) (b : Bath) : State :=
  let c := b.judged s.working.line
  let t := s.setBath { b with condition := c }
  if c = s.bath.condition then t
  else
    match conditionNotice c with
    | some k => (t.raise .W k none).raise .E k none
    | none => t

/-- R122: recomputed at a change of the account or of a threshold; UNKNOWN stays UNKNOWN. -/
def State.recomputeBath (s : State) (b : Bath) : State :=
  if s.bath.condition = .unknown then s.setBath b else s.judgeBath b

/-! ## The transport permit (R116, R108) -/

/-- R116: the condition of the transport permit. -/
def State.permitted (s : State) : Bool :=
  !s.sstop && (decide ((s.port .W).state = .online)
    || (decide ((s.port .W).state = .lost) && decide (s.working.line.transportHold ≠ 0)))

/-- R108: BELT_STOPPED on the newest wash pass of every docket on the belt. -/
def State.flagBeltStopped (s : State) : State :=
  s.belt.foldl (fun t r => t.updateDocket r.docket fun d =>
    d.updateNewest fun p => { p with beltStopped := true }) s

/-- R116: the permit follows its condition; a drop flags the plates on the belt. -/
def State.updatePermit (s : State) : State :=
  if s.permitted then s.setTpm true
  else if s.tpm then (s.setTpm false).flagBeltStopped
  else s.setTpm false

/-! ## Drawers (R137, R141, R142) -/

/-- R137: in service. -/
def State.inService (s : State) (d : Fin 8) : Bool :=
  decide (d.val + 1 ≤ s.working.line.drawers) && decide (s.drawers[d] ≠ .out)

/-- The lowest-numbered drawer in service and EMPTY (R141). -/
def State.freeDrawer (s : State) : Option (Fin 8) :=
  (List.finRange 8).find? fun d => s.inService d && decide (s.drawers[d] = .empty)

/-- R142: drawer `d` given to docket `n`, the head of the dry queue. -/
def State.giveDrawer (s : State) (d : Fin 8) (n : Nat) : State :=
  (((s.setDrawers (s.drawers.set d (.reserved n))).setDryQueue (s.dryQueue.drop 1)).updateDocket n fun x =>
      { x with state := .atDryer, sub := .reserved, drawer := some d }).raise .F .drawerAssigned (some n)

/-- R141: at most `fuel` drawers given. -/
def State.assignUpTo : Nat → State → State
  | 0, s => s
  | fuel + 1, s =>
    match s.freeDrawer, s.dryQueue with
    | some d, n :: _ => State.assignUpTo fuel (s.giveDrawer d n)
    | _, _ => s

/-- R141: the drawer assignment. Eight drawers bound the repetition. -/
def State.assignDrawers (s : State) : State := State.assignUpTo 8 s

/-- The docket joins the dry queue and the assignment is applied (R140, R141). -/
def State.joinDry (s : State) (n : Nat) : State :=
  ((s.setDryQueue (s.joinClass s.dryQueue n)).updateDocket n fun d =>
    { d with state := .dryQueued, sub := .none }).assignDrawers

/-- The docket a drawer holds (R137). -/
def Drawer.docket : Drawer → Option Nat
  | .reserved n => some n
  | .drying n _ => some n
  | .dry n _ _ => some n
  | _ => none

/-- Seconds left of a drawer timer (R137): one less at each full second since it started. -/
def DrawerTimer.remaining (t : DrawerTimer) (now : Nat) : Nat := t.seconds - since t.startedAt now / 1000

/-! ## Exposure stage reports (R81 to R84) -/

/-- R81: the back stage of unit `u` is reached. -/
def State.backReached (s : State) (u : UnitId) (n : Nat) : State :=
  ((s.setUnit u (.loaded n)).updateDocket n fun d => { d with state := .atExposure, sub := .mainReady }).raise
    (unitPort u) .doseReached (some n)

/-- R82: the main stage of unit `u` is reached. -/
def State.mainReached (s : State) (u : UnitId) (n : Nat) : State :=
  (((s.setUnit u .vacant).joinWash n).raise (unitPort u) .doseReached (some n)).offerFor .exposed 1 n true

def State.stageReached (s : State) (u : UnitId) (n : Nat) : Stage → State
  | .back => s.backReached u n
  | .main => s.mainReached u n

/-- R83: unit `u` halts with its docket and stage. -/
def State.haltUnit (s : State) (u : UnitId) (n : Nat) (st : Stage) (reason : HoldReason) : State :=
  ((s.setUnit u (.halted n st reason)).enterHeld n reason (stageHold st) (unitLocation u)).raise (unitPort u)
    .exposureHalted (some n)

/-- R157: the finishing of docket `n` is complete. -/
def State.finishComplete (s : State) (n : Nat) : State :=
  ((((s.setFinisher .vacant).updateDocket n fun d =>
        { d with state := .done, sub := .none, doneAt := some s.seconds }).raise .F .doseReached (some n)).raise
      .E .plateDone (some n)).offerFor .finished 1 n false

/-! ## Dose channels (R50 to R68) -/

/-- The settings a run latched (R37); a channel that is EXPOSING or in TAIL has latched them. -/
def Channel.settings (c : Channel) : ChanSettings := c.latched.getD .factory

/-- The elapsed figure in 0.1 s (R51): running while EXPOSING, frozen at the end of the run (R55, R66). -/
def Channel.elapsedNow (c : Channel) (now : Nat) : Nat :=
  match c.state with
  | .exposing => min Config.figureMax (since c.startedAt now / 100)
  | _ => c.elapsed

/-- R52: the prediction in 0.1 s for a dose of `todo` still to deliver. -/
def Channel.predict (c : Channel) (settings : ChanSettings) (todo : Nat) : Nat :=
  let e := match c.irradiance with
    | some e => e
    | none => settings.eRef
  if e = 0 then 0 else min Config.figureMax (ceilDiv (todo * 10) e)

/-- R52: the overtime limit in 0.1 s; absent = off. -/
def overtimeLimit (settings : ChanSettings) (prediction : Nat) : Option Nat :=
  if prediction = 0 then none else some (prediction * settings.overtime / 100)

/-- R56: grace ends, the first window opens, the dim and dead watches start. `now` is the moment in ms and `micro` the same
moment in µs, on which the dim watch is timed (R59). -/
def Channel.endGrace (c : Channel) (now micro : Nat) : Channel :=
  { c with
    inGrace := false, window := some { openedAt := now, pulses := 0 }, dimFrom := some micro, deadFrom := some now }

def Docket.asRun (d : Docket) : RunDocket :=
  { number := d.number, order := d.regOrder, recipe := d.recipe, cls := d.cls, unit := d.unit }

/-- R51: the channel record when a start is taken. A GRACE of 0 ends grace in the same step (R56). -/
def Channel.started (c : Channel) (settings : ChanSettings) (d : Docket) (target initial now micro : Nat) : Channel :=
  let prediction := c.predict settings (target - initial)
  let r : Channel :=
    { c with
      state := .exposing, permit := true, latched := some settings, run := some d.asRun, target := some target,
      accumulator := initial, prediction, overtime := overtimeLimit settings prediction, elapsed := 0, health := none,
      lastEnd := .none, dimRaised := false, agedRaised := false, startedAt := now, inGrace := true, window := none,
      dimFrom := none, deadFrom := none, tailFrom := none }
  if settings.grace = 0 then r.endGrace now micro else r

/-- R53: the channel record when a start completes at once. -/
def Channel.completed (c : Channel) (settings : ChanSettings) (d : Docket) (target initial : Nat) : Channel :=
  { c with
    latched := some settings, run := some d.asRun, target := some target, accumulator := initial, prediction := 0,
    overtime := none, elapsed := 0, health := none, lastEnd := .reached, dimRaised := false, agedRaised := false }

/-- The docket's field for a channel's dose (section 3.1). -/
def Docket.deliver (d : Docket) (ch : ChannelId) (dose : Nat) : Docket :=
  match ch with
  | .AB => { d with backDelivered := some dose }
  | .AM => { d with mainDelivered := some dose }
  | .BB => { d with backDelivered := some dose }
  | .BM => { d with mainDelivered := some dose }
  | .FC => { d with finishC := some dose }
  | .FA => { d with finishA := some dose }

/-- The unit part DOSE_OVERSHOOT is offered with: applied for AB, AM, BB and BM only (R173). -/
def overshootUnit (ch : ChannelId) (r : RunDocket) : Option (Option UnitId) :=
  match ch with
  | .FC => none
  | .FA => none
  | _ => some r.unit

/-- R53 and R67: the delivered dose written to the run docket while it is live, and DOSE_OVERSHOOT offered. -/
def State.recordDose (s : State) (ch : ChannelId) (r : RunDocket) (dose target : Nat) : State :=
  (s.updateRunDocket r fun d => d.deliver ch dose).offer .doseOvershoot (dose - target) (some (r.recipe, r.cls))
    (overshootUnit ch r)

/-- The first three checks of R50, taken over a list of channels together (R155, R160): FAULT in any, then TAIL or
EXPOSING in any, then SSTOP. -/
def State.startRefusal (s : State) (chs : List ChannelId) : Option ResultCode :=
  if chs.any fun c => decide ((s.chan c).state = .fault) then some .channelFault
  else if chs.any fun c => decide ((s.chan c).state ≠ .idle) then some .busy
  else if s.sstop then some .stopped
  else none

/-- A start that has passed the first three checks of R50: taken (R51), or complete at once (R53). -/
def State.startChannel (s : State) (ch : ChannelId) (d : Docket) (target initial : Nat) : State :=
  let settings := s.working.channels.get ch
  if target ≤ initial then
    (s.setChan ch ((s.chan ch).completed settings d target initial)).recordDose ch d.asRun initial target
  else s.setChan ch ((s.chan ch).started settings d target initial s.now s.microNow)

/-- R55 and R66: an EXPOSING channel drops its permit and enters TAIL. -/
def Channel.toTail (c : Channel) (lastEnd : LastEnd) (now : Nat) : Channel :=
  { c with
    state := .tail, permit := false, lastEnd, elapsed := c.elapsedNow now, inGrace := false, window := none,
    dimFrom := none, deadFrom := none, tailFrom := some now }

/-- Entry into IDLE at a tail's end (R67, R68): the accumulator and the target stay. -/
def Channel.toIdle (c : Channel) : Channel := { c with state := .idle, idleCount := 0, tailFrom := none }

/-- The hold stage that a channel's partial dose belongs to (R68). -/
def channelHoldStage : ChannelId → HoldStage
  | .AB => .back | .AM => .main | .BB => .back | .BM => .main | .FC => .finish | .FA => .finish

/-- R68: the partial dose taken into the hold record of a docket that is still HELD with that stage. -/
def Docket.takePartial (d : Docket) (ch : ChannelId) (dose : Nat) : Docket :=
  match d.hold with
  | some h =>
    if d.state = .held ∧ h.stage = channelHoldStage ch then
      match ch with
      | .FA => { d with hold := some { h with second := some dose } }
      | _ => { d with hold := some { h with first := some dose } }
    else d
  | none => d

/-- R67 and R68: the end of a channel's tail. -/
def State.endTail (s : State) (ch : ChannelId) : State :=
  let c := s.chan ch
  let t := match c.run with
    | some r =>
      match c.lastEnd with
      | .reached => s.recordDose ch r c.accumulator (c.target.getD 0)
      | .aborted _ => s.updateRunDocket r fun d => d.takePartial ch c.accumulator
      | .none => s
    | none => s
  t.setChan ch (t.chan ch).toIdle

/-- A latched TAIL of 0 makes the tail expire in the same step (R67). -/
def State.endTailIfZero (s : State) (ch : ChannelId) : State :=
  if (s.chan ch).state = .tail ∧ (s.chan ch).settings.tail = 0 then s.endTail ch else s

/-- R55 and R66 for the channel record alone. -/
def State.chanToTail (s : State) (ch : ChannelId) (lastEnd : LastEnd) : State :=
  s.setChan ch ((s.chan ch).toTail lastEnd s.now)

/-- The finisher mark of channel FC or FA. -/
def FinisherRecord.markOf : FinisherRecord → ChannelId → Option Mark
  | .running _ c _, .FC => some c
  | .running _ _ a, .FA => some a
  | .halted _ c _ _, .FC => some c
  | .halted _ _ a _, .FA => some a
  | _, _ => none

def FinisherRecord.docket : FinisherRecord → Option Nat
  | .vacant => none
  | .loaded n => some n
  | .running n _ _ => some n
  | .halted n _ _ _ => some n

def UnitRecord.docket : UnitRecord → Option Nat
  | .vacant => none
  | .loaded n => some n
  | .running n _ => some n
  | .halted n _ _ => some n

/-- R157: an OPEN channel of a RUNNING finisher is reached. -/
def State.finisherReached (s : State) (n : Nat) (uvc uva : Mark) (ch : ChannelId) : State :=
  let c := if ch = .FC then .reached else uvc
  let a := if ch = .FA then .reached else uva
  if c = .reached ∧ a = .reached then s.finishComplete n else s.setFinisher (.running n c a)

/-- The other finisher channel. -/
def sister : ChannelId → ChannelId
  | .FC => .FA
  | _ => .FC

/-- R158: an OPEN channel `ch` of a RUNNING finisher is aborted. The other OPEN channel is aborted with the same reason;
its report finds the finisher HALTED and is ignored. -/
def State.haltFinisher (s : State) (n : Nat) (uvc uva : Mark) (ch : ChannelId) (r : AbortReason) (reason : HoldReason) :
    State :=
  let other := if ch = .FC then uva else uvc
  let halt (t : State) : State :=
    ((t.setFinisher (.halted n uvc uva reason)).enterHeld n reason .finish .finisher).raise .F .exposureHalted (some n)
  if other = .openMark ∧ (s.chan (sister ch)).state = .exposing then
    (halt (s.chanToTail (sister ch) (.aborted r))).endTailIfZero (sister ch)
  else halt s

/-- The report "reached" to the owner (R81, R82, R84, R157). It is acted on only by an owner that is RUNNING with the
run's docket (and stage, or OPEN mark). -/
def State.reportReached (s : State) (ch : ChannelId) (n : Nat) : State :=
  match channelOwner ch with
  | .unit u st => if s.unit u = .running n st then s.stageReached u n st else s
  | .finisher =>
    match s.finisher with
    | .running m c a => if m = n ∧ s.finisher.markOf ch = some .openMark then s.finisherReached n c a ch else s
    | _ => s

/-- The report "aborted" to the owner (R83, R84, R158); CANCELLED halts nothing. -/
def State.reportAborted (s : State) (ch : ChannelId) (n : Nat) (r : AbortReason) : State :=
  match r.hold with
  | none => s
  | some reason =>
    match channelOwner ch with
    | .unit u st => if s.unit u = .running n st then s.haltUnit u n st reason else s
    | .finisher =>
      match s.finisher with
      | .running m c a =>
        if m = n ∧ s.finisher.markOf ch = some .openMark then s.haltFinisher n c a ch r reason else s
      | _ => s

def Channel.runNumber (c : Channel) : Nat :=
  match c.run with
  | some r => r.number
  | none => 0

/-- R55: the run of an EXPOSING channel is reached. -/
def State.reachRun (s : State) (ch : ChannelId) : State :=
  ((s.chanToTail ch .reached).reportReached ch (s.chan ch).runNumber).endTailIfZero ch

/-- R65 and R66: an abort, which acts only on an EXPOSING channel. -/
def State.abortRun (s : State) (ch : ChannelId) (r : AbortReason) : State :=
  if (s.chan ch).state = .exposing then
    ((s.chanToTail ch (.aborted r)).reportAborted ch (s.chan ch).runNumber r).endTailIfZero ch
  else s

/-- `l` in the order number `k`; the numbers below the factorial of its length give each order once. -/
def arrange {α : Type} (k : Nat) : List α → List α
  | [] => []
  | x :: l => (arrange (k / (l.length + 1)) l).insertIdx (k % (l.length + 1)) x

/-- Abort asked of each channel of a list, in order. -/
def State.abortAll (s : State) (chs : List ChannelId) (r : AbortReason) : State :=
  chs.foldl (fun t c => t.abortRun c r) s

/-- The channels of the finisher whose mark is OPEN. -/
def FinisherRecord.openChannels (f : FinisherRecord) : List ChannelId :=
  [ChannelId.FC, ChannelId.FA].filter fun c => decide (f.markOf c = some .openMark)

/-- A RUNNING unit aborts its stage (R90), any other is left as it is. -/
def State.abortUnit (s : State) (u : UnitId) (r : AbortReason) : State :=
  match s.unit u with
  | .running _ st => s.abortRun (stageChannel u st) r
  | _ => s

/-- A RUNNING finisher aborts its OPEN channels (R159, R162), any other is left as it is. -/
def State.abortFinisher (s : State) (r : AbortReason) : State :=
  match s.finisher with
  | .running _ _ _ => s.abortAll s.finisher.openChannels r
  | _ => s

/-! ## Silence of a port (R182) -/

/-- STATION_SILENT at every port but the silent one, with its code (R165). -/
def State.raiseSilent (s : State) (p : Port) : State :=
  (allPorts.filter fun q => decide (q ≠ p)).foldl (fun t q => t.raise q .stationSilent (some (portCode p))) s

/-- R182: an ONLINE port enters LOST. -/
def State.enterLost (s : State) (p : Port) : State :=
  let t := (s.setPort p { s.port p with state := .lost }).raiseSilent p
  match p with
  | .E => t
  | .A => t.abortUnit .A .stationLost
  | .B => t.abortUnit .B .stationLost
  | .F => t.abortFinisher .stationLost
  | .W => t.updatePermit

/-- R182: ports whose time since last heard has reached SILENCE_LIMIT enter LOST, at a change of the setting. The order
among them is a free value (assumption 23). -/
def State.checkSilence (s : State) : State :=
  (arrange (Config.turn s.now) allPorts).foldl (fun t p =>
    match (t.port p).state, (t.port p).lastHeard with
    | .online, some h => if t.working.line.silenceLimit * 1000 ≤ since h t.now then t.enterLost p else t
    | _, _ => t) s

/-! ## The stored image (R40, R44, R45) -/

/-- The CRC-16 of R40 over one byte: polynomial 1021h, most significant bit first. -/
def crc16Bits : Nat → BitVec 16 → BitVec 16
  | 0, c => c
  | k + 1, c => crc16Bits k (if c.msb then (c <<< 1) ^^^ 0x1021#16 else c <<< 1)

/-- The CRC-16 of R40: initial value FFFFh, no reflection, no final inversion. -/
def crc16 (bytes : List Byte) : BitVec 16 :=
  bytes.foldl (fun (c : BitVec 16) (b : Byte) => crc16Bits 8 (c ^^^ (b.setWidth 16 <<< (8 : Nat)))) (0xFFFF#16)

/-- The bytes of a recipe in the image's body (layout: assumption 9). -/
def Recipe.imageBytes (r : Recipe) : List Byte :=
  BitVec.ofNat 8 (boolCode r.valid) :: BitVec.ofNat 8 r.name.length :: r.name
    ++ bytesBE 2 r.figures.thickness ++ bytesBE 2 r.figures.relief ++ bytesBE 3 r.figures.back
    ++ bytesBE 3 r.figures.main ++ bytesBE 2 r.figures.w0 ++ bytesBE 2 r.figures.margin ++ bytesBE 2 r.figures.dryTime
    ++ bytesBE 3 r.figures.uvc ++ bytesBE 3 r.figures.uva

def LineSettings.imageBytes (l : LineSettings) : List Byte :=
  [l.beltPlaces, l.pathLength, l.speedMin, l.speedMax, l.speedBand, l.derate, l.loadWarn, l.loadStop, l.density,
   l.bathVolMin, l.bathVolMax, l.overwashLimit, l.exitGrace, l.drawers, l.overdryLimit, l.transportHold,
   l.silenceLimit].flatMap (bytesBE 4)

def ChanSettings.imageBytes (c : ChanSettings) : List Byte :=
  [c.quantum, c.grace, c.dimInterval, c.deadInterval, c.tail, c.overtime, c.aged, c.eRef].flatMap (bytesBE 4)

/-- The contents of the body: recipes, line settings, channel settings, levels (layout: assumption 9). -/
def WorkingCopy.imageBytes (w : WorkingCopy) : List Byte :=
  w.recipes.toList.flatMap Recipe.imageBytes ++ w.line.imageBytes
    ++ allChannels.flatMap (fun c => (w.channels.get c).imageBytes) ++ w.levels.toList.flatMap (bytesBE 1)

/-- A body as a completed store writes it (R43). -/
def ImageBody.written (w : WorkingCopy) : ImageBody := { contents := w, crc := crc16 w.imageBytes }

/-- R40: the body is good when its CRC, computed afresh, equals the CRC it holds; absent when it is bad. -/
def StoredImage.goodBody (i : StoredImage) : Option WorkingCopy :=
  match i.body with
  | some b => if crc16 b.contents.imageBytes = b.crc then some b.contents else none
  | none => none

/-- R40, R45: the wear count, from the first copy that passes its check, 0 when neither does. -/
def StoredImage.wearCount (i : StoredImage) : Nat :=
  match i.wear1, i.wear2 with
  | some n, _ => n
  | none, some n => n
  | none, none => 0

/-- R44: what a reset leaves of the image when it cuts a store of `w` short, with the wear count `old` before the store
and `new` after it. Of the two copies the one that was not being written passes its check. -/
def StoredImage.torn (i : StoredImage) (w : WorkingCopy) (old new : Nat) : Config.StoreProgress → StoredImage
  | .bodyPartial => { i with body := none }
  | .bodyWritten => { i with body := some (.written w) }
  | .firstCopy => { body := some (.written w), wear1 := none, wear2 := some old }
  | .secondCopy => { body := some (.written w), wear1 := some new, wear2 := none }

/-- The image a reset finds (R44). -/
def State.imageAtReset (s : State) : StoredImage :=
  match s.store.job with
  | some j =>
    s.store.image.torn j.contents s.store.wear (min Config.wearMax (s.store.wear + 1))
      (Config.storeProgress (since j.takenAt s.now))
  | none => s.store.image

/-- R2, R45 and the reset statement of every chapter: the state after a reset that finds the image `i`, with the sampled
RATE level, the level of the SSTOP line and the commands that wait. -/
def State.afterReset (i : StoredImage) (rate sstop : Bool) (pending : List Instr) : State :=
  let base : State :=
    { now := 0, micro := 0, sstop, rateHigh := rate, tpm := false
      ports := ⟨.fresh, .fresh, .fresh, .fresh, .fresh⟩
      slots := Vector.replicate 48 none, nextNumber := 1, nextOrder := 0, exposurePool := [], finishPool := []
      working := .factory
      store := { image := i, job := none, wear := i.wearCount, lastResult := .none, resultTime := none }
      channels := ⟨.fresh, .fresh, .fresh, .fresh, .fresh, .fresh⟩
      units := ⟨.vacant, .vacant⟩, finisher := .vacant
      washQueue := [], belt := [], beltSpeed := none, bath := .fresh
      drawers := Vector.replicate 8 .empty, dryQueue := []
      counters := Vector.replicate 4 .fresh, pending }
  match i.goodBody with
  | some w => { base with working := w }
  | none =>
    { base with store := { base.store with lastResult := .imageBad, resultTime := some 0 } }.raise .E .storeResult none

end Sys2Proof.Machine
end

