-- ==== Sys2Proof/Machine/Operands.lean ====
section
/-! DEFINITION. The operand forms of the requests: the answer's fields and bytes (R178, R181), the taking of a request
(R180, R182), the receiver's bytes (R179). -/

namespace Sys2Proof.Machine

/-! ## Fields and answers (R181, R178) -/

/-- The Bytes column of R181. -/
def FieldType.width : FieldType → Nat
  | .docket => 2 | .dose => 3 | .irradiance => 3 | .time => 4 | .mass => 4 | .speed => 2 | .depth => 2 | .volume => 2
  | .load => 2 | .area => 2 | .figure => 2 | .value => 4 | .flags => 1 | .code => 1 | .bitmap => 3

/-- A present value in its width. A value that does not fit is a free value (assumption 8). -/
def presentBytes (width v : Nat) : List Byte :=
  if v < 256 ^ width then bytesBE width v else bytesBE width (Config.overwide width v)

/-- A signed value as two's complement in 16 bits. -/
def twosComplement (v : Int) : Nat := (v % 65536).toNat

/-- The bytes of a field (R181): an absent field is FFh throughout, an absent correction 8000h, and where a field may be
absent a present value whose bytes would all be FFh is sent as that value less 1. -/
def Field.bytes : Field → List Byte
  | .num t v => presentBytes t.width v
  | .opt t none => List.replicate t.width 0xFF
  | .opt t (some v) => presentBytes t.width (if v = 256 ^ t.width - 1 then v - 1 else v)
  | .correction none => [0x80, 0x00]
  | .correction (some v) => bytesBE 2 (twosComplement (if v = -1 then v - 1 else v))
  | .name cs => BitVec.ofNat 8 cs.length :: cs

/-- The frame an answer is sent as (R178). -/
def Answer.frame (a : Answer) : List Byte :=
  frameOf a.kind (BitVec.ofNat 8 a.result.code :: a.fields.flatMap Field.bytes)

/-- An answer's KIND is the request's KIND + 80h; a frame whose KIND is 80h or above is answered with FFh (R178). -/
def answerKind (kind : Nat) : Nat := if kind < 0x80 then kind + 0x80 else 0xFF

/-! ## Taking a request (R180, R182) -/

/-- What the owning rule decides: the state after the request's effects, the result code, the answer's fields. -/
abbrev Reply := State × ResultCode × List Field

/-- "A request that is refused is answered with that result code and has no other effect." (section 2.4) -/
def refuse (s : State) (code : ResultCode) : Reply := (s, code, [])

/-- R179: a valid frame while an answer is pending is discarded and an overrun counted. -/
def State.countOverrun (s : State) (p : Port) : State :=
  s.setPort p { s.port p with overrun := satAdd Config.figureMax (s.port p).overrun 1, receiver := .hunting }

/-- R182: a valid frame makes its port ONLINE. The receiver is hunting again. -/
def State.onlineEntry (s : State) (p : Port) : State :=
  let t := s.setPort p { s.port p with state := .online, lastHeard := some s.now, receiver := .hunting }
  if p = .W then t.updatePermit else t

/-- R180: the answer composed; answer pending becomes yes. -/
def State.answer (s : State) (p : Port) (kind : Nat) (code : ResultCode) (fields : List Field) : State :=
  s.setPort p { s.port p with answer := some { kind := answerKind kind, result := code, fields } }

/-- R180, checks 2 to 4, at a port that is already ONLINE. -/
def decideRequest (r : Request) (nameCount : Nat) (h : Hdr) (owner : State → Reply) (s : State) : Reply :=
  if h.port ∉ r.ports then refuse s .notPermitted
  else if h.len ≠ r.fieldBytes nameCount + 1 then refuse s .range
  else owner s

/-- R180: a valid frame of the request `r` from `h.port`, decided by its owning rule. -/
def takeNamed (r : Request) (nameCount : Nat) (h : Hdr) (owner : State → Reply) (s : State) : State :=
  if (s.port h.port).answer.isSome then s.countOverrun h.port
  else
    let reply := decideRequest r nameCount h owner (s.onlineEntry h.port)
    reply.1.answer h.port r.kind reply.2.1 reply.2.2

/-- `takeNamed` for a request without a name. -/
def takeRequest (r : Request) (h : Hdr) (owner : State → Reply) (s : State) : State := takeNamed r 0 h owner s

/-! ## Field forms used by several answers -/

def fDocket (n : Nat) : Field := .num .docket n
def fCode (n : Nat) : Field := .num .code n
def fTime (n : Nat) : Field := .num .time n

/-- The snapshot's nine figures, absent together (R24). -/
def snapshotFields (x : Option Snapshot) : List Field :=
  [.opt .depth (x.map Snapshot.thickness), .opt .depth (x.map Snapshot.relief), .opt .dose (x.map Snapshot.back),
   .opt .dose (x.map Snapshot.main), .opt .speed (x.map Snapshot.w0), .opt .figure (x.map Snapshot.margin),
   .opt .figure (x.map Snapshot.dryTime), .opt .dose (x.map Snapshot.uvc), .opt .dose (x.map Snapshot.uva)]

/-- The nine figures of a recipe, in the order of the table of section 2.1. -/
def recipeFields (x : Snapshot) : List Field :=
  [.num .depth x.thickness, .num .depth x.relief, .num .dose x.back, .num .dose x.main, .num .speed x.w0,
   .num .figure x.margin, .num .figure x.dryTime, .num .dose x.uvc, .num .dose x.uva]

/-! ## The receiver (R179) -/

/-- A byte taken while hunting: D9h begins a frame. -/
def huntingByte (now : Nat) (b : Byte) : Receiver := if b = syncByte then .lenExpected now else .hunting

/-- A framing error counted, the partial frame discarded, the receiver in the condition `rx`. -/
def PortRecord.framingError (r : PortRecord) (rx : Receiver) : PortRecord :=
  { r with framing := satAdd Config.figureMax r.framing 1, receiver := rx }

/-- More than 20 ms since the previous byte. -/
def late (lastByte now : Nat) : Bool := decide (Config.gapMs < since lastByte now)

/-- R179: one byte with its stop bit, short of a frame's last byte. (The byte that completes a frame is commanded as the
request, UNKNOWN_REQUEST, FRAME_CRC_ERROR or FRAME_OVERRUN: assumption 4.) -/
def PortRecord.byte (r : PortRecord) (now : Nat) (b : Byte) : PortRecord :=
  match r.receiver with
  | .hunting => { r with receiver := huntingByte now b }
  | .lenExpected lastByte =>
    if late lastByte now then r.framingError (huntingByte now b)
    else if b.toNat = 0 ∨ 120 < b.toNat then r.framingError .hunting
    else { r with receiver := .inFrame [b] (b.toNat + 1) now }
  | .inFrame received expected lastByte =>
    if late lastByte now then r.framingError (huntingByte now b)
    else if expected ≤ 1 then r
    else { r with receiver := .inFrame (received ++ [b]) (expected - 1) now }

def State.receiveByte (s : State) (p : Port) (b : Byte) : State := s.setPort p ((s.port p).byte s.now b)

end Sys2Proof.Machine
end

