-- ==== Sys2Proof/Machine/System.lean ====
section
/-! DEFINITION. RESET, the shop stop line and the line second. -/

namespace Sys2Proof.Machine

/-- What every meaning answers. -/
abbrev Res := Host.Outcome State Fault Refusal

/-- RESET (R2, R44, R45, and the reset statement of every chapter). -/
def execReset (rate : Bool) (s : State) : Res :=
  .next (State.afterReset s.imageAtReset rate s.sstop s.pending)

/-- R70, R116: SSTOP is asserted and the channels are aborted in the order given. -/
def State.stopShop (s : State) (order : List ChannelId) : State :=
  (({ s with sstop := true } : State).abortAll order .stopped).updatePermit

/-- SSTOP_ASSERTED (R70, R91, R116, R162). The order among the channels is a free value (assumption 23). -/
def execSstopAsserted (s : State) : Res := .next (s.stopShop (arrange (Config.turn s.now) allChannels))

/-- SSTOP_RELEASED (R116, R117): the permit follows its condition, nothing else restarts. -/
def execSstopReleased (s : State) : Res := .next ({ s with sstop := false } : State).updatePermit

/-- LINE_SECOND (R62, R174, R184): line time comes to its next whole second. -/
def execLineSecond (s : State) : Res := .next (s.pass (1000 - s.now % 1000))

end Sys2Proof.Machine
end

