-- ==== Sys2Proof/Machine/BathAccount.lean ====
section
/-! DEFINITION. The solvent bath account: REPORT_BATH, REPLENISH and READ_BATH (spec/06_solvent_bath_account.md). -/

namespace Sys2Proof.Machine

/-- R121: the load as the answers show it. -/
def Bath.shownLoad (b : Bath) : Nat := min b.load 65535

/-- R130: the last correction of a report of the load `lm`. -/
def Bath.correctionFor (b : Bath) (lm : Nat) : Option Int :=
  match b.condition with
  | .unknown => none
  | _ => some (max (-32767) (min 32767 ((b.load : Int) - (lm : Int))))

/-- R129: the account after a report. -/
def Bath.reported (b : Bath) (lm v time : Nat) : Bath :=
  { b with mass := lm * v * 10, volume := v, correction := b.correctionFor lm, reportedAt := some time }

def reportBathReply (load volume : Nat) (s : State) : Reply :=
  let lm := min 2500 load
  let v := min s.working.line.bathVolMax volume
  let t := s.judgeBath (s.bath.reported lm v s.seconds)
  (t, .ok,
    [.num .load lm, .num .volume v, .num .mass t.bath.mass, .correction t.bath.correction,
     fCode t.bath.condition.code])

/-- REPORT_BATH (R128 to R130). -/
def execReportBath (h : Hdr) (load volume : BitVec 16) (s : State) : Res :=
  .next (takeRequest .reportBath h (reportBathReply load.toNat volume.toNat) s)

/-- R132, step 1: drain. -/
def Bath.drain (b : Bath) (vd : Nat) : Bath :=
  if b.volume ≤ vd then { b with mass := 0, volume := 0 }
  else { b with mass := b.mass * (b.volume - vd) / b.volume, volume := b.volume - vd }

/-- R132, step 2: add. -/
def Bath.fill (b : Bath) (va : Nat) : Bath := { b with volume := b.volume + va }

/-- R132, step 3: overflow. -/
def Bath.overflow (b : Bath) (volMax : Nat) : Bath :=
  if volMax < b.volume then { b with mass := b.mass * volMax / b.volume, volume := volMax } else b

/-- R132: the account after a replenish. With both volumes 0 the steps of R132 apply all the same, where R131 says that M and
V stay (DEDUCED: assumption 26). -/
def Bath.replenished (b : Bath) (vd va volMax : Nat) : Bath := ((b.drain vd).fill va).overflow volMax

def replenishReply (drained added : Nat) (s : State) : Reply :=
  if s.bath.condition = .unknown then refuse s .bathUnknown
  else
    let vd := min 9000 drained
    let va := min 9000 added
    let t := s.recomputeBath (s.bath.replenished vd va s.working.line.bathVolMax)
    (t, .ok,
      [.num .volume vd, .num .volume va, .num .mass t.bath.mass, .num .volume t.bath.volume,
       .num .load t.bath.shownLoad, .num .mass (s.bath.mass - t.bath.mass), fCode t.bath.condition.code])

/-- REPLENISH (R131 to R133). -/
def execReplenish (h : Hdr) (drained added : BitVec 16) (s : State) : Res :=
  .next (takeRequest .replenish h (replenishReply drained.toNat added.toNat) s)

def readBathReply (s : State) : Reply :=
  (s, .ok,
    [.num .mass s.bath.mass, .num .volume s.bath.volume, .num .load s.bath.shownLoad, fCode s.bath.condition.code,
     .num .figure (s.bath.derate s.working.line), .correction s.bath.correction, .opt .time s.bath.reportedAt])

/-- READ_BATH (R136). -/
def execReadBath (h : Hdr) (s : State) : Res := .next (takeRequest .readBath h readBathReply s)

end Sys2Proof.Machine
end

