-- ==== Sys2Proof/Machine/Channels.lean ====
section
/-! DEFINITION. The dose channels: sensor pulses, the timers of a run, CLEAR_CHANNEL, SET_LAMP_REF and READ_CHANNEL.
An expiry is the moment its timer runs out: line time comes to it (assumption 2). An expiry whose timer does not run
does not occur and changes nothing (assumption 3). -/

namespace Sys2Proof.Machine

/-! ## Pulses (R54, R55, R62 to R64) -/

/-- R54: the latched quantum added to the accumulator. -/
def Channel.dosed (c : Channel) : Channel :=
  { c with accumulator := satAdd Config.doseMax c.accumulator c.settings.quantum }

/-- R54: a pulse in EXPOSING; after grace it counts in the window and restarts the dim and dead watches. `now` is the
moment in ms, `micro` in µs. -/
def Channel.exposedPulse (c : Channel) (now micro : Nat) : Channel :=
  if c.inGrace then c.dosed
  else { c.dosed with window := c.window.map fun w => { w with pulses := w.pulses + 1 }
                      dimFrom := some micro
                      deadFrom := some now }

/-- The target is met (R55). -/
def Channel.met (c : Channel) : Bool :=
  match c.target with
  | some t => decide (t ≤ c.accumulator)
  | none => false

/-- R62 and R63: a pulse in IDLE; the 17th of a line second sends the channel to FAULT. -/
def State.idlePulse (s : State) (ch : ChannelId) : State :=
  let c := s.chan ch
  if 16 < c.idleCount + 1 then
    ((s.setChan ch { c with state := .fault, permit := false, idleCount := c.idleCount + 1, stray := 17,
                            lastEnd := .none }).raise (channelPort ch) .lampStuck none).raise .E .lampStuck none
  else s.setChan ch { c with idleCount := c.idleCount + 1 }

/-- SENSOR_PULSE (R54). A pulse queued before a start finds the channel IDLE and counts toward the stuck check only, also
where R50's "Otherwise ... the pulse is counted as the first pulse of the run" could be read to cover it (DESIGN CHOICE:
assumption 27). -/
def execSensorPulse (ch : ChannelId) (s : State) : Res :=
  let c : Channel := { s.chan ch with lastPulse := some s.now }
  let t := s.setChan ch c
  .next (match c.state with
    | .exposing =>
      let u := t.setChan ch (c.exposedPulse s.now s.microNow)
      if (c.exposedPulse s.now s.microNow).met then u.reachRun ch else u
    | .tail => t.setChan ch c.dosed
    | .idle => t.idlePulse ch
    | .fault => t.setChan ch { c with stray := satAdd Config.figureMax c.stray 1 })

/-! ## Timers of a run (R56 to R61, R67) -/

/-- Line time comes to the end of a timer of `ms` milliseconds that was started at `t`. -/
def State.passTo (s : State) (t ms : Nat) : State := s.pass (remainingMs t ms s.now)

/-- GRACE_END (R56). -/
def execGraceEnd (ch : ChannelId) (s : State) : Res :=
  let c := s.chan ch
  .next (if c.state = .exposing ∧ c.inGrace = true then
      let t := s.passTo c.startedAt c.settings.grace
      t.setChan ch ((t.chan ch).endGrace t.now t.microNow)
    else s)

/-- R57: the end of a window with `pulses` pulses; the next window opens at `now`. -/
def Channel.closeWindow (c : Channel) (pulses now : Nat) : Channel :=
  let e := min Config.doseMax (pulses * c.settings.quantum)
  { c with
    irradiance := some e
    health := if c.settings.eRef = 0 then c.health else some (min 1999 (e * 1000 / c.settings.eRef))
    window := some { openedAt := now, pulses := 0 } }

/-- R58: health below AGED, not yet raised in this run. -/
def Channel.agedNow (c : Channel) : Bool :=
  match c.health with
  | some x => decide (x < c.settings.aged) && !c.agedRaised
  | none => false

/-- WINDOW_END (R57, R58). -/
def execWindowEnd (ch : ChannelId) (s : State) : Res :=
  .next (match (s.chan ch).state, (s.chan ch).window with
    | .exposing, some w =>
      let t := s.passTo w.openedAt Config.windowMs
      let c := (t.chan ch).closeWindow w.pulses t.now
      match c.agedNow, c.run with
      | true, some r =>
        (((t.setChan ch { c with agedRaised := true }).updateRunDocket r fun d => { d with agedSeen := true }).raise
          (channelPort ch) .lampAged (some r.number)).raise .E .lampAged (some r.number)
      | _, _ => t.setChan ch c
    | _, _ => s)

/-- DIM_WATCH_EXPIRY (R59), timed to the microsecond. The next pulse starts the watch again. -/
def execDimWatchExpiry (ch : ChannelId) (s : State) : Res :=
  .next (match (s.chan ch).state, (s.chan ch).dimFrom with
    | .exposing, some from_ =>
      let t := s.passMicros (remainingMicros from_ (s.chan ch).settings.dimInterval s.microNow)
      let c : Channel := { t.chan ch with dimFrom := none }
      match c.dimRaised, c.run with
      | false, some r =>
        ((t.setChan ch { c with dimRaised := true }).updateRunDocket r fun d => { d with dimSeen := true }).raise
          (channelPort ch) .lampDim (some r.number)
      | _, _ => t.setChan ch c
    | _, _ => s)

/-- DEAD_WATCH_EXPIRY (R60). -/
def execDeadWatchExpiry (ch : ChannelId) (s : State) : Res :=
  .next (match (s.chan ch).state, (s.chan ch).deadFrom with
    | .exposing, some from_ => (s.passTo from_ (s.chan ch).settings.deadInterval).abortRun ch .lampOut
    | _, _ => s)

/-- OVERTIME_EXPIRY (R61): the limit is in 0.1 s from the start. -/
def execOvertimeExpiry (ch : ChannelId) (s : State) : Res :=
  .next (match (s.chan ch).state, (s.chan ch).overtime with
    | .exposing, some limit => (s.passTo (s.chan ch).startedAt (limit * 100)).abortRun ch .overtime
    | _, _ => s)

/-- TAIL_EXPIRY (R67, R68). -/
def execTailExpiry (ch : ChannelId) (s : State) : Res :=
  .next (match (s.chan ch).state, (s.chan ch).tailFrom with
    | .tail, some from_ => (s.passTo from_ (s.chan ch).settings.tail).endTail ch
    | _, _ => s)

/-! ## Requests on channels (R71 to R73) -/

/-- R71: less than 5 s since the last pulse. -/
def Channel.recentPulse (c : Channel) (now : Nat) : Bool :=
  match c.lastPulse with
  | some t => decide (since t now < Config.quietMs)
  | none => false

/-- R71. -/
def clearChannelReply (p : Port) (code : Nat) (s : State) : Reply :=
  match channelOfCode code with
  | none => refuse s .range
  | some ch =>
    if channelPort ch ≠ p then refuse s .notPermitted
    else if (s.chan ch).state ≠ .fault then refuse s .wrongState
    else if (s.chan ch).recentPulse s.now then refuse s .channelFault
    else
      (s.setChan ch { s.chan ch with state := .idle, idleCount := 0, permit := false }, .ok,
        [fCode code, .num .figure (s.chan ch).stray])

/-- CLEAR_CHANNEL (R71). -/
def execClearChannel (h : Hdr) (ch : BitVec 8) (s : State) : Res :=
  .next (takeRequest .clearChannel h (clearChannelReply h.port ch.toNat) s)

/-- R72, taken: the working E_REF of a channel replaced. -/
def State.setLampRef (s : State) (ch : ChannelId) (value : Nat) : Reply :=
  let v := chanTaken .eRef value
  (s.setWorking { s.working with
      channels := s.working.channels.set ch ((s.working.channels.get ch).set .eRef v) }, .ok,
    [fCode (channelCode ch), .num .irradiance v])

/-- R72. -/
def lampRefReply (p : Port) (code form value : Nat) (s : State) : Reply :=
  match channelOfCode code with
  | none => refuse s .range
  | some ch =>
    if form ≠ 0 ∧ form ≠ 1 then refuse s .range
    else if channelPort ch ≠ p then refuse s .notPermitted
    else if s.store.job.isSome then refuse s .busy
    else if form = 0 then s.setLampRef ch value
    else
      match (s.chan ch).irradiance with
      | none => refuse s .wrongState
      | some e => s.setLampRef ch e

/-- SET_LAMP_REF with the form 0 (R72). -/
def execSetLampRefValue (h : Hdr) (ch form : BitVec 8) (value : BitVec 24) (s : State) : Res :=
  .next (takeRequest .setLampRef h (lampRefReply h.port ch.toNat form.toNat value.toNat) s)

/-- SET_LAMP_REF with the form 1 (R72). -/
def execSetLampRefMeasured (h : Hdr) (ch form : BitVec 8) (value : BitVec 24) (s : State) : Res :=
  .next (takeRequest .setLampRef h (lampRefReply h.port ch.toNat form.toNat value.toNat) s)

/-- R73. -/
def readChannelReply (code : Nat) (s : State) : Reply :=
  match channelOfCode code with
  | none => refuse s .range
  | some ch =>
    let c := s.chan ch
    (s, .ok,
      [fCode code, fCode c.state.code, .opt .docket (c.run.map RunDocket.number), .opt .dose c.target,
       .num .dose c.accumulator, .opt .irradiance c.irradiance, .opt .figure c.health, .num .figure c.prediction,
       .num .figure (c.elapsedNow s.now), fCode c.lastEnd.code, fCode c.lastEnd.reasonCode, .num .figure c.stray])

/-- READ_CHANNEL (R73). -/
def execReadChannel (h : Hdr) (ch : BitVec 8) (s : State) : Res :=
  .next (takeRequest .readChannel h (readChannelReply ch.toNat) s)

end Sys2Proof.Machine
end

