-- ==== Sys2Proof/Machine/Dockets.lean ====
section
/-! DEFINITION. The docket table's requests: REGISTER, CANCEL, RELEASE, RETIRE, READ_DOCKET, LIST and LINE_CLEAR
(spec/01_plate_dockets.md). -/

namespace Sys2Proof.Machine

/-! ## REGISTER (R13, R14, R3, R4) -/

/-- R4: a docket as REGISTER writes it. -/
def Docket.new (number : Nat) (recipe : Fin 16) (area coverage : Nat) (pref : Option UnitId) (cls : PlateClass)
    (time order : Nat) : Docket :=
  { number, state := .registered, sub := .none, recipe, cls, pref, area, coverage := min 95 coverage,
    registeredAt := time, snapshot := none, unit := none, backDelivered := none, mainDelivered := none,
    dimSeen := false, agedSeen := false, passOver := 0, passes := [], removed := 0, drawer := none, dryStart := none,
    dryEnd := none, shortDry := false, overdry := false, finishC := none, finishA := none, hold := none,
    scrapMark := none, doneAt := none, regOrder := order, unloadOrder := 0 }

/-- R3: the number the next REGISTER assigns. -/
def State.assignedNumber (s : State) : Nat := s.firstUnused 49 s.nextNumber

/-- R13, taken: the docket `d` written into slot `i`. -/
def State.registerDocket (s : State) (i : Fin 48) (d : Docket) : State :=
  let t : State :=
    { s with
      slots := s.slots.set i (some d)
      nextNumber := numberAfter d.number
      nextOrder := s.nextOrder + 1
      exposurePool := s.exposurePool ++ [d.number] }
  let u := t.offerFor .registered 1 d.number false
  if u.freeSlots = 4 then u.raise .E .docketsLow (some d.number) else u

def registerReply (recipe area coverage pref cls : Nat) (s : State) : Reply :=
  if hr : recipe < 16 then
    match prefOfCode pref, classOfCode cls with
    | some pref, some cls =>
      if area < 100 ∨ 20000 < area then refuse s .range
      else if s.working.recipes[recipe].valid = false then refuse s .badRecipe
      else
        match s.lowestFree with
        | none => refuse s .noRoom
        | some i =>
          let n := s.assignedNumber
          let t := s.registerDocket i (.new n ⟨recipe, hr⟩ area coverage pref cls s.seconds s.nextOrder)
          (t, .ok, [fDocket n, fCode (min 95 coverage), fCode t.freeSlots])
    | _, _ => refuse s .range
  else refuse s .range

/-- REGISTER (R13). -/
def execRegister (h : Hdr) (recipe : BitVec 8) (area : BitVec 16) (coverage pref cls : BitVec 8) (s : State) : Res :=
  .next (takeRequest .register h
    (registerReply recipe.toNat area.toNat coverage.toNat pref.toNat cls.toNat) s)

/-! ## CANCEL (R15 to R20) -/

/-- The docket of unit `u` cancelled (R17, R18, R19, R93): the unit is VACANT and the docket SCRAPPED before the abort is
asked, so its report is ignored. -/
def State.cancelAtUnit (s : State) (u : UnitId) (n : Nat) : State :=
  let t := (s.setUnit u .vacant).enterScrapped n
  match s.unit u with
  | .running _ st => t.abortRun (stageChannel u st) .cancelled
  | _ => t

/-- The docket of the finisher cancelled (R17, R18, R19, R163). -/
def State.cancelAtFinisher (s : State) (n : Nat) : State :=
  let t := (s.setFinisher .vacant).enterScrapped n
  match s.finisher with
  | .running _ _ _ => t.abortAll s.finisher.openChannels .cancelled
  | _ => t

/-- A docket at a unit or the finisher, or held there or at WASH_EXIT, cancelled. -/
def State.cancelHolder (s : State) (n : Nat) : State :=
  if (s.unit .A).docket = some n then s.cancelAtUnit .A n
  else if (s.unit .B).docket = some n then s.cancelAtUnit .B n
  else if s.finisher.docket = some n then s.cancelAtFinisher n
  else s.enterScrapped n

/-- R9: a scrap mark written, unless one stands. -/
def State.markScrap (s : State) (n : Nat) (m : ScrapMark) : State :=
  s.updateDocket n fun d => { d with scrapMark := some (d.scrapMark.getD m) }

/-- R20: a CANCEL of a docket AT_DRYER. -/
def State.cancelAtDryer (s : State) (n : Nat) (drawer : Option (Fin 8)) : State :=
  match drawer with
  | some d =>
    match s.drawers[d] with
    | .reserved _ => ((s.setDrawers (s.drawers.set d .empty)).enterScrapped n).assignDrawers
    | _ => s.markScrap n .atUnload
  | none => s.markScrap n .atUnload

/-- The effect of a taken CANCEL on docket `d`, by its state (the table of section 1.6). -/
def State.cancelDocket (s : State) (d : Docket) : State :=
  let n := d.number
  match d.state with
  | .registered => (s.setExposurePool (s.exposurePool.filter fun m => m != n)).enterScrapped n
  | .washQueued => (s.setWashQueue (s.washQueue.filter fun m => m != n)).enterScrapped n
  | .dryQueued => (s.setDryQueue (s.dryQueue.filter fun m => m != n)).enterScrapped n
  | .finishQueued => (s.setFinishPool (s.finishPool.filter fun m => m != n)).enterScrapped n
  | .atExposure => s.cancelHolder n
  | .atFinisher => s.cancelHolder n
  | .held => s.cancelHolder n
  | .onBelt => s.markScrap n .atExit
  | .atDryer => s.cancelAtDryer n d.drawer
  | .done => s
  | .scrapped => s

/-- State and scrap mark of docket `n`, as the answers of CANCEL and EXIT show them. -/
def State.stateCodeOf (s : State) (n : Nat) : Nat :=
  match s.docket n with
  | some d => d.state.code
  | none => 0

def State.scrapCodeOf (s : State) (n : Nat) : Nat :=
  match s.docket n with
  | some d => scrapCode d.scrapMark
  | none => 0

def cancelReply (n : Nat) (s : State) : Reply :=
  match s.docket n with
  | none => refuse s .unknown
  | some d =>
    if d.state = .done ∨ d.state = .scrapped then refuse s .wrongState
    else
      let t := s.cancelDocket d
      (t, .ok, [fDocket n, fCode (t.stateCodeOf n), fCode (t.scrapCodeOf n)])

/-- CANCEL (R15). -/
def execCancel (h : Hdr) (n : BitVec 16) (s : State) : Res := .next (takeRequest .cancel h (cancelReply n.toNat) s)

/-! ## RELEASE (R21, R22) -/

/-- HELD at WASH_EXIT. -/
def Docket.heldAtExit (d : Docket) : Bool :=
  decide (d.state = .held) && (match d.hold with | some h => decide (h.location = .washExit) | none => false)

/-- R22: the hold reason is UNDERWASH and a pass is left. -/
def Docket.mayRewash (d : Docket) : Bool :=
  (match d.hold with | some h => decide (h.reason = .underwash) | none => false) && decide (d.passes.length < 3)

/-- RELEASE with a form code: RANGE for a code that is neither 0 nor 1, before the other checks (R21). -/
def releaseReply (n form : Nat) (s : State) : Reply :=
  if form ≠ 0 ∧ form ≠ 1 then refuse s .range
  else
    match s.docket n with
    | none => refuse s .unknown
    | some d =>
      if !d.heldAtExit then refuse s .wrongState
      else if form = 0 then
        ((s.updateDocket n fun d => { d with hold := none }).joinDry n, .ok, [fDocket n])
      else if !d.mayRewash then refuse s .limit
      else
        ((s.updateDocket n fun d => { d with hold := none, passOver := 0 }).joinWash n, .ok, [fDocket n])

/-- RELEASE PASS (R21). -/
def execReleasePass (h : Hdr) (n : BitVec 16) (form : BitVec 8) (s : State) : Res :=
  .next (takeRequest .release h (releaseReply n.toNat form.toNat) s)

/-- RELEASE REWASH (R22). -/
def execReleaseRewash (h : Hdr) (n : BitVec 16) (form : BitVec 8) (s : State) : Res :=
  .next (takeRequest .release h (releaseReply n.toNat form.toNat) s)

/-! ## RETIRE (R23) -/

def retireReply (n : Nat) (s : State) : Reply :=
  match s.docket n with
  | none => refuse s .unknown
  | some d =>
    if d.state ≠ .done ∧ d.state ≠ .scrapped then refuse s .wrongState
    else
      let t := s.freeSlotOf n
      (t, .ok, [fCode t.freeSlots])

/-- RETIRE (R23). -/
def execRetire (h : Hdr) (n : BitVec 16) (s : State) : Res := .next (takeRequest .retire h (retireReply n.toNat) s)

/-! ## READ_DOCKET (R24) -/

def docketPart0 (s : State) (d : Docket) : List Field :=
  [fDocket d.number, fCode d.state.code, fCode d.sub.code, fCode ((s.slotOf d.number).getD 0), fCode d.recipe.val,
   fCode d.cls.code, fCode (prefCode d.pref), .num .area d.area, fCode d.coverage, fTime d.registeredAt]
    ++ snapshotFields d.snapshot
    ++ [.opt .code (d.unit.map unitCode), .opt .dose d.backDelivered, .opt .dose d.mainDelivered,
        .num .flags d.lampFlags]

def passFields (p : WashPass) : List Field :=
  [fTime p.feedTime, .num .speed p.w, .num .speed p.vReq, .num .speed p.vBelt, fTime p.expectedExit,
   .opt .time p.exitTime, .opt .depth p.depth, .num .flags p.flags]

def docketPart1 (d : Docket) : List Field :=
  [fDocket d.number, fCode d.state.code, fCode d.passOver, .num .depth d.removed, fCode d.passes.length]
    ++ d.passes.flatMap passFields

def docketPart2 (d : Docket) : List Field :=
  [fDocket d.number, fCode d.state.code, .opt .code (d.drawer.map fun x => x.val + 1), .opt .time d.dryStart,
   .opt .time d.dryEnd, .num .flags d.dryFlags, .opt .dose d.finishC, .opt .dose d.finishA,
   .opt .code (d.hold.map fun h => h.reason.code), .opt .code (d.hold.map fun h => h.stage.code),
   .opt .code (d.hold.map fun h => h.location.code), .opt .time (d.hold.map HoldRecord.timeHeld),
   .opt .dose (d.hold.bind HoldRecord.first), .opt .dose (d.hold.bind HoldRecord.second),
   fCode (scrapCode d.scrapMark), .opt .time d.doneAt]

def readDocketReply (n part : Nat) (s : State) : Reply :=
  match s.docket n with
  | none => refuse s .unknown
  | some d =>
    match part with
    | 0 => (s, .ok, docketPart0 s d)
    | 1 => (s, .ok, docketPart1 d)
    | 2 => (s, .ok, docketPart2 d)
    | _ => refuse s .range

/-- READ_DOCKET (R24). -/
def execReadDocket (h : Hdr) (n : BitVec 16) (part : BitVec 8) (s : State) : Res :=
  .next (takeRequest .readDocket h (readDocketReply n.toNat part.toNat) s)

/-! ## LIST (R25) -/

def State.numbersIn (s : State) (st : DocketState) : List Nat :=
  (s.liveDockets.filter fun d => d.state == st).map Docket.number

/-- The eight collections of section 1.11, in the orders of R25. -/
def State.collection (s : State) : Nat → Option (List Nat)
  | 0 => some s.exposurePool
  | 1 => some s.washQueue
  | 2 => some (s.belt.map BeltRecord.docket)
  | 3 => some s.dryQueue
  | 4 => some s.finishPool
  | 5 => some (s.numbersIn .held)
  | 6 => some (s.numbersIn .done)
  | 7 => some (s.numbersIn .scrapped)
  | _ => none

def listReply (collection start : Nat) (s : State) : Reply :=
  match s.collection collection with
  | none => refuse s .range
  | some q =>
    if 47 < start then refuse s .range
    else
      let page := (q.drop start).take 24
      (s, .ok, [fCode collection, fCode q.length, fCode start, fCode page.length] ++ page.map fDocket)

/-- LIST (R25). -/
def execList (h : Hdr) (collection start : BitVec 8) (s : State) : Res :=
  .next (takeRequest .list h (listReply collection.toNat start.toNat) s)

/-! ## LINE_CLEAR (R26 to R28, R74) -/

/-- R27 and R74: a channel at LINE_CLEAR. -/
def Channel.lineClear (c : Channel) : Channel :=
  match c.state with
  | .idle => c
  | .fault => c
  | _ =>
    { c with
      state := .idle, permit := false, latched := none, run := none, target := none, accumulator := 0, prediction := 0,
      overtime := none, elapsed := 0, lastEnd := .none, idleCount := 0, dimRaised := false, agedRaised := false,
      inGrace := false, window := none, dimFrom := none, deadFrom := none, tailFrom := none }

/-- R27: a drawer at LINE_CLEAR. -/
def Drawer.lineClear : Drawer → Drawer
  | .out => .out
  | _ => .empty

/-- R28: a port's notices at LINE_CLEAR. -/
def PortRecord.lineClear (r : PortRecord) : PortRecord :=
  { r with notices := Vector.replicate 17 none, snapshot := none, attention := false }

/-- R26 to R28 as one step. -/
def State.lineClear (s : State) : State :=
  { s with
    slots := Vector.replicate 48 none
    exposurePool := []
    finishPool := []
    washQueue := []
    belt := []
    beltSpeed := none
    dryQueue := []
    channels := s.channels.map Channel.lineClear
    units := ⟨.vacant, .vacant⟩
    finisher := .vacant
    drawers := mapAll Drawer.lineClear s.drawers
    ports := s.ports.map PortRecord.lineClear }

def lineClearReply (s : State) : Reply := (s.lineClear, .ok, [fCode s.liveDockets.length])

/-- LINE_CLEAR (R26). -/
def execLineClear (h : Hdr) (s : State) : Res := .next (takeRequest .lineClear h lineClearReply s)

end Sys2Proof.Machine
end

