-- ==== Sys2Proof/Machine/Dryer.lean ====
section
/-! DEFINITION. The dryer: DRAWER_LOADED, DRAWER_UNLOADED, DRAWER_SERVICE, READ_DRYER and the drawer timers
(spec/07_dryer_drawers.md). -/

namespace Sys2Proof.Machine

/-- A drawer number 1–8 as its place in the table. -/
def drawerOfCode (d : Nat) : Option (Fin 8) := if h : 1 ≤ d ∧ d ≤ 8 then some ⟨d - 1, by omega⟩ else none

/-- The snapshot's dry time in s (R143). -/
def Docket.drySeconds (d : Docket) : Nat :=
  match d.snapshot with
  | some x => x.dryTime * 60
  | none => 0

/-! ## DRAWER_LOADED (R143) -/

def drawerLoadedReply (d n : Nat) (s : State) : Reply :=
  match drawerOfCode d with
  | none => refuse s .range
  | some i =>
    match s.docket n with
    | none => refuse s .unknown
    | some x =>
      match s.drawers[i] with
      | .reserved m =>
        if m ≠ n then refuse s .notHere
        else
          ((s.setDrawers (s.drawers.set i (.drying n { startedAt := s.now, seconds := x.drySeconds }))).updateDocket n
              fun x => { x with sub := .drying, dryStart := some s.seconds }, .ok,
            [fCode d, fDocket n, fTime x.drySeconds])
      | _ => refuse s .wrongState

/-- DRAWER_LOADED (R143). -/
def execDrawerLoaded (h : Hdr) (d : BitVec 8) (n : BitVec 16) (s : State) : Res :=
  .next (takeRequest .drawerLoaded h (drawerLoadedReply d.toNat n.toNat) s)

/-! ## Timers (R144, R145) -/

/-- DRYING_EXPIRY (R144). -/
def execDryingExpiry (d : Fin 8) (s : State) : Res :=
  .next (match s.drawers[d] with
    | .drying n timer =>
      let t := s.pass (remainingMs timer.startedAt (timer.seconds * 1000) s.now)
      let limit := t.working.line.overdryLimit
      let overdry : Option DrawerTimer :=
        if limit = 0 then none else some { startedAt := t.now, seconds := limit * 60 }
      (((t.setDrawers (t.drawers.set d (.dry n overdry false))).updateDocket n fun x =>
          { x with sub := .dry, dryEnd := some t.seconds }).raise .F .dryDone (some n)).offerFor .dried 1 n false
    | _ => s)

/-- OVERDRY_EXPIRY (R145). -/
def execOverdryExpiry (d : Fin 8) (s : State) : Res :=
  .next (match s.drawers[d] with
    | .dry n (some timer) _ =>
      let t := s.pass (remainingMs timer.startedAt (timer.seconds * 1000) s.now)
      (((t.setDrawers (t.drawers.set d (.dry n none true))).updateDocket n fun x => { x with overdry := true }).raise
        .F .overdry (some n)).raise .E .overdry (some n)
    | _ => s)

/-! ## DRAWER_UNLOADED (R146, R147) -/

/-- R147, step 2: the docket to SCRAPPED, or to the tail of the finish pool. -/
def State.unloadDocket (s : State) (n : Nat) (mark : Option ScrapMark) : State :=
  let t := s.updateDocket n fun x => { x with drawer := none }
  if mark = some .atUnload then t.enterScrapped n
  else
    let u := (t.updateDocket n fun x =>
      { x with state := .finishQueued, sub := .none, unloadOrder := t.nextOrder }).setFinishPool (t.finishPool ++ [n])
    { u with nextOrder := u.nextOrder + 1 }

/-- R147, steps 3 and 4: the drawer to OUT above DRAWERS, else to EMPTY with the assignment. -/
def State.vacateDrawer (s : State) (i : Fin 8) : State :=
  if s.working.line.drawers < i.val + 1 then s.setDrawers (s.drawers.set i .out)
  else (s.setDrawers (s.drawers.set i .empty)).assignDrawers

/-- R147, with the seconds discarded and the dry flags afterwards. -/
def unloadReply (i : Fin 8) (n discarded : Nat) (short : Bool) (s : State) : Reply :=
  let t := s.updateDocket n fun x => { x with shortDry := x.shortDry || short }
  let mark := (t.docket n).bind Docket.scrapMark
  let u := (t.unloadDocket n mark).vacateDrawer i
  (u, .ok,
    [fCode (i.val + 1), fDocket n, fCode (u.stateCodeOf n), fCode u.drawers[i].code, fTime discarded,
     .num .flags (((u.docket n).map Docket.dryFlags).getD 0)])

def drawerUnloadedReply (d force : Nat) (s : State) : Reply :=
  match drawerOfCode d with
  | none => refuse s .range
  | some i =>
    if force ≠ 0 ∧ force ≠ 1 then refuse s .range
    else
      match s.drawers[i] with
      | .dry n _ _ => unloadReply i n 0 false s
      | .drying n timer =>
        if force = 0 then refuse s .wrongState else unloadReply i n (timer.remaining s.now) true s
      | _ => refuse s .wrongState

/-- DRAWER_UNLOADED (R146, R147). -/
def execDrawerUnloaded (h : Hdr) (d force : BitVec 8) (s : State) : Res :=
  .next (takeRequest .drawerUnloaded h (drawerUnloadedReply d.toNat force.toNat) s)

/-! ## DRAWER_SERVICE (R149) -/

def drawerServiceReply (d dir : Nat) (s : State) : Reply :=
  match drawerOfCode d with
  | none => refuse s .range
  | some i =>
    if dir = 0 then
      if s.drawers[i] = .empty then
        let t := s.setDrawers (s.drawers.set i .out)
        (t, .ok, [fCode d, fCode t.drawers[i].code])
      else refuse s .busy
    else if dir = 1 then
      if s.drawers[i] = .out then
        let t := (s.setDrawers (s.drawers.set i .empty)).assignDrawers
        (t, .ok, [fCode d, fCode t.drawers[i].code])
      else refuse s .wrongState
    else refuse s .range

/-- DRAWER_SERVICE OUT (R149). -/
def execDrawerServiceOut (h : Hdr) (d dir : BitVec 8) (s : State) : Res :=
  .next (takeRequest .drawerService h (drawerServiceReply d.toNat dir.toNat) s)

/-- DRAWER_SERVICE IN (R149). -/
def execDrawerServiceIn (h : Hdr) (d dir : BitVec 8) (s : State) : Res :=
  .next (takeRequest .drawerService h (drawerServiceReply d.toNat dir.toNat) s)

/-! ## READ_DRYER (R152) -/

/-- R152: the fields of one drawer. "Overdry raised" goes out as 0 no, 1 yes (DESIGN CHOICE: assumption 25; no rule gives its
codes). -/
def State.drawerFields (s : State) (i : Fin 8) : List Field :=
  let d := s.drawers[i]
  let remaining := match d with
    | .drying _ timer => some (timer.remaining s.now)
    | _ => none
  let overdry := match d with
    | .dry _ (some timer) _ => some (timer.remaining s.now)
    | _ => none
  let raised := match d with
    | .dry _ _ r => some (boolCode r)
    | _ => none
  [fCode d.code, fCode (boolCode (s.inService i)), .opt .docket d.docket, .opt .time remaining, .opt .time overdry,
   .opt .code raised]

/-- R152. DRAWERS goes out as a code, index and count, 1 byte (DESIGN CHOICE: assumption 24; R181 has 4 bytes for "setting
values", and R152 names no type). -/
def readDryerReply (s : State) : Reply :=
  (s, .ok,
    [fCode s.working.line.drawers, fCode s.dryQueue.length] ++ (List.finRange 8).flatMap s.drawerFields)

/-- READ_DRYER (R152). -/
def execReadDryer (h : Hdr) (s : State) : Res := .next (takeRequest .readDryer h readDryerReply s)

end Sys2Proof.Machine
end

