-- ==== Sys2Proof/Machine/Finisher.lean ====
section
/-! DEFINITION. The light finisher: CLAIM_FINISH, START_FINISH, STOP, RESUME and RETURN from port F, READ_FINISHER
(spec/08_light_finishing.md). -/

namespace Sys2Proof.Machine

/-- The target of channel FC or FA (R156): the snapshot dose × 1000. -/
def Docket.finishTarget (d : Docket) (ch : ChannelId) : Nat :=
  match d.snapshot, ch with
  | some x, .FC => x.uvc * 1000
  | some x, _ => x.uva * 1000
  | none, _ => 0

/-- The finisher does not hold docket `n` (check 2 of R155, R159, R160 and R161). -/
def State.finisherHolds (s : State) (n : Nat) : Bool := decide (s.finisher.docket = some n)

/-! ## CLAIM_FINISH (R154) -/

def claimFinishReply (n : Nat) (s : State) : Reply :=
  if s.finisher ≠ .vacant then refuse s .busy
  else
    match s.docket n with
    | none => refuse s .unknown
    | some d =>
      if d.state ≠ .finishQueued then refuse s .wrongState
      else
        (((s.setFinishPool (s.finishPool.filter fun m => m != n)).setFinisher (.loaded n)).updateDocket n fun d =>
            { d with state := .atFinisher, sub := .ready }, .ok,
          [fDocket n, .opt .dose (d.snapshot.map Snapshot.uvc), .opt .dose (d.snapshot.map Snapshot.uva)])

/-- CLAIM_FINISH (R154). -/
def execClaimFinish (h : Hdr) (n : BitVec 16) (s : State) : Res :=
  .next (takeRequest .claimFinish h (claimFinishReply n.toNat) s)

/-! ## START_FINISH (R155, R156) -/

/-- The mark of a channel after it was asked to start with `target` and `initial` (R156, R160). -/
def markAfter (target initial : Nat) : Mark := if target ≤ initial then .reached else .openMark

/-- The end of a START_FINISH or RESUME (R156, R160): RUNNING while a mark is OPEN, else complete (R157). -/
def State.finishRun (s : State) (n : Nat) (c a : Mark) : State :=
  if c = .reached ∧ a = .reached then s.finishComplete n
  else (s.setFinisher (.running n c a)).updateDocket n fun d => { d with state := .atFinisher, sub := .run }

/-- The result code of the answer: 1 RUNNING, 2 DONE. -/
def finishResult (c a : Mark) : Nat := if c = .reached ∧ a = .reached then 2 else 1

def startFinishReply (n : Nat) (s : State) : Reply :=
  match s.docket n with
  | none => refuse s .unknown
  | some d =>
    if !s.finisherHolds n then refuse s .notHere
    else if s.finisher ≠ .loaded n then refuse s .wrongState
    else
      match s.startRefusal [.FC, .FA] with
      | some code => refuse s code
      | none =>
        let tc := d.finishTarget .FC
        let ta := d.finishTarget .FA
        let t := (s.startChannel .FC d tc 0).startChannel .FA d ta 0
        let c := markAfter tc 0
        let a := markAfter ta 0
        (t.finishRun n c a, .ok,
          [fDocket n, fCode (finishResult c a),
           fCode c.code, .num .dose tc, .num .figure (t.chan .FC).prediction,
           fCode a.code, .num .dose ta, .num .figure (t.chan .FA).prediction])

/-- START_FINISH (R155, R156). -/
def execStartFinish (h : Hdr) (n : BitVec 16) (s : State) : Res :=
  .next (takeRequest .startFinish h (startFinishReply n.toNat) s)

/-! ## STOP, RESUME and RETURN from port F (R159 to R161) -/

/-- R159. -/
def finisherStopReply (n : Nat) (s : State) : Reply :=
  match s.docket n with
  | none => refuse s .unknown
  | some _ =>
    if !s.finisherHolds n then refuse s .notHere
    else
      match s.finisher with
      | .running _ _ _ =>
        let t := s.abortFinisher .operator
        (t, .ok, [fDocket n, fCode t.finisher.code])
      | _ => refuse s .wrongState

/-- STOP from port F (R159). -/
def execFinisherStop (len : Nat) (n : BitVec 16) (s : State) : Res :=
  .next (takeRequest .stop { port := .F, len } (finisherStopReply n.toNat) s)

/-- The partial dose of a held docket for a finisher channel (R7). A RESUME that is taken finds it present (R8). -/
def Docket.finishPartial (d : Docket) (ch : ChannelId) : Nat :=
  match d.hold, ch with
  | some h, .FC => h.first.getD 0
  | some h, _ => h.second.getD 0
  | none, _ => 0

/-- R160: an OPEN channel asked to start from its partial dose; a REACHED one is left alone. -/
def State.resumeFinish (s : State) (ch : ChannelId) (m : Mark) (d : Docket) : State :=
  if m = .openMark then s.startChannel ch d (d.finishTarget ch) (d.finishPartial ch) else s

/-- R160: the mark of a channel after the RESUME. -/
def markAfterResume (m : Mark) (ch : ChannelId) (d : Docket) : Mark :=
  if m = .openMark then markAfter (d.finishTarget ch) (d.finishPartial ch) else .reached

/-- The fields of one channel in the answer of R160. -/
def resumeFinishFields (t : State) (ch : ChannelId) (m m' : Mark) (d : Docket) : List Field :=
  [fCode m'.code, .opt .dose (if m = .openMark then some (d.finishPartial ch) else none),
   .num .dose (d.finishTarget ch), .opt .figure (if m = .openMark then some (t.chan ch).prediction else none)]

/-- R160. -/
def finisherResumeReply (n : Nat) (s : State) : Reply :=
  match s.docket n with
  | none => refuse s .unknown
  | some d =>
    if !s.finisherHolds n then refuse s .notHere
    else
      match s.finisher with
      | .halted _ c a _ =>
        match s.startRefusal s.finisher.openChannels with
        | some code => refuse s code
        | none =>
          let t := ((s.resumeFinish .FC c d).resumeFinish .FA a d).updateDocket n fun d => { d with hold := none }
          let c' := markAfterResume c .FC d
          let a' := markAfterResume a .FA d
          (t.finishRun n c' a', .ok,
            fDocket n :: fCode (finishResult c' a') :: resumeFinishFields t .FC c c' d
              ++ resumeFinishFields t .FA a a' d)
      | _ => refuse s .wrongState

/-- RESUME from port F (R160). -/
def execFinisherResume (len : Nat) (n : BitVec 16) (s : State) : Res :=
  .next (takeRequest .resume { port := .F, len } (finisherResumeReply n.toNat) s)

/-- R161. -/
def finisherReturnReply (n : Nat) (s : State) : Reply :=
  match s.docket n with
  | none => refuse s .unknown
  | some _ =>
    if !s.finisherHolds n then refuse s .notHere
    else if s.finisher ≠ .loaded n then refuse s .wrongState
    else
      let q := insertByOrder s.unloadOrderOf s.finishPool n
      (((s.setFinisher .vacant).setFinishPool q).updateDocket n fun d => { d with state := .finishQueued, sub := .none },
        .ok, [fDocket n, fCode (q.idxOf n)])

/-- RETURN from port F (R161). -/
def execFinisherReturn (len : Nat) (n : BitVec 16) (s : State) : Res :=
  .next (takeRequest .returnDocket { port := .F, len } (finisherReturnReply n.toNat) s)

/-! ## READ_FINISHER (R164) -/

/-- The UV-C and UV-A marks, absent when VACANT; a LOADED finisher has both OPEN (R153). -/
def FinisherRecord.marks : FinisherRecord → Option (Mark × Mark)
  | .vacant => none
  | .loaded _ => some (.openMark, .openMark)
  | .running _ c a => some (c, a)
  | .halted _ c a _ => some (c, a)

def FinisherRecord.reason : FinisherRecord → Option HoldReason
  | .halted _ _ _ r => some r
  | _ => none

/-- The sub-stage field of a holder's docket; `vacant` is what a VACANT holder shows (assumption 7). -/
def subStageField (s : State) (docket : Option Nat) (vacant : Option Nat) : Field :=
  match docket with
  | none => .opt .code vacant
  | some n => .opt .code ((s.docket n).map fun d => d.sub.code)

def readFinisherReply (s : State) : Reply :=
  (s, .ok,
    [fCode s.finisher.code, .opt .docket s.finisher.docket,
     subStageField s s.finisher.docket (Config.vacantFinisherSubStage s.now),
     .opt .code (s.finisher.marks.map fun m => m.1.code), .opt .code (s.finisher.marks.map fun m => m.2.code),
     .opt .code (s.finisher.reason.map HoldReason.code), fCode (s.chan .FC).state.code, fCode (s.chan .FA).state.code])

/-- READ_FINISHER (R164). -/
def execReadFinisher (h : Hdr) (s : State) : Res := .next (takeRequest .readFinisher h readFinisherReply s)

end Sys2Proof.Machine
end

