-- ==== Sys2Proof/Machine/NoticeUnit.lean ====
section
/-! DEFINITION. The notice unit's and line counters' requests: STATUS, ACK, READ_NOTICE, SET_THRESHOLD, SET_COUNTER,
CLEAR_COUNTERS, READ_COUNTERS (spec/09_notices_and_line_counters.md). -/

namespace Sys2Proof.Machine

/-! ## STATUS (R168) -/

/-- The kinds pending at a port, in kind order. -/
def PortRecord.pendingKinds (r : PortRecord) : List NoticeKind := allKinds.filter fun k => r.notices[k.idx].isSome

/-- R168: bit k − 1 for each pending kind k. -/
def PortRecord.bitmap (r : PortRecord) : Nat := (r.pendingKinds.map fun k => 2 ^ k.idx.val).sum

/-- R168: the lead notice: the highest level, among equal levels the lowest kind number. -/
def PortRecord.lead (r : PortRecord) (levels : Vector Nat 17) : Option NoticeKind :=
  r.pendingKinds.foldl (fun best k =>
    match best with
    | none => some k
    | some b => if levels[b.idx] < levels[k.idx] then some k else some b) none

/-- R168: the counts of the pending kinds; 0 for a kind that is not pending. -/
def PortRecord.counts (r : PortRecord) : Vector Nat 17 :=
  Vector.ofFn fun i =>
    match r.notices[i] with
    | some x => x.count
    | none => 0

def leadFields (r : PortRecord) (levels : Vector Nat 17) : List Field :=
  match r.lead levels with
  | none => [fCode 0, .opt .code none, .opt .code none, .opt .docket none, .opt .time none]
  | some k =>
    let x := r.notices[k.idx]
    [fCode k.number, .opt .code (some levels[k.idx]), .opt .code (x.map Notice.count),
     .opt .docket (x.bind Notice.latest), .opt .time (x.map Notice.firstRaised)]

/-- R168; `prior` is the port state before the frame that carried the STATUS. -/
def statusReply (p : Port) (prior : PortState) (s : State) : Reply :=
  let r := s.port p
  (s.setPort p { r with snapshot := some r.counts }, .ok,
    [fCode prior.code, .num .bitmap r.bitmap] ++ leadFields r s.working.levels)

/-- STATUS (R168). -/
def execStatus (h : Hdr) (s : State) : Res :=
  .next (takeRequest .status h (statusReply h.port (s.port h.port).state) s)

/-! ## ACK (R169) -/

/-- R169: a record after the snapshotted count `c` is subtracted; 0 means the kind is not in the snapshot. -/
def ackNotice (x : Option Notice) (c : Nat) : Option Notice :=
  match x with
  | none => none
  | some x =>
    if c = 0 then some x
    else if c = 255 ∨ x.count ≤ c then none
    else some { x with count := x.count - c }

/-- R169: the port after an ACK with the snapshot `snap`. -/
def PortRecord.acked (r : PortRecord) (snap levels : Vector Nat 17) : PortRecord :=
  ({ r with notices := Vector.ofFn fun i => ackNotice r.notices[i] snap[i], snapshot := none } : PortRecord).evaluate
    levels

def ackReply (p : Port) (s : State) : Reply :=
  let r := s.port p
  match r.snapshot with
  | none => (s, .ok, [fCode 0, fCode r.pendingKinds.length])
  | some snap =>
    let r' := r.acked snap s.working.levels
    (s.setPort p r', .ok,
      [fCode (r.pendingKinds.length - r'.pendingKinds.length), fCode r'.pendingKinds.length])

/-- ACK (R169). -/
def execAck (h : Hdr) (s : State) : Res := .next (takeRequest .ack h (ackReply h.port) s)

/-! ## READ_NOTICE and SET_THRESHOLD (R171) -/

/-- R171. The field `pending` is 0 no, 1 yes (DESIGN CHOICE: assumption 25; no rule gives its codes). -/
def readNoticeReply (p : Port) (kind : Nat) (s : State) : Reply :=
  match kindOfNumber kind with
  | none => refuse s .range
  | some k =>
    if routed p k = false then refuse s .range
    else
      let x := (s.port p).notices[k.idx]
      (s, .ok,
        [fCode kind, fCode s.working.levels[k.idx], fCode (boolCode x.isSome), .opt .code (x.map Notice.count),
         .opt .docket (x.bind Notice.latest), .opt .time (x.map Notice.firstRaised)])

/-- READ_NOTICE (R171). -/
def execReadNotice (h : Hdr) (kind : BitVec 8) (s : State) : Res :=
  .next (takeRequest .readNotice h (readNoticeReply h.port kind.toNat) s)

def setThresholdReply (p : Port) (v : Nat) (s : State) : Reply :=
  (s.setPort p (({ s.port p with threshold := min 7 v } : PortRecord).evaluate s.working.levels), .ok,
    [fCode (min 7 v)])

/-- SET_THRESHOLD (R171). -/
def execSetThreshold (h : Hdr) (threshold : BitVec 8) (s : State) : Res :=
  .next (takeRequest .setThreshold h (setThresholdReply h.port threshold.toNat) s)

/-! ## Line counters (R175, R176) -/

def setCounterReply (k event recipe cls unit : Nat) (s : State) : Reply :=
  if hk : k < 4 then
    match eventOfCode event, recipePartOfCode recipe, classPartOfCode cls, prefOfCode unit with
    | some event', some recipe', some cls', some unit' =>
      let c : LineCounter :=
        { event := event', recipe := recipe', cls := cls', unit := unit', value := 0, timeSet := s.seconds }
      (s.setCounters (s.counters.set k c), .ok,
        [fCode k, fCode event, fCode recipe, fCode cls, fCode unit, fTime s.seconds])
    | _, _, _, _ => refuse s .range
  else refuse s .range

/-- SET_COUNTER (R175). -/
def execSetCounter (h : Hdr) (k event recipe cls unit : BitVec 8) (s : State) : Res :=
  .next (takeRequest .setCounter h (setCounterReply k.toNat event.toNat recipe.toNat cls.toNat unit.toNat) s)

def clearCountersReply (s : State) : Reply :=
  (s.setCounters (mapAll (fun c => { c with value := 0, timeSet := s.seconds }) s.counters), .ok, [fTime s.seconds])

/-- CLEAR_COUNTERS (R176). -/
def execClearCounters (h : Hdr) (s : State) : Res := .next (takeRequest .clearCounters h clearCountersReply s)

def counterFields (c : LineCounter) : List Field :=
  [fCode c.event.code, fCode (recipePartCode c.recipe), fCode (classPartCode c.cls), fCode (prefCode c.unit),
   .num .value c.value, fTime c.timeSet]

def readCountersReply (s : State) : Reply :=
  (s, .ok, fTime s.seconds :: s.counters.toList.flatMap counterFields)

/-- READ_COUNTERS (R176). -/
def execReadCounters (h : Hdr) (s : State) : Res := .next (takeRequest .readCounters h readCountersReply s)

end Sys2Proof.Machine
end

