-- ==== Sys2Proof/Machine/Settings.lean ====
section
/-! DEFINITION. Recipes, settings, notice levels and the stored image (spec/02_recipes_and_line_settings.md). -/

namespace Sys2Proof.Machine

/-! ## Recipes (R30 to R32) -/

def setRecipeReply (index valid : Nat) (name : List Byte) (figures : Snapshot) (s : State) : Reply :=
  if hi : index < 16 then
    if valid ≠ 0 ∧ valid ≠ 1 then refuse s .range
    else if s.store.job.isSome then refuse s .busy
    else
      let r : Recipe := { valid := decide (valid = 1), name := nameTaken name, figures := figures.taken }
      (s.setWorking { s.working with recipes := s.working.recipes.set index r }, .ok,
        [fCode index, fCode valid, .name r.name] ++ recipeFields r.figures)
  else refuse s .range

/-- SET_RECIPE (R30, R31). -/
def execSetRecipe (h : Hdr) (index valid : BitVec 8) (name : List Byte) (thickness relief : BitVec 16)
    (back main : BitVec 24) (w0 margin dryTime : BitVec 16) (uvc uva : BitVec 24) (s : State) : Res :=
  .next (takeNamed .setRecipe name.length h
    (setRecipeReply index.toNat valid.toNat name
      { thickness := thickness.toNat, relief := relief.toNat, back := back.toNat, main := main.toNat, w0 := w0.toNat,
        margin := margin.toNat, dryTime := dryTime.toNat, uvc := uvc.toNat, uva := uva.toNat }) s)

def readRecipeReply (index : Nat) (s : State) : Reply :=
  if hi : index < 16 then
    let r := s.working.recipes[index]
    (s, .ok, [fCode index, fCode (boolCode r.valid), .name r.name] ++ recipeFields r.figures)
  else refuse s .range

/-- READ_RECIPE (R32). -/
def execReadRecipe (h : Hdr) (index : BitVec 8) (s : State) : Res :=
  .next (takeRequest .readRecipe h (readRecipeReply index.toNat) s)

/-! ## Settings (R34 to R38) -/

/-- R36: a line item handed to the block that owns the state it bears on. -/
def State.handOff (s : State) : LineItem → State
  | .drawers => s.assignDrawers
  | .loadWarn => s.recomputeBath s.bath
  | .loadStop => s.recomputeBath s.bath
  | .bathVolMin => s.recomputeBath s.bath
  | .transportFailsafe => s.updatePermit
  | .silenceLimit => s.checkSilence
  | _ => s

/-- R34: the working value of a line item replaced and handed on. -/
def State.setLineItem (s : State) (i : LineItem) (v : Nat) : State :=
  (s.setWorking { s.working with line := s.working.line.set i v }).handOff i

/-- R37: the working value of a channel item replaced. -/
def State.setChanItem (s : State) (ch : ChannelId) (i : ChanItem) (v : Nat) : State :=
  s.setWorking { s.working with channels := s.working.channels.set ch ((s.working.channels.get ch).set i v) }

def setSettingReply (item channel value : Nat) (s : State) : Reply :=
  match lineItemOfCode item, chanItemOfCode item, channelOfCode channel with
  | some i, _, _ =>
    if s.store.job.isSome then refuse s .busy
    else
      let v := lineTaken s.working.line i value
      (s.setLineItem i v, .ok, [fCode item, fCode channel, .num .value v])
  | none, some i, some ch =>
    if s.store.job.isSome then refuse s .busy
    else (s.setChanItem ch i (chanTaken i value), .ok, [fCode item, fCode channel, .num .value (chanTaken i value)])
  | _, _, _ => refuse s .range

/-- SET_SETTING (R34). -/
def execSetSetting (h : Hdr) (item channel : BitVec 8) (value : BitVec 32) (s : State) : Res :=
  .next (takeRequest .setSetting h (setSettingReply item.toNat channel.toNat value.toNat) s)

def readSettingReply (item channel : Nat) (s : State) : Reply :=
  match lineItemOfCode item, chanItemOfCode item, channelOfCode channel with
  | some i, _, _ => (s, .ok, [fCode item, fCode channel, .num .value (s.working.line.get i)])
  | none, some i, some ch =>
    (s, .ok, [fCode item, fCode channel, .num .value ((s.working.channels.get ch).get i)])
  | _, _, _ => refuse s .range

/-- READ_SETTING (R38). -/
def execReadSetting (h : Hdr) (item channel : BitVec 8) (s : State) : Res :=
  .next (takeRequest .readSetting h (readSettingReply item.toNat channel.toNat) s)

/-! ## Notice levels (R39) -/

def setLevelReply (kind level : Nat) (s : State) : Reply :=
  match kindOfNumber kind with
  | none => refuse s .range
  | some k =>
    if s.store.job.isSome then refuse s .busy
    else
      let v := min 7 level
      ((s.setWorking { s.working with levels := s.working.levels.set k.idx v }).evaluateAll, .ok,
        [fCode kind, fCode v])

/-- SET_LEVEL (R39). -/
def execSetLevel (h : Hdr) (kind level : BitVec 8) (s : State) : Res :=
  .next (takeRequest .setLevel h (setLevelReply kind.toNat level.toNat) s)

def readLevelReply (kind : Nat) (s : State) : Reply :=
  match kindOfNumber kind with
  | none => refuse s .range
  | some k => (s, .ok, [fCode kind, fCode s.working.levels[k.idx]])

/-- READ_LEVEL (R39). -/
def execReadLevel (h : Hdr) (kind : BitVec 8) (s : State) : Res :=
  .next (takeRequest .readLevel h (readLevelReply kind.toNat) s)

/-! ## The stored image (R41 to R43, R46, R47) -/

def storeReply (skey : Bool) (s : State) : Reply :=
  if skey = false then refuse s .keyOff
  else if s.store.job.isSome then refuse s .busy
  else if Config.wearMax ≤ s.store.wear then refuse s .worn
  else
    (s.setStore { s.store with job := some { contents := s.working, takenAt := s.now } }, .ok,
      [.num .figure (s.store.wear + 1)])

/-- STORE (R41). -/
def execStore (h : Hdr) (skey : Bool) (s : State) : Res := .next (takeRequest .store h (storeReply skey) s)

/-- R43: the store information and the image after a completed store of `w`. -/
def Store.completed (x : Store) (w : WorkingCopy) (time : Nat) : Store :=
  let n := min Config.wearMax (x.wear + 1)
  { image := { body := some (.written w), wear1 := some n, wear2 := some n }
    job := none, wear := n, lastResult := .stored, resultTime := some time }

/-- STORE_COMPLETE (R43), 350 ms after the store was taken (R42). -/
def execStoreComplete (s : State) : Res :=
  .next (match s.store.job with
    | some j =>
      let t := s.pass (remainingMs j.takenAt Config.storeMs s.now)
      (t.setStore (t.store.completed j.contents t.seconds)).raise .E .storeResult none
    | none => s)

/-- R46, the hand-offs of R36 and R39: each working value that RECALL changed, from the line settings and levels before.
The bath condition is recomputed once (R134). -/
def State.handOnRecall (s : State) (old : WorkingCopy) : State :=
  let now := s.working.line
  let t1 := if now.drawers ≠ old.line.drawers then s.assignDrawers else s
  let t2 := if now.loadWarn ≠ old.line.loadWarn ∨ now.loadStop ≠ old.line.loadStop
      ∨ now.bathVolMin ≠ old.line.bathVolMin then t1.recomputeBath t1.bath else t1
  let t3 := if now.transportHold ≠ old.line.transportHold then t2.updatePermit else t2
  let t4 := if now.silenceLimit ≠ old.line.silenceLimit then t3.checkSilence else t3
  if s.working.levels ≠ old.levels then t4.evaluateAll else t4

def recallReply (s : State) : Reply :=
  if s.store.job.isSome then refuse s .busy
  else
    match s.store.image.goodBody with
    | some w => ((s.setWorking w).handOnRecall s.working, .ok, [fCode 1])
    | none =>
      let t := (s.setWorking .factory).setStore
        { s.store with lastResult := .imageBad, resultTime := some s.seconds }
      ((t.raise .E .storeResult none).handOnRecall s.working, .ok, [fCode 2])

/-- RECALL (R46). -/
def execRecall (h : Hdr) (s : State) : Res := .next (takeRequest .recall h recallReply s)

def storeInfoReply (s : State) : Reply :=
  (s, .ok,
    [fCode (boolCode s.store.job.isSome), .num .figure s.store.wear, fCode s.store.lastResult.code,
     .opt .time s.store.resultTime])

/-- STORE_INFO (R47). -/
def execStoreInfo (h : Hdr) (s : State) : Res := .next (takeRequest .storeInfo h storeInfoReply s)

end Sys2Proof.Machine
end

