-- ==== Sys2Proof/Machine/StationPorts.lean ====
section
/-! DEFINITION. The station ports: silence, the receiver's bytes and frame errors, UNKNOWN_REQUEST, the sending of
answers, PING and PORT_INFO (spec/10_station_ports.md). -/

namespace Sys2Proof.Machine

/-- PORT_LOST (R182): line time comes to SILENCE_LIMIT after the last valid frame. A port that is not ONLINE never falls
silent. -/
def execPortLost (p : Port) (s : State) : Res :=
  .next (match (s.port p).state, (s.port p).lastHeard with
    | .online, some h => (s.pass (remainingMs h (s.working.line.silenceLimit * 1000) s.now)).enterLost p
    | _, _ => s)

/-! ## Bytes (R179) -/

/-- FRAME_BEGINS (R179): the byte D9h. -/
def execFrameBegins (p : Port) (s : State) : Res := .next (s.receiveByte p syncByte)

/-- FRAME_BYTE (R179). -/
def execFrameByte (p : Port) (b : Byte) (s : State) : Res := .next (s.receiveByte p b)

/-- BAD_LEN (R179): the byte in the place of LEN. -/
def execBadLen (p : Port) (b : Byte) (s : State) : Res := .next (s.receiveByte p b)

/-- MISSING_STOP_BIT (R179). -/
def execMissingStopBit (p : Port) (s : State) : Res :=
  .next (match (s.port p).receiver with
    | .hunting => s
    | _ => s.setPort p ((s.port p).framingError .hunting))

/-- The moment of the previous byte of a frame. -/
def Receiver.lastByte : Receiver → Option Nat
  | .hunting => none
  | .lenExpected t => some t
  | .inFrame _ _ t => some t

/-- BYTE_GAP_TIMEOUT (R179): the late byte comes more than 20 ms after the previous one and is taken as a hunting byte. -/
def execByteGapTimeout (p : Port) (b : Byte) (s : State) : Res :=
  .next (match (s.port p).receiver.lastByte with
    | some from_ =>
      let t := s.pass (remainingMs from_ (Config.gapMs + 1) s.now)
      t.setPort p ((t.port p).framingError (huntingByte t.now b))
    | none => s)

/-- FRAME_CRC_ERROR (R179). -/
def execFrameCrcError (p : Port) (s : State) : Res :=
  .next (s.setPort p { s.port p with crc := satAdd Config.figureMax (s.port p).crc 1, receiver := .hunting })

/-- FRAME_OVERRUN (R179): only while an answer is pending. -/
def execFrameOverrun (p : Port) (s : State) : Res :=
  .next (if (s.port p).answer.isSome then s.countOverrun p else s)

/-! ## Requests outside the table, answers (R180) -/

/-- UNKNOWN_REQUEST (R180): a valid frame whose KIND is not in the request table. -/
def execUnknownRequest (p : Port) (kind : Byte) (s : State) : Res :=
  .next (if (requestOfKind kind.toNat).isSome then s
    else if (s.port p).answer.isSome then s.countOverrun p
    else (s.onlineEntry p).answer p kind.toNat .unknownRequest [])

/-- ANSWER_SENT (R180): answer pending returns to no. -/
def execAnswerSent (p : Port) (s : State) : Res := .next (s.setPort p { s.port p with answer := none })

/-! ## PING and PORT_INFO (R185) -/

def pingReply (s : State) : Reply := (s, .ok, [fTime s.seconds])

/-- PING (R185). -/
def execPing (h : Hdr) (s : State) : Res := .next (takeRequest .ping h pingReply s)

/-- R185; `prior` is the port state before the frame that carried the request. -/
def portInfoReply (p : Port) (prior : PortState) (s : State) : Reply :=
  let r := s.port p
  (s, .ok,
    [fCode (portCode p), fCode prior.code, .num .figure r.framing, .num .figure r.crc, .num .figure r.overrun])

/-- PORT_INFO (R185). -/
def execPortInfo (h : Hdr) (s : State) : Res :=
  .next (takeRequest .portInfo h (portInfoReply h.port (s.port h.port).state) s)

end Sys2Proof.Machine
end

