-- ==== Sys2Proof/Machine/Units.lean ====
section
/-! DEFINITION. The exposure units: CLAIM, START_BACK, START_MAIN, STOP, RESUME, RETURN and READ_UNIT
(spec/04_exposure_units.md). STOP, RESUME and RETURN from port F act on the finisher (R153). -/

namespace Sys2Proof.Machine

/-- A request that acts on the unit of the port it came from (R75). -/
def onUnit (p : Port) (owner : UnitId → State → Reply) (s : State) : Reply :=
  match portUnit p with
  | some u => owner u s
  | none => refuse s .notPermitted

/-- A request that acts on a unit from ports A and B and on the finisher from port F. -/
def onHolder (p : Port) (unitOwner : UnitId → State → Reply) (finisherOwner : State → Reply) (s : State) : Reply :=
  if p = .F then finisherOwner s else onUnit p unitOwner s

/-- The target of a stage (R80): the snapshot dose × 1000. -/
def Docket.stageTarget (d : Docket) (st : Stage) : Nat :=
  match d.snapshot, st with
  | some x, .back => x.back * 1000
  | some x, .main => x.main * 1000
  | none, _ => 0

/-- The snapshot's back dose; 0 while there is no snapshot. -/
def Docket.backDose (d : Docket) : Nat :=
  match d.snapshot with
  | some x => x.back
  | none => 0

/-! ## CLAIM (R77, R33) -/

/-- R77: a docket claimed at unit `u` with the snapshot `x`. -/
def Docket.claimed (d : Docket) (u : UnitId) (x : Snapshot) : Docket :=
  { d with
    state := .atExposure
    sub := if x.back = 0 then .mainReady else .backReady
    snapshot := some x
    unit := some u
    backDelivered := if x.back = 0 then some 0 else d.backDelivered }

def claimReply (n : Nat) (u : UnitId) (s : State) : Reply :=
  if s.unit u ≠ .vacant then refuse s .busy
  else
    match s.docket n with
    | none => refuse s .unknown
    | some d =>
      if d.state ≠ .registered then refuse s .wrongState
      else if d.pref ≠ none ∧ d.pref ≠ some u then refuse s .notHere
      else if s.working.recipes[d.recipe].valid = false then refuse s .badRecipe
      else
        let x := s.working.recipes[d.recipe].figures
        (((s.setExposurePool (s.exposurePool.filter fun m => m != n)).setUnit u (.loaded n)).updateDocket n fun d =>
            d.claimed u x, .ok,
          [fDocket n, fCode (if x.back = 0 then SubStage.mainReady else .backReady).code, .num .dose x.back,
           .num .dose x.main])

/-- CLAIM (R77, R78). -/
def execClaim (h : Hdr) (n : BitVec 16) (s : State) : Res :=
  .next (takeRequest .claim h (onUnit h.port (claimReply n.toNat)) s)

/-! ## START_BACK and START_MAIN (R79, R80) -/

/-- R79, R80. A target of 0, which R80 says a stage never has, completes at once as R53 gives. -/
def startStageReply (st : Stage) (n : Nat) (u : UnitId) (s : State) : Reply :=
  match s.docket n with
  | none => refuse s .unknown
  | some d =>
    if (s.unit u).docket ≠ some n then refuse s .notHere
    else if ¬ (s.unit u = .loaded n ∧ d.sub = stageReady st) then refuse s .wrongState
    else
      match s.startRefusal [stageChannel u st] with
      | some code => refuse s code
      | none =>
        let t := s.startChannel (stageChannel u st) d (d.stageTarget st) 0
        (if d.stageTarget st = 0 then t.stageReached u n st
          else (t.setUnit u (.running n st)).updateDocket n fun d => { d with sub := stageRunning st }, .ok,
          [fDocket n, fCode st.code, .num .dose (d.stageTarget st),
           .num .figure (t.chan (stageChannel u st)).prediction])

/-- START_BACK (R79, R80). -/
def execStartBack (h : Hdr) (n : BitVec 16) (s : State) : Res :=
  .next (takeRequest .startBack h (onUnit h.port (startStageReply .back n.toNat)) s)

/-- START_MAIN (R79, R80). -/
def execStartMain (h : Hdr) (n : BitVec 16) (s : State) : Res :=
  .next (takeRequest .startMain h (onUnit h.port (startStageReply .main n.toNat)) s)

/-! ## STOP (R85) -/

def unitStopReply (n : Nat) (u : UnitId) (s : State) : Reply :=
  match s.docket n with
  | none => refuse s .unknown
  | some _ =>
    if (s.unit u).docket ≠ some n then refuse s .notHere
    else
      match s.unit u with
      | .running _ st =>
        let t := s.abortUnit u .operator
        (t, .ok, [fDocket n, fCode st.code, fCode (t.unit u).code])
      | _ => refuse s .wrongState

/-- STOP (R85; R159 from port F). -/
def execStop (h : Hdr) (n : BitVec 16) (s : State) : Res :=
  .next (takeRequest .stop h (onHolder h.port (unitStopReply n.toNat) (finisherStopReply n.toNat)) s)

/-! ## RESUME (R86 to R88) -/

/-- The partial dose of a BACK or MAIN hold (R7). A RESUME that is taken finds it present (R8). -/
def Docket.stagePartial (d : Docket) : Nat :=
  match d.hold with
  | some h => h.first.getD 0
  | none => 0

def unitResumeReply (n : Nat) (u : UnitId) (s : State) : Reply :=
  match s.docket n with
  | none => refuse s .unknown
  | some d =>
    if (s.unit u).docket ≠ some n then refuse s .notHere
    else
      match s.unit u with
      | .halted _ st _ =>
        let ch := stageChannel u st
        match s.startRefusal [ch] with
        | some code => refuse s code
        | none =>
          let target := d.stageTarget st
          let t := (s.startChannel ch d target d.stagePartial).updateDocket n fun d => { d with hold := none }
          let fields (result : Nat) : List Field :=
            [fDocket n, fCode st.code, fCode result, .num .dose d.stagePartial, .num .dose target,
             .num .figure (t.chan ch).prediction]
          if target ≤ d.stagePartial then (t.stageReached u n st, .ok, fields 2)
          else
            ((t.setUnit u (.running n st)).updateDocket n fun d =>
                { d with state := .atExposure, sub := stageRunning st }, .ok, fields 1)
      | _ => refuse s .wrongState

/-- RESUME (R86 to R88; R160 from port F). -/
def execResume (h : Hdr) (n : BitVec 16) (s : State) : Res :=
  .next (takeRequest .resume h (onHolder h.port (unitResumeReply n.toNat) (finisherResumeReply n.toNat)) s)

/-! ## RETURN (R89) -/

def unitReturnReply (n : Nat) (u : UnitId) (s : State) : Reply :=
  match s.docket n with
  | none => refuse s .unknown
  | some d =>
    if (s.unit u).docket ≠ some n then refuse s .notHere
    else if s.unit u ≠ .loaded n ∨ (d.sub = .mainReady ∧ d.backDose ≠ 0) then refuse s .wrongState
    else
      let q := insertByOrder s.regOrderOf s.exposurePool n
      (((s.setUnit u .vacant).setExposurePool q).updateDocket n fun d =>
          { d with state := .registered, sub := .none, snapshot := none, unit := none, backDelivered := none }, .ok,
        [fDocket n, fCode (q.idxOf n)])

/-- RETURN (R89; R161 from port F). -/
def execReturnDocket (h : Hdr) (n : BitVec 16) (s : State) : Res :=
  .next (takeRequest .returnDocket h (onHolder h.port (unitReturnReply n.toNat) (finisherReturnReply n.toNat)) s)

/-! ## READ_UNIT (R92) -/

def UnitRecord.stage : UnitRecord → Option Stage
  | .running _ st => some st
  | .halted _ st _ => some st
  | _ => none

def UnitRecord.reason : UnitRecord → Option HoldReason
  | .halted _ _ r => some r
  | _ => none

def unitOfCode : Nat → Option UnitId
  | 1 => some .A | 2 => some .B | _ => none

def readUnitReply (code : Nat) (s : State) : Reply :=
  match unitOfCode code with
  | none => refuse s .range
  | some u =>
    let r := s.unit u
    (s, .ok,
      [fCode code, fCode r.code, .opt .docket r.docket, subStageField s r.docket (Config.vacantUnitSubStage code s.now),
       .opt .code (r.stage.map Stage.code), .opt .code (r.reason.map HoldReason.code),
       fCode (s.chan (stageChannel u .back)).state.code, fCode (s.chan (stageChannel u .main)).state.code])

/-- READ_UNIT (R92). -/
def execReadUnit (h : Hdr) (unit : BitVec 8) (s : State) : Res :=
  .next (takeRequest .readUnit h (readUnitReply unit.toNat) s)

end Sys2Proof.Machine
end

