-- ==== Sys2Proof/Machine/Washout.lean ====
section
/-! DEFINITION. The washout: FEED, EXIT, READ_WASH and the overdue expiry (spec/05_washout_queue_and_transport.md). -/

namespace Sys2Proof.Machine

/-! ## Feed selection (R103, R104) -/

/-- R104: the scan of the queue at the belt speed `v`. Answers the chosen docket and the dockets passed over, head
first; absent for WAIT. -/
def State.scanQueue (s : State) (v : Nat) : List Nat → List Nat → Option (Nat × List Nat)
  | _, [] => none
  | passed, n :: q =>
    match s.docket n with
    | none => State.scanQueue s v passed q
    | some d =>
      if compatible s.working.line v (d.vReq s.bath s.working.line) then some (n, passed)
      else if d.passOver = 3 then none
      else State.scanQueue s v (passed ++ [n]) q

/-- What a FEED selects: the docket, the dockets passed over, the belt speed. -/
structure FeedChoice where
  docket : Nat
  passed : List Nat
  speed  : Nat
deriving DecidableEq, Repr

/-- R103 on an empty belt: the head, at its own speed. R104 on an occupied one. -/
def State.selectFeed (s : State) : Option FeedChoice :=
  match s.belt, s.beltSpeed with
  | _ :: _, some v => (s.scanQueue v [] s.washQueue).map fun x => { docket := x.1, passed := x.2, speed := v }
  | _, _ =>
    match s.washQueue with
    | n :: _ =>
      (s.docket n).map fun d => { docket := n, passed := [], speed := d.vReq s.bath s.working.line }
    | [] => none

/-- R104: each docket passed over counts up and offers PASS_OVER. -/
def State.passOver (s : State) (ns : List Nat) : State :=
  ns.foldl (fun t n => (t.updateDocket n fun d => { d with passOver := d.passOver + 1 }).offerFor .passOver 1 n false) s

/-- FEED_REFUSED with the head's recipe and class, or with no docket (R102, R104). -/
def State.offerRefused (s : State) : State :=
  match s.washQueue with
  | n :: _ => s.offerFor .feedRefused 1 n false
  | [] => s.offer .feedRefused 1 none none

/-! ## FEED (R102, R105) -/

/-- R105: the dwell in s at the belt speed `v`. -/
def dwell (l : LineSettings) (v : Nat) : Nat := ceilDiv (l.pathLength * 60) v

/-- R105: the expected exit time of a plate fed now. -/
def State.expectedExit (s : State) (v : Nat) : Nat :=
  (s.seconds + dwell s.working.line v + s.working.line.exitGrace) % Config.secondsModulus

/-- R105: the new wash pass of docket `d`. -/
def State.newPass (s : State) (d : Docket) (v : Nat) : WashPass :=
  { feedTime := s.seconds, w := d.rate s.bath s.working.line, vReq := d.vReq s.bath s.working.line, vBelt := v,
    expectedExit := s.expectedExit v, exitTime := none, depth := none, underwash := false, overwash := false,
    overdue := false, beltStopped := false }

/-- R105: the chosen docket `d` put on the belt. -/
def State.feedDocket (s : State) (d : Docket) (v : Nat) : State :=
  let n := d.number
  (((s.setWashQueue (s.washQueue.filter fun m => m != n)).setBelt
      (s.belt ++ [{ docket := n, feedTime := s.seconds, expectedExit := s.expectedExit v, overdueRaised := false }])
      (some v)).updateDocket n fun x =>
        { x with state := .onBelt, sub := .none, passOver := 0, passes := x.passes ++ [s.newPass d v] }).offerFor
    .fed 1 n false

/-- R102: the refusal by the bath condition. -/
def bathRefusal : BathCondition → Option ResultCode
  | .unknown => some .bathUnknown
  | .low => some .bathLow
  | .spent => some .bathSpent
  | _ => none

def feedReply (s : State) : Reply :=
  match bathRefusal s.bath.condition with
  | some code => refuse s code
  | none =>
    if s.tpm = false then refuse s .stopped
    else if s.working.line.beltPlaces ≤ s.belt.length then refuse s.offerRefused .noRoom
    else if s.washQueue = [] then refuse s .empty
    else
      match s.selectFeed with
      | none => refuse s.offerRefused .wait
      | some c =>
        match s.docket c.docket with
        | none => refuse s.offerRefused .wait
        | some d =>
          ((s.passOver c.passed).feedDocket d c.speed, .ok,
            [fDocket d.number, .num .speed c.speed, fTime (dwell s.working.line c.speed),
             .num .flags (expectationFlags s.working.line (d.requiredSpeed s.bath s.working.line)),
             fCode (d.passes.length + 1)])

/-- FEED (R102). -/
def execFeed (h : Hdr) (s : State) : Res := .next (takeRequest .feed h feedReply s)

/-! ## EXIT (R110 to R113, R126, R127) -/

/-- R111: the achieved depth of a pass, with the path length as it stands. -/
def WashPass.achieved (p : WashPass) (pathLength : Nat) : Nat := p.w * pathLength / p.vBelt

/-- R127: a pass's dissolved mass added to the bath. -/
def State.addMass (s : State) (d : Docket) (mass : Nat) : State :=
  let t := s.offer .massAdded mass d.subject none
  t.recomputeBath { t.bath with mass := satAdd Config.valueMax t.bath.mass mass }

/-- The newest pass after the exit. -/
def State.passAtExit (s : State) (d : Docket) (p : WashPass) : WashPass :=
  p.atExit s.seconds (p.achieved s.working.line.pathLength) d.reliefLeft s.working.line.overwashLimit

/-- R111: the depth removed by the pass. -/
def State.removedAtExit (s : State) (d : Docket) (p : WashPass) : Nat :=
  min (p.achieved s.working.line.pathLength) d.reliefLeft

/-- R111 and R112: the head record leaves the belt, the pass is completed, the mass goes to the bath. -/
def State.exitBelt (s : State) (d : Docket) (p : WashPass) : State :=
  let belt := s.belt.drop 1
  (((s.setBelt belt (if belt.isEmpty then none else s.beltSpeed)).updateDocket d.number fun x =>
        { x.updateNewest (fun _ => s.passAtExit d p) with removed := x.removed + s.removedAtExit d p }).offerFor
      .washed 1 d.number false).addMass d
    (dissolved d.area d.coverage (s.removedAtExit d p) s.working.line.density)

/-- R113: the disposal of the docket. -/
def State.disposeExit (s : State) (d : Docket) (p : WashPass) : State :=
  if d.scrapMark = some .atExit then s.enterScrapped d.number
  else
    match p.holdReason with
    | some r => s.enterHeld d.number r .wash .washExit
    | none => s.joinDry d.number

/-- R113: the hold reason in the answer, 0 when the docket is not held. -/
def exitHoldCode (d : Docket) (p : WashPass) : Nat :=
  if d.scrapMark = some .atExit then 0 else (p.holdReason.map HoldReason.code).getD 0

def exitReply (n : Nat) (s : State) : Reply :=
  match s.docket n with
  | none => refuse s .unknown
  | some d =>
    if d.state ≠ .onBelt then refuse s .wrongState
    else if (s.belt.head?.map BeltRecord.docket) ≠ some n then refuse s .outOfOrder
    else
      match d.newest with
      | none => refuse s .wrongState
      | some p =>
        let t := (s.exitBelt d p).disposeExit d (s.passAtExit d p)
        (t, .ok,
          [fDocket n, .num .depth (p.achieved s.working.line.pathLength), .num .depth (s.removedAtExit d p),
           fCode (t.stateCodeOf n), fCode (exitHoldCode d (s.passAtExit d p)), .num .flags (s.passAtExit d p).flags])

/-- EXIT (R110). -/
def execExit (h : Hdr) (n : BitVec 16) (s : State) : Res := .next (takeRequest .exit h (exitReply n.toNat) s)

/-! ## The overdue expiry (R107) -/

/-- What is left in ms until the line time reaches a belt record's expected exit time. -/
def State.overdueIn (s : State) (r : BeltRecord) : Nat :=
  let whole := (r.expectedExit + Config.secondsModulus - r.feedTime) % Config.secondsModulus
  let gone := (s.seconds + Config.secondsModulus - r.feedTime) % Config.secondsModulus
  if whole ≤ gone then 0 else (whole - gone) * 1000 - s.now % 1000

/-- OVERDUE_EXPIRY (R107). -/
def execOverdueExpiry (n : Nat) (s : State) : Res :=
  .next (match s.belt.find? fun r => r.docket == n && !r.overdueRaised with
    | some r =>
      let t := s.pass (s.overdueIn r)
      ((((t.setBelt (t.belt.map fun x => if x.docket = n then { x with overdueRaised := true } else x)
            t.beltSpeed).updateDocket n fun d => d.updateNewest fun p => { p with overdue := true }).raise
          .W .washOverdue (some n)).raise .E .washOverdue (some n))
    | none => s)

/-! ## READ_WASH (R118) -/

def beltFields (r : BeltRecord) : List Field :=
  [fDocket r.docket, fTime r.feedTime, fTime r.expectedExit, fCode (boolCode r.overdueRaised)]

def readWashReply (s : State) : Reply :=
  (s, .ok,
    [fCode s.washQueue.length, fCode (boolCode s.tpm), .opt .speed s.beltSpeed, fCode s.belt.length]
      ++ s.belt.flatMap beltFields)

/-- READ_WASH (R118). -/
def execReadWash (h : Hdr) (s : State) : Res := .next (takeRequest .readWash h readWashReply s)

end Sys2Proof.Machine
end

