-- ==== Sys2Proof/Machine/Dispatch.lean ====
section
/-! DEFINITION. One arm per command, each the direct call of its meaning. -/

namespace Sys2Proof.Machine

def exec (i : Instr) (s : State) : Host.Outcome State Fault Refusal :=
  match i with
  | .reset rate => Sys2Proof.Machine.execReset rate s
  | .sstopAsserted => Sys2Proof.Machine.execSstopAsserted s
  | .sstopReleased => Sys2Proof.Machine.execSstopReleased s
  | .sensorPulse ch => Sys2Proof.Machine.execSensorPulse ch s
  | .graceEnd ch => Sys2Proof.Machine.execGraceEnd ch s
  | .windowEnd ch => Sys2Proof.Machine.execWindowEnd ch s
  | .dimWatchExpiry ch => Sys2Proof.Machine.execDimWatchExpiry ch s
  | .deadWatchExpiry ch => Sys2Proof.Machine.execDeadWatchExpiry ch s
  | .overtimeExpiry ch => Sys2Proof.Machine.execOvertimeExpiry ch s
  | .tailExpiry ch => Sys2Proof.Machine.execTailExpiry ch s
  | .lineSecond => Sys2Proof.Machine.execLineSecond s
  | .storeComplete => Sys2Proof.Machine.execStoreComplete s
  | .overdueExpiry n => Sys2Proof.Machine.execOverdueExpiry n s
  | .dryingExpiry d => Sys2Proof.Machine.execDryingExpiry d s
  | .overdryExpiry d => Sys2Proof.Machine.execOverdryExpiry d s
  | .portLost p => Sys2Proof.Machine.execPortLost p s
  | .badLen p b => Sys2Proof.Machine.execBadLen p b s
  | .missingStopBit p => Sys2Proof.Machine.execMissingStopBit p s
  | .byteGapTimeout p b => Sys2Proof.Machine.execByteGapTimeout p b s
  | .frameCrcError p => Sys2Proof.Machine.execFrameCrcError p s
  | .frameOverrun p => Sys2Proof.Machine.execFrameOverrun p s
  | .unknownRequest p kind => Sys2Proof.Machine.execUnknownRequest p kind s
  | .answerSent p => Sys2Proof.Machine.execAnswerSent p s
  | .register h recipe area coverage pref cls => Sys2Proof.Machine.execRegister h recipe area coverage pref cls s
  | .cancel h n => Sys2Proof.Machine.execCancel h n s
  | .releasePass h n form => Sys2Proof.Machine.execReleasePass h n form s
  | .releaseRewash h n form => Sys2Proof.Machine.execReleaseRewash h n form s
  | .retire h n => Sys2Proof.Machine.execRetire h n s
  | .readDocket h n part => Sys2Proof.Machine.execReadDocket h n part s
  | .list h collection start => Sys2Proof.Machine.execList h collection start s
  | .lineClear h => Sys2Proof.Machine.execLineClear h s
  | .setRecipe h index valid name thickness relief back main w0 margin dryTime uvc uva => Sys2Proof.Machine.execSetRecipe h index valid name thickness relief back main w0 margin dryTime uvc uva s
  | .readRecipe h index => Sys2Proof.Machine.execReadRecipe h index s
  | .setSetting h item channel value => Sys2Proof.Machine.execSetSetting h item channel value s
  | .readSetting h item channel => Sys2Proof.Machine.execReadSetting h item channel s
  | .setLevel h kind level => Sys2Proof.Machine.execSetLevel h kind level s
  | .readLevel h kind => Sys2Proof.Machine.execReadLevel h kind s
  | .store h skey => Sys2Proof.Machine.execStore h skey s
  | .recall h => Sys2Proof.Machine.execRecall h s
  | .storeInfo h => Sys2Proof.Machine.execStoreInfo h s
  | .clearChannel h ch => Sys2Proof.Machine.execClearChannel h ch s
  | .setLampRefValue h ch form value => Sys2Proof.Machine.execSetLampRefValue h ch form value s
  | .setLampRefMeasured h ch form value => Sys2Proof.Machine.execSetLampRefMeasured h ch form value s
  | .readChannel h ch => Sys2Proof.Machine.execReadChannel h ch s
  | .claim h n => Sys2Proof.Machine.execClaim h n s
  | .startBack h n => Sys2Proof.Machine.execStartBack h n s
  | .startMain h n => Sys2Proof.Machine.execStartMain h n s
  | .stop h n => Sys2Proof.Machine.execStop h n s
  | .resume h n => Sys2Proof.Machine.execResume h n s
  | .returnDocket h n => Sys2Proof.Machine.execReturnDocket h n s
  | .readUnit h unit => Sys2Proof.Machine.execReadUnit h unit s
  | .feed h => Sys2Proof.Machine.execFeed h s
  | .exit h n => Sys2Proof.Machine.execExit h n s
  | .readWash h => Sys2Proof.Machine.execReadWash h s
  | .reportBath h load volume => Sys2Proof.Machine.execReportBath h load volume s
  | .replenish h drained added => Sys2Proof.Machine.execReplenish h drained added s
  | .readBath h => Sys2Proof.Machine.execReadBath h s
  | .drawerLoaded h d n => Sys2Proof.Machine.execDrawerLoaded h d n s
  | .drawerUnloaded h d force => Sys2Proof.Machine.execDrawerUnloaded h d force s
  | .drawerServiceOut h d dir => Sys2Proof.Machine.execDrawerServiceOut h d dir s
  | .drawerServiceIn h d dir => Sys2Proof.Machine.execDrawerServiceIn h d dir s
  | .readDryer h => Sys2Proof.Machine.execReadDryer h s
  | .claimFinish h n => Sys2Proof.Machine.execClaimFinish h n s
  | .startFinish h n => Sys2Proof.Machine.execStartFinish h n s
  | .finisherStop len n => Sys2Proof.Machine.execFinisherStop len n s
  | .finisherResume len n => Sys2Proof.Machine.execFinisherResume len n s
  | .finisherReturn len n => Sys2Proof.Machine.execFinisherReturn len n s
  | .readFinisher h => Sys2Proof.Machine.execReadFinisher h s
  | .status h => Sys2Proof.Machine.execStatus h s
  | .ack h => Sys2Proof.Machine.execAck h s
  | .readNotice h kind => Sys2Proof.Machine.execReadNotice h kind s
  | .setThreshold h threshold => Sys2Proof.Machine.execSetThreshold h threshold s
  | .setCounter h k event recipe cls unit => Sys2Proof.Machine.execSetCounter h k event recipe cls unit s
  | .clearCounters h => Sys2Proof.Machine.execClearCounters h s
  | .readCounters h => Sys2Proof.Machine.execReadCounters h s
  | .ping h => Sys2Proof.Machine.execPing h s
  | .portInfo h => Sys2Proof.Machine.execPortInfo h s
  | .frameBegins p => Sys2Proof.Machine.execFrameBegins p s
  | .frameByte p b => Sys2Proof.Machine.execFrameByte p b s

end Sys2Proof.Machine
end

