-- ==== Sys2Proof/Machine/Step.lean ====
section
/-! DEFINITION. One step of the 4806: the command at the front of the queue, or one microsecond of line time while no
command waits. -/

namespace Sys2Proof.Machine

/-- The queue of waiting commands replaced. -/
def State.setPending (s : State) (q : List Instr) : State := { s with pending := q }

/-- One step. On an empty queue a microsecond of line time passes (R59, R184), with the line second that begins in it
(R62, R174); no other timer expires by itself, each expiry being a command (DESIGN CHOICE: assumption 1). -/
def step (s : State) : Host.Outcome State Fault Refusal :=
  match s.pending with
  | [] => .next (s.passMicros 1)
  | c :: rest => exec c (s.setPending rest)

/-- `s` with the command that a word spells at the front of its queue; the opcode table gives no row bits, so no word
spells a command. -/
def State.withFetchWord (s : State) (nbits w : Nat) : State :=
  match Sys2Proof.decodeTableWord nbits w with
  | some c => s.setPending (c :: s.pending)
  | none => s

end Sys2Proof.Machine
end

