-- ==== Sys2Proof/Safety.lean ====
section
/-! DEFINITION. What counts as a safe 4806, in the terms the claims use: when a request reaches its owning rule, and the
properties of a state that every step keeps. -/

namespace Sys2Proof.Machine

/-! ## A request that reaches its owning rule (R180) -/

/-- The frame of a request is taken and passes checks 2 to 4 of R180: no answer is pending at its port, the table lets
the port send it, and LEN is the length of its fields. -/
def Reaches (r : Request) (nameCount : Nat) (h : Hdr) (s : State) : Prop :=
  (s.port h.port).answer = none ∧ h.port ∈ r.ports ∧ h.len = r.fieldBytes nameCount + 1

/-- The answer to a request of `r` at port `p`, composed on the state `t` (R178, R180). -/
def answeredWith (t : State) (p : Port) (r : Request) (code : ResultCode) (fields : List Field) : State :=
  t.setPort p { t.port p with answer := some { kind := r.kind + 0x80, result := code, fields } }

/-- `s` after a request at port `p` was answered with `code` and `fields` and changed nothing else: the port is ONLINE,
was heard now and hunts again (R182), the answer is pending (R180), and an ONLINE port W has the permit follow
SSTOP (R116). -/
def replied (s : State) (p : Port) (r : Request) (code : ResultCode) (fields : List Field) : State :=
  { s with
    ports := s.ports.set p
      { s.port p with
        state := .online, lastHeard := some s.now, receiver := .hunting
        answer := some { kind := r.kind + 0x80, result := code, fields } }
    tpm := if p = .W then !s.sstop else s.tpm }

/-! ## What a halt leaves (R66, R83, R158) -/

/-- R66: the record `c` of an EXPOSING channel after its run was aborted at the moment `now`. The tail runs, or with a
latched TAIL of 0 has ended in the same step (R67; assumption 17 for an aborted run). -/
def Channel.abortedAt (c : Channel) (r : AbortReason) (now : Nat) : Channel :=
  { c with
    state := if c.settings.tail = 0 then .idle else .tail
    permit := false, lastEnd := .aborted r, elapsed := min 65535 (since c.startedAt now / 100)
    idleCount := if c.settings.tail = 0 then 0 else c.idleCount
    inGrace := false, window := none, dimFrom := none, deadFrom := none
    tailFrom := if c.settings.tail = 0 then none else some now }

/-- R68: from `s`, where channel `ch` had the record `c` at the abort of its run. With a latched TAIL of 0 the partial dose
goes at once into the hold record of the run docket, where that is live and HELD with the channel's stage. -/
def partialAtOnce (s : State) (ch : ChannelId) (c : Channel) : State :=
  match c.run with
  | some r =>
    if c.settings.tail = 0 ∧ (s.docket r.number).map Docket.regOrder = some r.order then
      s.updateDocket r.number fun d => d.takePartial ch c.accumulator
    else s
  | none => s

/-- R7: a docket that enters HELD at the line time `time` (s). -/
def Docket.heldBy (d : Docket) (reason : HoldReason) (stage : HoldStage) (location : HoldLocation) (time : Nat) :
    Docket :=
  { d with
    state := .held, sub := .none
    hold := some { reason, stage, location, timeHeld := time, first := none, second := none } }

/-- R83: from `s`, where unit `u` ran the stage `st` of docket `n`, the run is aborted with the reason `r` (`reason` as a
hold reason), and nothing else happens. -/
def unitHalted (s : State) (u : UnitId) (n : Nat) (st : Stage) (r : AbortReason) (reason : HoldReason) : State :=
  partialAtOnce ((((((s.setChan (stageChannel u st) ((s.chan (stageChannel u st)).abortedAt r s.now)).setUnit u
      (.halted n st reason)).updateDocket n fun d =>
        d.heldBy reason (stageHold st) (unitLocation u) s.seconds).raise .E .plateHeld (some n)).offerFor
          .held 1 n false).raise (unitPort u) .exposureHalted (some n)) (stageChannel u st) (s.chan (stageChannel u st))

/-- R76: unit `u` runs the stage `st` of docket `n`, and its channel is EXPOSING for that docket. -/
structure RunsStage (s : State) (u : UnitId) (n : Nat) (st : Stage) : Prop where
  unit    : s.unit u = .running n st
  channel : (s.chan (stageChannel u st)).state = .exposing
  docket  : (s.chan (stageChannel u st)).run.map RunDocket.number = some n

/-- R153: the finisher runs docket `n` with the marks `c` and `a`, at least one of them OPEN, and each channel with an OPEN
mark is EXPOSING for that docket. -/
structure RunsFinish (s : State) (n : Nat) (c a : Mark) : Prop where
  finisher : s.finisher = .running n c a
  someOpen : c = .openMark ∨ a = .openMark
  uvc      : c = .openMark → (s.chan .FC).state = .exposing ∧ (s.chan .FC).run.map RunDocket.number = some n
  uva      : a = .openMark → (s.chan .FA).state = .exposing ∧ (s.chan .FA).run.map RunDocket.number = some n

/-- R158: from `s`, where the finisher ran docket `n` with the marks `c` and `a`, every OPEN channel is aborted with the
reason `r` (`reason` as a hold reason), and nothing else happens. -/
def finisherHalted (s : State) (n : Nat) (c a : Mark) (r : AbortReason) (reason : HoldReason) : State :=
  let s1 := if c = .openMark then s.setChan .FC ((s.chan .FC).abortedAt r s.now) else s
  let s2 := if a = .openMark then s1.setChan .FA ((s.chan .FA).abortedAt r s.now) else s1
  let s3 := ((((s2.setFinisher (.halted n c a reason)).updateDocket n fun d =>
    d.heldBy reason .finish .finisher s.seconds).raise .E .plateHeld (some n)).offerFor .held 1 n false).raise .F
      .exposureHalted (some n)
  let s4 := if c = .openMark then partialAtOnce s3 .FC (s.chan .FC) else s3
  if a = .openMark then partialAtOnce s4 .FA (s.chan .FA) else s4

/-- R91, R162: the owners that run: each RUNNING unit with its stage, and a RUNNING finisher. -/
def State.runningOwners (s : State) : List Owner :=
  ([UnitId.A, .B].filterMap fun u => match s.unit u with | .running _ st => some (Owner.unit u st) | _ => none) ++
    (match s.finisher with | .running _ _ _ => [.finisher] | _ => [])

/-- R91, R162: from `s`, the run of one owner aborted with the reason STOPPED. An owner that does not run is not
changed. -/
def ownerStopped (s : State) : Owner → State
  | .unit u _ => match s.unit u with | .running n st => unitHalted s u n st .stopped .stopped | _ => s
  | .finisher => match s.finisher with | .running n c a => finisherHalted s n c a .stopped .stopped | _ => s

/-! ## What a start asks of the finisher's channels (R53, R156, R160) -/

/-- A channel that is asked to run from `initial` to `target`: it starts (R51), or is complete at once (R53). -/
def Channel.asked (c : Channel) (x : ChanSettings) (d : Docket) (target initial now micro : Nat) :
    Channel :=
  if target ≤ initial then c.completed x d target initial else c.started x d target initial now micro

/-- From `s`, each finisher channel with an OPEN mark is asked to run for docket `d` with the number `n`: UV-C from `pc` to
`tc`, UV-A from `pa` to `ta`. A channel that is complete at once writes its dose and offers DOSE_OVERSHOOT (R53). -/
def finisherAsked (s : State) (n : Nat) (d : Docket) (c a : Mark) (tc pc ta pa : Nat) : State :=
  let s1 := if c = .openMark ∧ tc ≤ pc then s.offer .doseOvershoot (pc - tc) (some (d.recipe, d.cls)) none else s
  let s2 := if a = .openMark ∧ ta ≤ pa then s1.offer .doseOvershoot (pa - ta) (some (d.recipe, d.cls)) none else s1
  { s.updateDocket n fun x =>
      { x with
        finishC := if c = .openMark ∧ tc ≤ pc then some pc else x.finishC
        finishA := if a = .openMark ∧ ta ≤ pa then some pa else x.finishA } with
    counters := s2.counters
    channels := (s.channels.set .FC
        (if c = .openMark then (s.chan .FC).asked (s.working.channels.get .FC) d tc pc s.now s.microNow
        else s.chan .FC)).set .FA
        (if a = .openMark then (s.chan .FA).asked (s.working.channels.get .FA) d ta pa s.now s.microNow
        else s.chan .FA) }

/-- The mark of a channel after it was asked to run from `initial` to `target`. -/
def markAsked (m : Mark) (target initial : Nat) : Mark :=
  if m = .openMark ∧ initial < target then .openMark else .reached

/-- R156, R157, R160: the finisher RUNNING docket `n` while a mark is OPEN; with both REACHED the docket is DONE. -/
def finisherProceeds (s : State) (n : Nat) (c a : Mark) : State :=
  if c = .reached ∧ a = .reached then
    ((({ s.updateDocket n fun x => { x with state := .done, sub := .none, doneAt := some s.seconds } with
          finisher := .vacant } : State).raise .F .doseReached (some n)).raise .E .plateDone (some n)).offerFor
      .finished 1 n false
  else
    { s.updateDocket n fun x => { x with state := .atFinisher, sub := .run } with finisher := .running n c a }

/-! ## The output lines agree with the records that drive them -/

/-- R48: "Each lamp permit line is asserted exactly while its dose channel is in EXPOSING." -/
def LampLinesAgree (s : State) : Prop := ∀ ch, (s.chan ch).permit = true ↔ (s.chan ch).state = .exposing

/-- R70: "While SSTOP is asserted, no lamp permit is asserted." -/
def DarkUnderStop (s : State) : Prop := s.sstop = true → ∀ ch, (s.chan ch).state ≠ .exposing

/-- R116: the transport permit line agrees with its condition. -/
def TransportAgrees (s : State) : Prop := s.tpm = s.permitted

/-- R167: every attention line agrees with its condition. -/
def AttentionAgrees (s : State) : Prop := ∀ p, (s.port p).attention = (s.port p).called s.working.levels

/-- All output lines agree with the records. -/
structure LinesAgree (s : State) : Prop where
  lamps     : LampLinesAgree s
  dark      : DarkUnderStop s
  transport : TransportAgrees s
  attention : AttentionAgrees s

/-! ## Records that agree with one another -/

/-- R165: a port holds a pending record only of a kind that is routed to it. -/
def NoticesRouted (s : State) : Prop := ∀ p k, (s.port p).notices[k.idx].isSome = true → routed p k = true

/-- R1: "No two live dockets carry the same number". -/
def NumbersUnique (s : State) : Prop :=
  ∀ (i j : Fin 48) (d e : Docket), s.slots[i] = some d → s.slots[j] = some e → d.number = e.number → i = j

/-- R184: line time is below 2³² s, with 0 to 999 microseconds past its millisecond. -/
structure ClockInRange (s : State) : Prop where
  now   : s.now < 4294967296000
  micro : s.micro < 1000

/-- R76, R153: a unit is RUNNING with a docket and a stage exactly while that stage's channel is EXPOSING for that docket,
and the finisher is RUNNING with a docket exactly while every channel whose mark is OPEN is EXPOSING for that docket
and at least one mark is OPEN. -/
structure OwnersAgree (s : State) : Prop where
  units    : ∀ u n st, s.unit u = .running n st → RunsStage s u n st
  finisher : ∀ n c a, s.finisher = .running n c a → RunsFinish s n c a
  stages   : ∀ u st, (s.chan (stageChannel u st)).state = .exposing → ∃ n, s.unit u = .running n st
  uvc      : (s.chan .FC).state = .exposing → ∃ n a, s.finisher = .running n .openMark a
  uva      : (s.chan .FA).state = .exposing → ∃ n c, s.finisher = .running n c .openMark

/-- R97, R98: the belt speed is present exactly while a plate is on the belt. -/
def BeltAgrees (s : State) : Prop := s.beltSpeed = none ↔ s.belt = []

/-- R122: the bath condition is UNKNOWN, or the one its account and thresholds give. -/
def BathAgrees (s : State) : Prop :=
  s.bath.condition = .unknown ∨ s.bath.condition = s.bath.judged s.working.line

/-- R141: no docket waits in the dry queue while a drawer in service is EMPTY. -/
def DrawersGiven (s : State) : Prop := s.dryQueue = [] ∨ s.freeDrawer = none

/-! ## Figures in their ranges (R31, R34, R35, R37, R39) -/

def Between (lo hi x : Nat) : Prop := lo ≤ x ∧ x ≤ hi

/-- The range column of the table of section 2.2, and the gaps of R35. -/
structure LineSettings.InRange (l : LineSettings) : Prop where
  each      : ∀ i, Between (lineRange i).1 (lineRange i).2 (l.get i)
  speedGap  : l.speedMin + 10 ≤ l.speedMax
  loadGap   : l.loadWarn + 10 ≤ l.loadStop
  volumeGap : l.bathVolMin + 100 ≤ l.bathVolMax

/-- The range column of the table of section 2.3. -/
def ChanSettings.InRange (c : ChanSettings) : Prop := ∀ i, Between (chanRange i).1 (chanRange i).2 (c.get i)

/-- The range column of the table of section 2.1, with the bound of relief by thickness. -/
structure Snapshot.InRange (x : Snapshot) : Prop where
  thickness : Between 760 7000 x.thickness
  relief    : Between 100 4000 x.relief
  floor     : x.relief + 100 ≤ x.thickness
  back      : x.back ≤ 9999
  main      : Between 1 9999 x.main
  w0        : Between 40 400 x.w0
  margin    : Between 1000 1500 x.margin
  dryTime   : Between 10 300 x.dryTime
  uvc       : x.uvc ≤ 9999
  uva       : x.uva ≤ 9999

/-- A working copy whose every value is in its range. -/
structure WorkingCopy.InRange (w : WorkingCopy) : Prop where
  recipes  : ∀ i : Fin 16, w.recipes[i].figures.InRange ∧ w.recipes[i].name.length ≤ 12
  line     : w.line.InRange
  channels : ∀ c, (w.channels.get c).InRange
  levels   : ∀ i : Fin 17, w.levels[i] ≤ 7

/-- The working copy, a good stored body and the contents of a store in flight are in range. -/
structure SettingsInRange (s : State) : Prop where
  working : s.working.InRange
  image   : ∀ b, s.store.image.body = some b → b.contents.InRange
  job     : ∀ j, s.store.job = some j → j.contents.InRange

end Sys2Proof.Machine
end

