-- ==== Sys2Proof/WellFormed.lean ====
section
/-! DEFINITION. Which commands can occur: the limits of R179 on LEN, the split of the rows that share a request by port,
form or direction, and the ranges of section 1.3 on a docket number. A command outside them still has its meaning
in exec; nothing that the 4806 receives is one. -/

namespace Sys2Proof

/-- R179: a frame that is taken has a LEN of 1 to 120. -/
def lenInRange (len : Nat) : Bool := decide (1 ≤ len) && decide (len ≤ 120)

/-- A request command that stands for a port other than F (STOP, RESUME and RETURN: R75, R153). -/
def notFromF (h : Hdr) : Bool := decide (h.port ≠ .F)

/-- The checks of a command beside its LEN. -/
def operandsInRange : Instr → Bool
  | .badLen _ b => decide (b.toNat = 0 ∨ 120 < b.toNat)
  | .unknownRequest _ kind => (requestOfKind kind.toNat).isNone
  | .overdueExpiry n => decide (1 ≤ n) && decide (n ≤ 9999)
  | .frameBegins _ => true
  | .frameByte _ _ => true
  | .releasePass _ _ form => decide (form ≠ 1)
  | .releaseRewash _ _ form => decide (form = 1)
  | .setRecipe h _ _ name _ _ _ _ _ _ _ _ _ => decide (name.length + 3 < h.len)
  | .setLampRefValue _ _ form _ => decide (form ≠ 1)
  | .setLampRefMeasured _ _ form _ => decide (form = 1)
  | .stop h _ => notFromF h
  | .resume h _ => notFromF h
  | .returnDocket h _ => notFromF h
  | .drawerServiceOut _ _ dir => decide (dir ≠ 1)
  | .drawerServiceIn _ _ dir => decide (dir = 1)
  | .reset _ => true
  | .sstopAsserted => true
  | .sstopReleased => true
  | .sensorPulse _ => true
  | .graceEnd _ => true
  | .windowEnd _ => true
  | .dimWatchExpiry _ => true
  | .deadWatchExpiry _ => true
  | .overtimeExpiry _ => true
  | .tailExpiry _ => true
  | .lineSecond => true
  | .storeComplete => true
  | .dryingExpiry _ => true
  | .overdryExpiry _ => true
  | .portLost _ => true
  | .missingStopBit _ => true
  | .byteGapTimeout _ _ => true
  | .frameCrcError _ => true
  | .frameOverrun _ => true
  | .answerSent _ => true
  | .register _ _ _ _ _ _ => true
  | .cancel _ _ => true
  | .retire _ _ => true
  | .readDocket _ _ _ => true
  | .list _ _ _ => true
  | .lineClear _ => true
  | .readRecipe _ _ => true
  | .setSetting _ _ _ _ => true
  | .readSetting _ _ _ => true
  | .setLevel _ _ _ => true
  | .readLevel _ _ => true
  | .store _ _ => true
  | .recall _ => true
  | .storeInfo _ => true
  | .clearChannel _ _ => true
  | .readChannel _ _ => true
  | .claim _ _ => true
  | .startBack _ _ => true
  | .startMain _ _ => true
  | .readUnit _ _ => true
  | .feed _ => true
  | .exit _ _ => true
  | .readWash _ => true
  | .reportBath _ _ _ => true
  | .replenish _ _ _ => true
  | .readBath _ => true
  | .drawerLoaded _ _ _ => true
  | .drawerUnloaded _ _ _ => true
  | .readDryer _ => true
  | .claimFinish _ _ => true
  | .startFinish _ _ => true
  | .finisherStop _ _ => true
  | .finisherResume _ _ => true
  | .finisherReturn _ _ => true
  | .readFinisher _ => true
  | .status _ => true
  | .ack _ => true
  | .readNotice _ _ => true
  | .setThreshold _ _ => true
  | .setCounter _ _ _ _ _ _ => true
  | .clearCounters _ => true
  | .readCounters _ => true
  | .ping _ => true
  | .portInfo _ => true

/-- A command that can occur. -/
def wellFormed (i : Instr) : Bool := (lenOf i).all lenInRange && operandsInRange i

/-- A request whose LEN is its KIND byte and its fields (R180, check 4: the length that is not refused RANGE). -/
def wholeFrame (i : Instr) : Bool :=
  match fieldsOf i, lenOf i with
  | some (_, _, fs), some len => decide (len = fs.length + 1)
  | _, _ => false

end Sys2Proof
end

