-- ==== Sys2Proof/Certificates/Slice0/Obligations.lean ====
section
/-! DEFINITION. The statements for the provers. Each docstring names the rules it formalises; `replied s p r code fields`
is `s` with the answer of a request at port `p` and nothing else changed. The model's own choices that run through
them: an expiry command is the moment its timer runs out, with line time brought there (assumption 2), to the start of
the due millisecond but for the dim watch (assumption 11), and a request command is the completion of its whole frame,
after which the receiver hunts (assumption 4). -/

open Sys2Proof Sys2Proof.Machine

/-! ## The machine's step -/

/-- A step runs the command at the front of the queue on the state with the queue's rest. -/
def Obligations.StepRunsTheFrontCommand : Prop :=
  ∀ (c : Instr) (rest : List Instr) (s : State), s.pending = c :: rest → step s = exec c { s with pending := rest }

/-- R184, R59: line time goes from 0 to 2³² s and wraps. On an empty queue a step is one microsecond of it (the tick is the
model's choice, assumption 1), a timer of `ms` milliseconds started at `t` runs out at `t + ms` (assumption 2), at the
start of that millisecond (assumption 11), and one of `us` microseconds at its own microsecond. -/
def Obligations.LineTimePasses : Prop :=
  (∀ s : State, s.pending = [] → ClockInRange s →
    (s.micro ≠ 999 → step s = .next { s with micro := s.micro + 1 }) ∧
    (s.micro = 999 → s.now % 1000 ≠ 999 → step s = .next { s with now := s.now + 1, micro := 0 }) ∧
    (s.micro = 999 → s.now % 1000 = 999 → step s = exec .lineSecond s)) ∧
  (∀ (s : State) (t ms : Nat), s.now < 4294967296000 → t < 4294967296000 → ms < 4294967296000 →
    since t s.now ≤ ms → (s.pass (remainingMs t ms s.now)).now = (t + ms) % 4294967296000 ∧
      (since t s.now < ms → (s.pass (remainingMs t ms s.now)).micro = 0) ∧
      (since t s.now = ms → s.pass (remainingMs t ms s.now) = s)) ∧
  (∀ (s : State) (t us : Nat), ClockInRange s → t < 4294967296000000 → us < 4294967296000000 →
    sinceMicro t s.microNow ≤ us →
    (s.passMicros (remainingMicros t us s.microNow)).microNow = (t + us) % 4294967296000000)

/-! ## Reset -/

/-- The reset statements of R2, R3, R49, R76, R95, R97, R116, R120, R137, R153, R172 and R177, with the line time of R184, the
threshold of R167, the absent snapshot of R168 and no store in flight (R44): what RESET leaves, from every state. The
queue, the SSTOP line and RATE are the model's operands (assumption 5). -/
def Obligations.ResetEmptiesTheLine : Prop :=
  ∀ (rate : Bool) (s : State), ∃ t, exec (.reset rate) s = .next t ∧
    t.now = 0 ∧ t.micro = 0 ∧ t.rateHigh = rate ∧ t.sstop = s.sstop ∧ t.pending = s.pending ∧ t.tpm = false ∧
    (∀ i : Fin 48, t.slots[i] = none) ∧ t.nextNumber = 1 ∧ t.exposurePool = [] ∧ t.finishPool = [] ∧
    t.washQueue = [] ∧ t.belt = [] ∧ t.beltSpeed = none ∧ t.dryQueue = [] ∧ t.store.job = none ∧
    (∀ u, t.unit u = .vacant) ∧ t.finisher = .vacant ∧ (∀ d : Fin 8, t.drawers[d] = .empty) ∧
    t.bath = { mass := 0, volume := 0, condition := .unknown, correction := none, reportedAt := none } ∧
    (∀ k : Fin 4, t.counters[k] =
      { event := .none, recipe := none, cls := none, unit := none, value := 0, timeSet := 0 }) ∧
    (∀ c, (t.chan c).state = .idle ∧ (t.chan c).permit = false ∧ (t.chan c).latched = none ∧
      (t.chan c).run = none ∧ (t.chan c).target = none ∧ (t.chan c).accumulator = 0 ∧ (t.chan c).prediction = 0 ∧
      (t.chan c).overtime = none ∧ (t.chan c).elapsed = 0 ∧ (t.chan c).irradiance = none ∧ (t.chan c).health = none ∧
      (t.chan c).lastEnd = .none ∧ (t.chan c).stray = 0 ∧ (t.chan c).idleCount = 0 ∧ (t.chan c).lastPulse = none ∧
      (t.chan c).dimRaised = false ∧ (t.chan c).agedRaised = false) ∧
    (∀ p, (t.port p).state = .down ∧ (t.port p).lastHeard = none ∧ (t.port p).answer = none ∧
      (t.port p).framing = 0 ∧ (t.port p).crc = 0 ∧ (t.port p).overrun = 0 ∧ (t.port p).receiver = .hunting ∧
      (t.port p).snapshot = none ∧ (t.port p).threshold = 1)

/-- R45, R44: the working copy, the store information, the wear count and the notices that a reset takes from the image it
finds, and what it leaves of the image when a store was in flight, for however far that store had gone: the model's choices are
that the progress is a free value of the time since the store was taken (assumption 6) and that the new wear count
stops at 20,000 (assumption 22). -/
def Obligations.ResetReadsTheImage : Prop :=
  (∀ (rate : Bool) (s : State), ∃ t, exec (.reset rate) s = .next t ∧
    (∀ n, t.store.image.wear1 = some n → t.store.wear = n) ∧
    (∀ n, t.store.image.wear1 = none → t.store.image.wear2 = some n → t.store.wear = n) ∧
    (t.store.image.wear1 = none → t.store.image.wear2 = none → t.store.wear = 0) ∧
    (s.store.job = none → t.store.image = s.store.image) ∧
    (∀ w, t.store.image.goodBody = some w →
      t.working = w ∧ t.store.lastResult = .none ∧ t.store.resultTime = none ∧
      ∀ p, (t.port p).attention = false ∧ ∀ k : NoticeKind, (t.port p).notices[k.idx] = none) ∧
    (t.store.image.goodBody = none →
      t.working = .factory ∧ t.store.lastResult = .imageBad ∧ t.store.resultTime = some 0 ∧
      (t.port .E).notices[NoticeKind.storeResult.idx] = some { count := 1, latest := none, firstRaised := 0 } ∧
      (∀ p, (t.port p).attention = decide (p = .E)) ∧
      ∀ (p : Port) (k : NoticeKind), p ≠ .E ∨ k ≠ .storeResult → (t.port p).notices[k.idx] = none)) ∧
  (∀ (rate : Bool) (s : State) (j : StoreJob), s.store.job = some j →
    ∃ t, exec (.reset rate) s = .next t ∧ t.store.job = none ∧
      match Config.storeProgress (since j.takenAt s.now) with
      | .bodyPartial =>
        t.store.image.goodBody = none ∧ t.store.image.wear1 = s.store.image.wear1 ∧
          t.store.image.wear2 = s.store.image.wear2
      | .bodyWritten =>
        t.store.image.goodBody = some j.contents ∧ t.store.image.wear1 = s.store.image.wear1 ∧
          t.store.image.wear2 = s.store.image.wear2
      | .firstCopy =>
        t.store.image.goodBody = some j.contents ∧ t.store.image.wear1 = none ∧
          t.store.image.wear2 = some s.store.wear
      | .secondCopy =>
        t.store.image.goodBody = some j.contents ∧ t.store.image.wear1 = some (min 20000 (s.store.wear + 1)) ∧
          t.store.image.wear2 = none)

/-! ## The shop stop and the transport permit -/

/-- R70, R91, R162, R116, R117: the assertion of SSTOP darkens every lamp, halts every RUNNING unit and a RUNNING finisher
with STOPPED, each with its docket's hold and its notices, in an order that is a free value (assumption 23), and drops
the transport permit; its release raises the permit where its condition holds and starts nothing else. With a latched
TAIL of 0 a partial dose is written in the same step (assumption 17). -/
def Obligations.ShopStopStopsTheLine : Prop :=
  (∀ s : State, LampLinesAgree s → ∃ t, exec .sstopAsserted s = .next t ∧ t.sstop = true ∧ t.tpm = false ∧
    (∀ c, (t.chan c).permit = false ∧ (t.chan c).state ≠ .exposing) ∧
    (∀ c, (s.chan c).state ≠ .exposing → t.chan c = s.chan c) ∧
    (∀ c, (s.chan c).state = .exposing → t.chan c = (s.chan c).abortedAt .stopped s.now) ∧
    t = { s with sstop := true, tpm := false, ports := t.ports, slots := t.slots, channels := t.channels,
                 units := t.units, finisher := t.finisher, counters := t.counters }) ∧
  (∀ s : State, OwnersAgree s → ∃ (t : State) (l : List Owner), exec .sstopAsserted s = .next t ∧
    l.Perm s.runningOwners ∧ t = (l.foldl ownerStopped { s with sstop := true }).updatePermit ∧
    (∀ u, t.unit u = match s.unit u with | .running n st => .halted n st .stopped | r => r) ∧
    t.finisher = (match s.finisher with | .running n c a => .halted n c a .stopped | r => r) ∧
    (∀ u n st, s.unit u = .running n st → (t.port (unitPort u)).notices[NoticeKind.exposureHalted.idx] =
      some (raisedNotice (s.port (unitPort u)).notices[NoticeKind.exposureHalted.idx] (some n) (s.now / 1000)))) ∧
  (∀ s : State, TransportAgrees s →
    exec .sstopReleased s = .next { s with
      sstop := false
      tpm := decide ((s.port .W).state = .online) ||
        (decide ((s.port .W).state = .lost) && decide (s.working.line.transportHold ≠ 0)) })

/-- R108, R116: when SSTOP, the loss of port W under DROP, or a TRANSPORT_FAILSAFE changed to DROP by SET_SETTING or RECALL
while port W is LOST drops the transport permit, the newest wash pass of every docket on the belt is flagged
BELT_STOPPED. -/
def Obligations.PermitDropFlagsTheBelt : Prop :=
  ∀ (s : State) (r : BeltRecord) (d : Docket) (p : WashPass),
    s.tpm = true → r ∈ s.belt → s.docket r.docket = some d → d.newest = some p →
    (∃ t e, exec .sstopAsserted s = .next t ∧ t.docket r.docket = some e ∧
      e.newest = some { p with beltStopped := true }) ∧
    (∀ h, (s.port .W).state = .online → (s.port .W).lastHeard = some h → s.working.line.transportHold = 0 →
      ∃ t e, exec (.portLost .W) s = .next t ∧ t.docket r.docket = some e ∧
        e.newest = some { p with beltStopped := true }) ∧
    (∀ (h : Hdr) (item channel : BitVec 8) (value : BitVec 32), Reaches .setSetting 0 h s → s.store.job = none →
      (s.port .W).state = .lost → item.toNat = 15 → value.toNat = 0 →
      ∃ t e, exec (.setSetting h item channel value) s = .next t ∧ t.tpm = false ∧ t.docket r.docket = some e ∧
        e.newest = some { p with beltStopped := true }) ∧
    (∀ (h : Hdr) (w : WorkingCopy), Reaches .recall 0 h s → s.store.job = none → (s.port .W).state = .lost →
      s.store.image.goodBody = some w → w.line.transportHold = 0 → s.working.line.transportHold ≠ 0 →
      ∃ t e, exec (.recall h) s = .next t ∧ t.tpm = false ∧ t.docket r.docket = some e ∧
        e.newest = some { p with beltStopped := true })

/-! ## Dose channels -/

/-- R54, R62, R63, R64: a pulse in EXPOSING below the target adds the latched quantum, saturating, and after grace counts in
the window and restarts the dim and dead watches; a pulse in TAIL adds its dose, in IDLE counts toward the stuck check
that the 17th of a line second fails, in FAULT counts as stray. A pulse queued before a start is counted in IDLE only (the
model's reading of R50, assumption 27). -/
def Obligations.PulsesCount : Prop :=
  (∀ (ch : ChannelId) (s : State) (c : Channel) (T : Nat), s.chan ch = c → c.state = .exposing → c.target = some T →
    min 16777215 (c.accumulator + c.settings.quantum) < T →
    exec (.sensorPulse ch) s = .next (s.setChan ch
      (if c.inGrace then
        { c with lastPulse := some s.now, accumulator := min 16777215 (c.accumulator + c.settings.quantum) }
      else
        { c with
          lastPulse := some s.now, accumulator := min 16777215 (c.accumulator + c.settings.quantum)
          window := c.window.map fun w => { w with pulses := w.pulses + 1 }
          dimFrom := some (s.now * 1000 + s.micro), deadFrom := some s.now }))) ∧
  (∀ (ch : ChannelId) (s : State) (c : Channel), s.chan ch = c →
    (c.state = .tail → exec (.sensorPulse ch) s = .next (s.setChan ch
      { c with lastPulse := some s.now, accumulator := min 16777215 (c.accumulator + c.settings.quantum) })) ∧
    (c.state = .idle → c.idleCount < 16 → exec (.sensorPulse ch) s = .next (s.setChan ch
      { c with lastPulse := some s.now, idleCount := c.idleCount + 1 })) ∧
    (c.state = .idle → 16 ≤ c.idleCount → exec (.sensorPulse ch) s = .next (((s.setChan ch
      { c with
        lastPulse := some s.now, state := .fault, permit := false, idleCount := c.idleCount + 1, stray := 17
        lastEnd := .none }).raise (channelPort ch) .lampStuck none).raise .E .lampStuck none)) ∧
    (c.state = .fault → exec (.sensorPulse ch) s = .next (s.setChan ch
      { c with lastPulse := some s.now, stray := min 65535 (c.stray + 1) })))

/-- R55 at the channel: the crossing pulse drops the permit, ends the run as REACHED and starts the tail; no other channel
changes. A latched TAIL of 0 ends the tail in the same step (R67). -/
def Obligations.CrossingPulseEndsTheRun : Prop :=
  ∀ (ch : ChannelId) (s : State) (c : Channel) (T : Nat), s.chan ch = c → c.state = .exposing → c.target = some T →
    T ≤ min 16777215 (c.accumulator + c.settings.quantum) →
    ∃ t, exec (.sensorPulse ch) s = .next t ∧
      t.chan ch = { c with
        state := if c.settings.tail = 0 then .idle else .tail
        permit := false, lastPulse := some s.now
        accumulator := min 16777215 (c.accumulator + c.settings.quantum)
        lastEnd := .reached, elapsed := min 65535 (since c.startedAt s.now / 100)
        inGrace := false, window := none, dimFrom := none, deadFrom := none
        idleCount := if c.settings.tail = 0 then 0 else c.idleCount
        tailFrom := if c.settings.tail = 0 then none else some s.now } ∧
      ∀ x, x ≠ ch → t.chan x = s.chan x

/-- R81: a reached back stage makes its unit LOADED with MAIN_READY and raises DOSE_REACHED. With a latched TAIL of 0 the
dose is delivered and DOSE_OVERSHOOT offered in the same step (R67). -/
def Obligations.ReachedBackStageReadiesTheMain : Prop :=
  ∀ (u : UnitId) (s : State) (n T dose : Nat) (d : Docket) (c : Channel) (r : RunDocket), RunsStage s u n .back →
    s.docket n = some d → s.chan (stageChannel u .back) = c → c.run = some r → c.target = some T →
    dose = min 16777215 (c.accumulator + c.settings.quantum) → T ≤ dose →
    ∃ t, exec (.sensorPulse (stageChannel u .back)) s = .next t ∧
      t.unit u = .loaded n ∧ t.docket n = some { d with
        state := .atExposure, sub := .mainReady
        backDelivered := if c.settings.tail = 0 ∧ d.regOrder = r.order then some dose else d.backDelivered } ∧
      (∀ m, m ≠ n → t.docket m = s.docket m) ∧
      t.ports = (s.raise (unitPort u) .doseReached (some n)).ports ∧
      t.counters = (if c.settings.tail = 0 then
        s.offer .doseOvershoot (dose - T) (some (r.recipe, r.cls)) (some r.unit) else s).counters ∧
      t = { s with
        channels := t.channels, units := s.units.set u (.loaded n), slots := t.slots, ports := t.ports
        counters := t.counters }

/-- R82: a reached main stage sends its docket to the tail of its class in the washout queue, vacates the unit, raises
WASH_READY where the queue was empty and DOSE_REACHED, and offers EXPOSED. With a latched TAIL of 0 the dose is
delivered and DOSE_OVERSHOOT offered in the same step (R67). -/
def Obligations.ReachedMainStageJoinsTheQueue : Prop :=
  ∀ (u : UnitId) (s : State) (n T dose : Nat) (d : Docket) (c : Channel) (r : RunDocket), RunsStage s u n .main →
    s.docket n = some d → s.chan (stageChannel u .main) = c → c.run = some r → c.target = some T →
    dose = min 16777215 (c.accumulator + c.settings.quantum) → T ≤ dose →
    ∃ t v, exec (.sensorPulse (stageChannel u .main)) s = .next t ∧
      t.unit u = .vacant ∧ t.docket n = some { d with
        state := .washQueued, sub := .none
        mainDelivered := if c.settings.tail = 0 ∧ d.regOrder = r.order then some dose else d.mainDelivered } ∧
      (∀ m, m ≠ n → t.docket m = s.docket m) ∧
      t.washQueue = s.joinClass s.washQueue n ∧
      t.ports = ((if s.washQueue = [] then s.raise .W .washReady (some n) else s).raise (unitPort u) .doseReached
        (some n)).ports ∧
      v = s.offer .exposed 1 (some (d.recipe, d.cls)) (some d.unit) ∧
      t.counters = (if c.settings.tail = 0 then
        v.offer .doseOvershoot (dose - T) (some (r.recipe, r.cls)) (some r.unit) else v).counters ∧
      t = { s with
        channels := t.channels, units := s.units.set u .vacant, slots := t.slots, ports := t.ports
        washQueue := t.washQueue, counters := t.counters }

/-- R157: a reached finisher channel has its mark REACHED; when both marks are, the docket is DONE, the finisher VACANT,
DOSE_REACHED and PLATE_DONE are raised and FINISHED is offered. With a latched TAIL of 0 the channel's dose is delivered
and DOSE_OVERSHOOT offered in the same step (R67). Where live numbers are unique (R1, kept by every step), a first mark
that delivers nothing new leaves the docket table as it is. -/
def Obligations.ReachedFinisherChannel : Prop :=
  ∀ (ch : ChannelId) (s : State) (n T dose : Nat) (c a : Mark) (d d' : Docket) (x : Channel) (r : RunDocket),
    RunsFinish s n c a → (ch = .FC ∧ c = .openMark) ∨ (ch = .FA ∧ a = .openMark) → s.docket n = some d →
    s.chan ch = x → x.run = some r → x.target = some T →
    dose = min 16777215 (x.accumulator + x.settings.quantum) → T ≤ dose →
    d' = (if x.settings.tail = 0 ∧ d.regOrder = r.order then
      (if ch = .FC then { d with finishC := some dose } else { d with finishA := some dose }) else d) →
    ∃ t v, exec (.sensorPulse ch) s = .next t ∧
      v = (if c = .openMark ∧ a = .openMark then s else s.offer .finished 1 (some (d.recipe, d.cls)) none) ∧
      t.counters = (if x.settings.tail = 0 then
        v.offer .doseOvershoot (dose - T) (some (r.recipe, r.cls)) none else v).counters ∧
      (∀ m, m ≠ n → t.docket m = s.docket m) ∧
      (c = .openMark → a = .openMark → t.docket n = some d' ∧ (NumbersUnique s → d' = d → t.slots = s.slots) ∧ t = { s with
        channels := t.channels, slots := t.slots, counters := t.counters
        finisher := .running n (if ch = .FC then .reached else .openMark)
          (if ch = .FA then .reached else .openMark) }) ∧
      (c = .reached ∨ a = .reached →
        t.docket n = some { d' with state := .done, sub := .none, doneAt := some (s.now / 1000) } ∧
        t.ports = ((s.raise .F .doseReached (some n)).raise .E .plateDone (some n)).ports ∧
        t = { s with
          channels := t.channels, finisher := .vacant, slots := t.slots, ports := t.ports
          counters := t.counters })

/-- R95, R140: a docket joins after every queued docket of its class and, when it is RUSH, before every NORMAL docket. -/
def Obligations.JoinsTheTailOfItsClass : Prop :=
  ∀ (s : State) (q : List Nat) (n : Nat),
    (s.classOf n = .normal → s.joinClass q n = q ++ [n]) ∧
    (∀ a b, s.classOf n = .rush → q = a ++ b → (∀ m ∈ a, s.classOf m = .rush) → (∀ m ∈ b, s.classOf m = .normal) →
      s.joinClass q n = a ++ n :: b)

/-- R57, R58: a window's end measures the irradiance, sets the health where E_REF is not 0, opens the next window, and
below AGED flags the docket and raises LAMP_AGED once in a run. -/
def Obligations.WindowEndMeasuresTheLamp : Prop :=
  ∀ (ch : ChannelId) (s v : State) (c : Channel) (w : Window) (r : RunDocket) (e : Nat) (hl : Option Nat),
    s.chan ch = c → c.state = .exposing → c.window = some w → c.run = some r →
    v = s.pass (remainingMs w.openedAt 1000 s.now) → e = min 16777215 (w.pulses * c.settings.quantum) →
    hl = (if c.settings.eRef = 0 then c.health else some (min 1999 (e * 1000 / c.settings.eRef))) →
    ((∀ x, hl = some x → c.settings.aged ≤ x) ∨ c.agedRaised = true →
      exec (.windowEnd ch) s = .next (v.setChan ch
        { v.chan ch with irradiance := some e, health := hl, window := some { openedAt := v.now, pulses := 0 } })) ∧
    (∀ x, hl = some x → x < c.settings.aged → c.agedRaised = false →
      exec (.windowEnd ch) s = .next ((((v.setChan ch
        { v.chan ch with
          irradiance := some e, health := hl, window := some { openedAt := v.now, pulses := 0 }
          agedRaised := true }).updateRunDocket r fun d => { d with agedSeen := true }).raise (channelPort ch) .lampAged
            (some r.number)).raise .E .lampAged (some r.number)))

/-- R56, R59: the end of grace opens the first window and starts the dim and dead watches. The first dim expiry of a run
flags the docket and raises LAMP_DIM, a later one records nothing; the watch then waits for the next pulse. The dim watch
is timed to the microsecond; the end of grace falls at the start of its millisecond (the model's choice,
assumption 11). -/
def Obligations.GraceEndsAndTheDimWatchRaisesOnce : Prop :=
  (∀ (ch : ChannelId) (s : State) (c : Channel), s.chan ch = c → c.state = .exposing → c.inGrace = true →
    ∃ t, t = s.pass (remainingMs c.startedAt c.settings.grace s.now) ∧
      exec (.graceEnd ch) s = .next (t.setChan ch
        { t.chan ch with
          inGrace := false, window := some { openedAt := t.now, pulses := 0 }
          dimFrom := some (t.now * 1000 + t.micro), deadFrom := some t.now })) ∧
  (∀ (ch : ChannelId) (s v : State) (c : Channel) (r : RunDocket) (f : Nat),
    s.chan ch = c → c.state = .exposing → c.dimFrom = some f → c.run = some r →
    v = s.passMicros (remainingMicros f c.settings.dimInterval (s.now * 1000 + s.micro)) →
    (ClockInRange s → f < 4294967296000000 → c.settings.dimInterval < 4294967296000000 →
      sinceMicro f s.microNow ≤ c.settings.dimInterval →
      v.microNow = (f + c.settings.dimInterval) % 4294967296000000) ∧
    (c.dimRaised = false →
      exec (.dimWatchExpiry ch) s = .next (((v.setChan ch
        { v.chan ch with dimFrom := none, dimRaised := true }).updateRunDocket r fun d =>
          { d with dimSeen := true }).raise (channelPort ch) .lampDim (some r.number))) ∧
    (c.dimRaised = true →
      exec (.dimWatchExpiry ch) s = .next (v.setChan ch { v.chan ch with dimFrom := none })))

/-- R60, R61, R66, R83, R158: the dead watch aborts a run with LAMP_OUT and the overtime watch with OVERTIME. A unit halts
and its docket is HELD; an expiry at one OPEN channel of the finisher aborts both OPEN channels with its reason. With a
latched TAIL of 0 the partial dose is written in the same step (assumption 17). -/
def Obligations.LampWatchHaltsTheOwner : Prop :=
  (∀ (u : UnitId) (st : Stage) (s : State) (n : Nat), RunsStage s u n st →
    (∀ f, (s.chan (stageChannel u st)).deadFrom = some f →
      exec (.deadWatchExpiry (stageChannel u st)) s = .next (unitHalted
        (s.pass (remainingMs f (s.chan (stageChannel u st)).settings.deadInterval s.now)) u n st .lampOut .lampOut)) ∧
    (∀ l, (s.chan (stageChannel u st)).overtime = some l →
      exec (.overtimeExpiry (stageChannel u st)) s = .next (unitHalted
        (s.pass (remainingMs (s.chan (stageChannel u st)).startedAt (l * 100) s.now)) u n st .overtime .overtime))) ∧
  (∀ (ch : ChannelId) (s : State) (n : Nat) (c a : Mark), RunsFinish s n c a →
    (ch = .FC ∧ c = .openMark) ∨ (ch = .FA ∧ a = .openMark) →
    (∀ f, (s.chan ch).deadFrom = some f →
      exec (.deadWatchExpiry ch) s = .next (finisherHalted
        (s.pass (remainingMs f (s.chan ch).settings.deadInterval s.now)) n c a .lampOut .lampOut)) ∧
    (∀ l, (s.chan ch).overtime = some l →
      exec (.overtimeExpiry ch) s = .next (finisherHalted
        (s.pass (remainingMs (s.chan ch).startedAt (l * 100) s.now)) n c a .overtime .overtime)))

/-- R67: the end of a reached run's tail writes the delivered dose to the run docket while it is live, offers
DOSE_OVERSHOOT with what the channel recorded at the start, and leaves the channel IDLE. -/
def Obligations.TailEndWritesTheDeliveredDose : Prop :=
  ∀ (ch : ChannelId) (s v : State) (c : Channel) (r : RunDocket) (f T : Nat),
    s.chan ch = c → c.state = .tail → c.tailFrom = some f → c.run = some r → c.target = some T → c.lastEnd = .reached →
    v = s.pass (remainingMs f c.settings.tail s.now) →
    ∃ t, exec (.tailExpiry ch) s = .next t ∧
      t.chan ch = { v.chan ch with state := .idle, idleCount := 0, tailFrom := none } ∧
      (∀ d, s.docket r.number = some d → d.regOrder = r.order → t.docket r.number = some (match ch with
        | .AB => { d with backDelivered := some c.accumulator }
        | .AM => { d with mainDelivered := some c.accumulator }
        | .BB => { d with backDelivered := some c.accumulator }
        | .BM => { d with mainDelivered := some c.accumulator }
        | .FC => { d with finishC := some c.accumulator }
        | .FA => { d with finishA := some c.accumulator })) ∧
      ((∀ d, s.docket r.number = some d → d.regOrder ≠ r.order) → t.slots = s.slots) ∧
      (∀ m, m ≠ r.number → t.docket m = s.docket m) ∧
      t.counters = (v.offer .doseOvershoot (c.accumulator - T) (some (r.recipe, r.cls))
        (match ch with | .FC => none | .FA => none | _ => some r.unit)).counters ∧
      t = { v with channels := v.channels.set ch (t.chan ch), slots := t.slots, counters := t.counters }

/-- R68: the end of an aborted run's tail writes the partial dose into the hold record of a docket that is still HELD with
that stage, and to no other; nothing is offered. -/
def Obligations.TailEndWritesThePartialDose : Prop :=
  ∀ (ch : ChannelId) (s v : State) (c : Channel) (r : RunDocket) (f : Nat) (why : AbortReason),
    s.chan ch = c → c.state = .tail → c.tailFrom = some f → c.run = some r → c.lastEnd = .aborted why →
    v = s.pass (remainingMs f c.settings.tail s.now) →
    ∃ t, exec (.tailExpiry ch) s = .next t ∧
      t.chan ch = { v.chan ch with state := .idle, idleCount := 0, tailFrom := none } ∧
      (∀ d x, s.docket r.number = some d → d.regOrder = r.order → d.hold = some x → d.state = .held →
        x.stage = channelHoldStage ch →
        t.docket r.number = some { d with hold := some (if ch = .FA then { x with second := some c.accumulator }
          else { x with first := some c.accumulator }) }) ∧
      (∀ d, s.docket r.number = some d → d.regOrder ≠ r.order ∨ d.state ≠ .held → t.docket r.number = some d) ∧
      (∀ m, m ≠ r.number → t.docket m = s.docket m) ∧
      t = { v with channels := v.channels.set ch (t.chan ch), slots := t.slots }

/-- R62, R174, R184: a line second sets every idle count to 0 and adds to each occupancy counter the matching dockets of
the collection it samples. -/
def Obligations.LineSecondSamples : Prop :=
  ∀ s : State, ∃ t, exec .lineSecond s = .next t ∧
    t.now = (s.now / 1000 + 1) * 1000 % 4294967296000 ∧ t.micro = 0 ∧
    (∀ c, t.chan c = { s.chan c with idleCount := 0 }) ∧
    (∀ k : Fin 4,
      (s.counters[k].event = .washQueueOccupancy → t.counters[k].value = min 4294967295 (s.counters[k].value +
        ((s.docketsOf s.washQueue).filter fun d => s.counters[k].passes (some (d.recipe, d.cls))).length)) ∧
      (s.counters[k].event = .dryQueueOccupancy → t.counters[k].value = min 4294967295 (s.counters[k].value +
        ((s.docketsOf s.dryQueue).filter fun d => s.counters[k].passes (some (d.recipe, d.cls))).length)) ∧
      (s.counters[k].event = .drawersBusy → t.counters[k].value = min 4294967295 (s.counters[k].value +
        ((s.liveDockets.filter fun d => d.state == .atDryer).filter fun d =>
          s.counters[k].passes (some (d.recipe, d.cls))).length)) ∧
      (s.counters[k].event ≠ .washQueueOccupancy → s.counters[k].event ≠ .dryQueueOccupancy →
        s.counters[k].event ≠ .drawersBusy → t.counters[k] = s.counters[k]) ∧
      t.counters[k] = { s.counters[k] with value := t.counters[k].value }) ∧
    t = { s with now := t.now, micro := 0, channels := t.channels, counters := t.counters }

/-! ## Ports, receivers and frames -/

/-- R180, R178: a request from a port the table does not let send it is refused NOT_PERMITTED, one whose LEN is not the
length of its fields RANGE, and a KIND outside the table is answered UNKNOWN_REQUEST; a request on a docket number that
no live docket carries is refused UNKNOWN (R1). Nothing changes beyond the ONLINE entry of R182. -/
def Obligations.ChecksBeforeTheOwningRule : Prop :=
  (∀ (c : Instr) (r : Request) (p : Port) (fs : List Byte) (len : Nat) (s : State), TransportAgrees s →
    fieldsOf c = some (r, p, fs) → lenOf c = some len → (s.port p).answer = none →
    (p ∉ r.ports → exec c s = .next (replied s p r .notPermitted [])) ∧
    (p ∈ r.ports → len ≠ fs.length + 1 → exec c s = .next (replied s p r .range []))) ∧
  (∀ (p : Port) (kind : Byte) (s : State), TransportAgrees s → (s.port p).answer = none →
    requestOfKind kind.toNat = none →
    exec (.unknownRequest p kind) s = .next { s with
      ports := s.ports.set p
        { s.port p with
          state := .online, lastHeard := some s.now, receiver := .hunting
          answer := some { kind := if kind.toNat < 128 then kind.toNat + 128 else 255, result := .unknownRequest,
                           fields := [] } }
      tpm := if p = .W then !s.sstop else s.tpm }) ∧
  (∀ (h : Hdr) (n : BitVec 16) (code : BitVec 8) (r : Request) (cmd : Instr) (s : State), TransportAgrees s →
    Reaches r 0 h s → s.docket n.toNat = none →
    (r, cmd) ∈ [(.cancel, .cancel h n), (.release, .releasePass h n 0), (.release, .releaseRewash h n 1),
        (.retire, .retire h n), (.exit, .exit h n), (.startFinish, .startFinish h n)] ∨
      (h.port ≠ .F ∧ (r, cmd) ∈ [(.startBack, .startBack h n), (.startMain, .startMain h n), (.stop, .stop h n),
        (.resume, .resume h n), (.returnDocket, .returnDocket h n)]) ∨
      (h.port = .F ∧ (r, cmd) ∈ [(.stop, .finisherStop h.len n), (.resume, .finisherResume h.len n),
        (.returnDocket, .finisherReturn h.len n)]) ∨
      (r = .claim ∧ cmd = .claim h n ∧ ∀ u, s.unit u = .vacant) ∨
      (r = .claimFinish ∧ cmd = .claimFinish h n ∧ s.finisher = .vacant) ∨
      (r = .drawerLoaded ∧ cmd = .drawerLoaded h code n ∧ 1 ≤ code.toNat ∧ code.toNat ≤ 8) →
    exec cmd s = .next (replied s h.port r .unknown []))

/-- R179: every valid frame completed at a port whose answer is pending, a request of the table or not, is discarded
and counted as an overrun; nothing else changes. -/
def Obligations.FramesDuringAnAnswerAreOverruns : Prop :=
  ∀ (p : Port) (s : State) (a : Answer), (s.port p).answer = some a →
    (∀ (c : Instr) (r : Request) (fs : List Byte), fieldsOf c = some (r, p, fs) →
      exec c s = .next (s.setPort p
        { s.port p with overrun := min 65535 ((s.port p).overrun + 1), receiver := .hunting })) ∧
    exec (.frameOverrun p) s = .next (s.setPort p
      { s.port p with overrun := min 65535 ((s.port p).overrun + 1), receiver := .hunting }) ∧
    (∀ kind : Byte, requestOfKind kind.toNat = none → exec (.unknownRequest p kind) s = .next (s.setPort p
      { s.port p with overrun := min 65535 ((s.port p).overrun + 1), receiver := .hunting }))

/-- R179, R180: the receiver's conditions. D9h begins a frame, another byte is ignored while hunting; a LEN of 1 to 120 is
taken, any other counts a framing error; so do a late byte, taken then as a hunting byte, and a missing stop bit. A
frame whose CRC does not match is counted; an answer's last byte ends answer pending. -/
def Obligations.ReceiverReadsFrames : Prop :=
  (∀ (p : Port) (s : State) (b : Byte), s.now < 4294967296000 →
    ((s.port p).receiver = .hunting →
      exec (.frameBegins p) s = .next (s.setPort p { s.port p with receiver := .lenExpected s.now }) ∧
      (b ≠ 0xD9 → exec (.frameByte p b) s = .next s) ∧ exec (.missingStopBit p) s = .next s) ∧
    (∀ t, (s.port p).receiver = .lenExpected t → since t s.now ≤ 20 →
      (1 ≤ b.toNat → b.toNat ≤ 120 → exec (.frameByte p b) s =
        .next (s.setPort p { s.port p with receiver := .inFrame [b] (b.toNat + 1) s.now })) ∧
      (b.toNat = 0 ∨ 120 < b.toNat → exec (.badLen p b) s = .next (s.setPort p
        { s.port p with framing := min 65535 ((s.port p).framing + 1), receiver := .hunting }))) ∧
    (∀ l k t, (s.port p).receiver = .inFrame l (k + 2) t → since t s.now ≤ 20 → exec (.frameByte p b) s =
      .next (s.setPort p { s.port p with receiver := .inFrame (l ++ [b]) (k + 1) s.now })) ∧
    (∀ l k t, (s.port p).receiver = .lenExpected t ∨ (s.port p).receiver = .inFrame l k t →
      exec (.missingStopBit p) s = .next (s.setPort p
        { s.port p with framing := min 65535 ((s.port p).framing + 1), receiver := .hunting }) ∧
      (20 < since t s.now → exec (.byteGapTimeout p b) s = .next (s.setPort p
        { s.port p with
          framing := min 65535 ((s.port p).framing + 1)
          receiver := if b = 0xD9 then .lenExpected s.now else .hunting })))) ∧
  (∀ (p : Port) (s : State),
    exec (.frameCrcError p) s = .next (s.setPort p
      { s.port p with crc := min 65535 ((s.port p).crc + 1), receiver := .hunting }) ∧
    exec (.answerSent p) s = .next (s.setPort p { s.port p with answer := none }))

/-- R182, R90: an ONLINE port A or B that falls silent enters LOST, STATION_SILENT with its code goes to the four other
ports, and its unit, RUNNING a stage, halts with STATION_LOST. A LOADED, HALTED or VACANT unit is not changed. With a
latched TAIL of 0 the partial dose is written in the same step (assumption 17). -/
def Obligations.SilenceOfAUnitsPort : Prop :=
  ∀ (u : UnitId) (s v : State) (h : Nat),
    (s.port (unitPort u)).state = .online → (s.port (unitPort u)).lastHeard = some h →
    v = s.pass (remainingMs h (s.working.line.silenceLimit * 1000) s.now) →
    (∀ (n : Nat) (st : Stage), RunsStage s u n st →
      exec (.portLost (unitPort u)) s = .next (unitHalted
        ((v.setPort (unitPort u) { v.port (unitPort u) with state := .lost }).raiseSilent (unitPort u)) u n st
        .stationLost .stationLost)) ∧
    ((∀ n st, s.unit u ≠ .running n st) →
      exec (.portLost (unitPort u)) s = .next
        ((v.setPort (unitPort u) { v.port (unitPort u) with state := .lost }).raiseSilent (unitPort u)))

/-- R182, R116, R162: the silence of port E raises STATION_SILENT only; that of port F halts a RUNNING finisher and changes
no other (with a latched TAIL of 0 a partial dose is written in the same step: assumption 17); that of port W leaves
the permit under HOLD and drops it under DROP. -/
def Obligations.SilenceOfTheOtherPorts : Prop :=
  ∀ (p : Port) (s v : State) (h : Nat),
    (s.port p).state = .online → (s.port p).lastHeard = some h → TransportAgrees s →
    v = (s.pass (remainingMs h (s.working.line.silenceLimit * 1000) s.now)).setPort p { s.port p with state := .lost } →
    (p = .E → exec (.portLost p) s = .next (v.raiseSilent p)) ∧
    (∀ n c a, p = .F → RunsFinish s n c a →
      exec (.portLost p) s = .next (finisherHalted (v.raiseSilent p) n c a .stationLost .stationLost)) ∧
    (p = .F → (∀ n c a, s.finisher ≠ .running n c a) → exec (.portLost p) s = .next (v.raiseSilent p)) ∧
    (p = .W → s.working.line.transportHold ≠ 0 → exec (.portLost p) s = .next (v.raiseSilent p)) ∧
    (p = .W → s.working.line.transportHold = 0 → ∃ t, exec (.portLost p) s = .next t ∧ t.tpm = false ∧
      t = { v.raiseSilent p with tpm := false, slots := t.slots })

/-! ## Notices and line counters -/

/-- R166, R167, R165: a raise counts in the record of its kind at its port and the attention line follows; when that line is
asserted; the silence of a port is told to the four others, with its code. -/
def Obligations.RaiseCountsANotice : Prop :=
  (∀ (s : State) (p q : Port) (k j : NoticeKind) (n : Option Nat), routed p k = true →
    ((s.raise p k n).port q).notices[j.idx] =
      (if q = p ∧ j = k then
        some (match (s.port p).notices[k.idx] with
          | none => { count := 1, latest := n, firstRaised := s.now / 1000 }
          | some x => { x with count := min 255 (x.count + 1), latest := n })
      else (s.port q).notices[j.idx]) ∧
    ((s.raise p k n).port p).attention = ((s.raise p k n).port p).called s.working.levels ∧
    s.raise p k n = { s with ports := (s.raise p k n).ports }) ∧
  (∀ (r : PortRecord) (levels : Vector Nat 17),
    r.called levels = true ↔
      ∃ k : NoticeKind, r.notices[k.idx].isSome = true ∧ 1 ≤ levels[k.idx] ∧ r.threshold ≤ levels[k.idx]) ∧
  (∀ (s : State) (p q : Port) (k : NoticeKind),
    ((s.raiseSilent p).port q).notices[k.idx] =
      if q ≠ p ∧ k = .stationSilent then
        some (match (s.port q).notices[k.idx] with
          | none => { count := 1, latest := some (portCode p), firstRaised := s.now / 1000 }
          | some x => { x with count := min 255 (x.count + 1), latest := some (portCode p) })
      else (s.port q).notices[k.idx])

/-- R173, R172: an offered event is added to every counter that selects it and whose filter matches, saturating. -/
def Obligations.OfferAddsToMatchingCounters : Prop :=
  ∀ (s : State) (e : CounterEvent) (amount : Nat) (subject : Option (Fin 16 × PlateClass))
    (unit : Option (Option UnitId)) (k : Fin 4),
    (s.offer e amount subject unit).counters[k] =
      (if s.counters[k].event = e ∧ (s.counters[k].recipe = none ∨ s.counters[k].recipe = subject.map Prod.fst) ∧
          (s.counters[k].cls = none ∨ s.counters[k].cls = subject.map Prod.snd) ∧
          (∀ u, unit = some u → s.counters[k].unit = none ∨ s.counters[k].unit = u) then
        { s.counters[k] with value := min 4294967295 (s.counters[k].value + amount) }
      else s.counters[k])

/-- R168: STATUS shows the port state before its frame, the pending kinds and the lead, and stores the snapshot. -/
def Obligations.StatusShowsAndStores : Prop :=
  ∀ (h : Hdr) (s : State), Reaches .status 0 h s → TransportAgrees s →
    ∃ bitmap lead snap, exec (.status h) s = .next (replied
        (s.setPort h.port { s.port h.port with snapshot := some snap }) h.port .status .ok
        (fCode (s.port h.port).state.code :: .num .bitmap bitmap :: lead)) ∧
      (∀ i : Fin 17, bitmap.testBit i = (s.port h.port).notices[i].isSome) ∧ bitmap < 2 ^ 17 ∧
      (∀ i : Fin 17, snap[i] = ((s.port h.port).notices[i].map Notice.count).getD 0) ∧
      ((∀ i : Fin 17, (s.port h.port).notices[i] = none) →
        lead = [fCode 0, .opt .code none, .opt .code none, .opt .docket none, .opt .time none]) ∧
      (∀ (k : NoticeKind) (x : Notice), (s.port h.port).notices[k.idx] = some x →
        (∀ j : NoticeKind, (s.port h.port).notices[j.idx].isSome = true → j ≠ k →
          s.working.levels[j.idx] < s.working.levels[k.idx] ∨
          (s.working.levels[j.idx] = s.working.levels[k.idx] ∧ k.idx < j.idx)) →
        lead = [fCode (k.idx.val + 1), .opt .code (some s.working.levels[k.idx]), .opt .code (some x.count),
          .opt .docket x.latest, .opt .time (some x.firstRaised)])

/-- R169: ACK subtracts the snapshotted counts, discards the snapshot and evaluates the line; without a snapshot it
clears nothing. -/
def Obligations.AckSubtractsTheSnapshot : Prop :=
  ∀ (h : Hdr) (s : State), Reaches .ack 0 h s → TransportAgrees s →
    ((s.port h.port).snapshot = none → exec (.ack h) s = .next (replied s h.port .ack .ok
      [fCode 0, fCode (allKinds.countP fun k => (s.port h.port).notices[k.idx].isSome)])) ∧
    (∀ snap, (s.port h.port).snapshot = some snap → ∃ v : Vector (Option Notice) 17, ∃ cleared left,
      exec (.ack h) s = .next (replied (s.setPort h.port
        (({ s.port h.port with notices := v, snapshot := none } : PortRecord).evaluate s.working.levels)) h.port .ack .ok
          [fCode cleared, fCode left]) ∧
      (∀ i : Fin 17, v[i] = match (s.port h.port).notices[i] with
        | none => none
        | some x =>
          if snap[i] = 0 then some x
          else if snap[i] = 255 ∨ x.count ≤ snap[i] then none
          else some { x with count := x.count - snap[i] }) ∧
      left = (allKinds.countP fun k => v[k.idx].isSome) ∧
      cleared + left = allKinds.countP fun k => (s.port h.port).notices[k.idx].isSome)

/-- R171, R39: READ_NOTICE answers one record, pending as 0 no or 1 yes (the model's choice, assumption 25), and changes
nothing; SET_THRESHOLD sets the port's own threshold, at most 7, and evaluates its line; SET_LEVEL sets a kind's
level, at most 7, and evaluates every line; READ_LEVEL answers it. -/
def Obligations.NoticeThresholdsAndLevels : Prop :=
  (∀ (h : Hdr) (s : State) (kind threshold : BitVec 8) (k : NoticeKind), TransportAgrees s →
    (Reaches .readNotice 0 h s → kind.toNat = k.idx.val + 1 → routed h.port k = true →
      exec (.readNotice h kind) s = .next (replied s h.port .readNotice .ok
        [fCode kind.toNat, fCode s.working.levels[k.idx], fCode (boolCode (s.port h.port).notices[k.idx].isSome),
         .opt .code ((s.port h.port).notices[k.idx].map Notice.count),
         .opt .docket ((s.port h.port).notices[k.idx].bind Notice.latest),
         .opt .time ((s.port h.port).notices[k.idx].map Notice.firstRaised)])) ∧
    (Reaches .readNotice 0 h s → kind.toNat = 0 ∨ 17 < kind.toNat ∨ (kind.toNat = k.idx.val + 1 ∧ routed h.port k = false) →
      exec (.readNotice h kind) s = .next (replied s h.port .readNotice .range [])) ∧
    (Reaches .setThreshold 0 h s →
      exec (.setThreshold h threshold) s = .next (replied (s.setPort h.port
        (({ s.port h.port with threshold := min 7 threshold.toNat } : PortRecord).evaluate s.working.levels)) h.port
          .setThreshold .ok [fCode (min 7 threshold.toNat)]))) ∧
  (∀ (h : Hdr) (s : State) (kind level : BitVec 8), TransportAgrees s →
    (∀ k : NoticeKind, kind.toNat = k.idx.val + 1 →
      (Reaches .setLevel 0 h s → s.store.job = none → ∃ (v : Vector Nat 17) (t : State),
        (∀ i : Fin 17, v[i] = if i = k.idx then min 7 level.toNat else s.working.levels[i]) ∧
        (∀ p, t.port p = { s.port p with attention := (s.port p).called v }) ∧
        t = { s with working := { s.working with levels := v }, ports := t.ports } ∧
        exec (.setLevel h kind level) s = .next (replied t h.port .setLevel .ok
          [.num .code kind.toNat, .num .code (min 7 level.toNat)])) ∧
      (Reaches .setLevel 0 h s → s.store.job ≠ none →
        exec (.setLevel h kind level) s = .next (replied s h.port .setLevel .busy [])) ∧
      (Reaches .readLevel 0 h s → exec (.readLevel h kind) s = .next (replied s h.port .readLevel .ok
        [.num .code kind.toNat, .num .code s.working.levels[k.idx]]))) ∧
    (kind.toNat = 0 ∨ 17 < kind.toNat →
      (Reaches .setLevel 0 h s → exec (.setLevel h kind level) s = .next (replied s h.port .setLevel .range [])) ∧
      (Reaches .readLevel 0 h s → exec (.readLevel h kind) s = .next (replied s h.port .readLevel .range []))))

/-- R175, R176: SET_COUNTER sets selection and filter and starts from 0, or is refused RANGE; CLEAR_COUNTERS starts all four
from 0; READ_COUNTERS answers them all. -/
def Obligations.CounterRequests : Prop :=
  ∀ (h : Hdr) (s : State), TransportAgrees s →
    (∀ (k event recipe cls unit : BitVec 8) (i : Fin 4) (e : CounterEvent) (r : Option (Fin 16)) (c : Option PlateClass)
      (u : Option UnitId), Reaches .setCounter 0 h s → k.toNat = i.val → eventOfCode event.toNat = some e →
      recipePartOfCode recipe.toNat = some r → classPartOfCode cls.toNat = some c → prefOfCode unit.toNat = some u →
      exec (.setCounter h k event recipe cls unit) s = .next (replied (s.setCounters (s.counters.set i
        { event := e, recipe := r, cls := c, unit := u, value := 0, timeSet := s.now / 1000 })) h.port .setCounter .ok
          [fCode k.toNat, fCode event.toNat, fCode recipe.toNat, fCode cls.toNat, fCode unit.toNat,
           fTime (s.now / 1000)])) ∧
    (∀ k event recipe cls unit : BitVec 8, Reaches .setCounter 0 h s →
      3 < k.toNat ∨ 15 < event.toNat ∨ (15 < recipe.toNat ∧ recipe.toNat ≠ 255) ∨ 2 < cls.toNat ∨ 2 < unit.toNat →
      exec (.setCounter h k event recipe cls unit) s = .next (replied s h.port .setCounter .range [])) ∧
    (Reaches .clearCounters 0 h s → ∃ v : Vector LineCounter 4,
      (∀ i : Fin 4, v[i] = { s.counters[i] with value := 0, timeSet := s.now / 1000 }) ∧
      exec (.clearCounters h) s = .next (replied (s.setCounters v) h.port .clearCounters .ok [fTime (s.now / 1000)])) ∧
    (Reaches .readCounters 0 h s → exec (.readCounters h) s = .next (replied s h.port .readCounters .ok
      (fTime (s.now / 1000) :: [s.counters[0], s.counters[1], s.counters[2], s.counters[3]].flatMap fun c =>
        [fCode c.event.code, fCode (recipePartCode c.recipe), fCode (classPartCode c.cls), fCode (prefCode c.unit),
         .num .value c.value, fTime c.timeSet])))

/-- R185: PING answers the line time; PORT_INFO the port's code, its state before the frame and its error counters. -/
def Obligations.PingAndPortInfo : Prop :=
  ∀ (h : Hdr) (s : State), TransportAgrees s →
    (Reaches .ping 0 h s → exec (.ping h) s = .next (replied s h.port .ping .ok [.num .time (s.now / 1000)])) ∧
    (Reaches .portInfo 0 h s → exec (.portInfo h) s = .next (replied s h.port .portInfo .ok
      [fCode (portCode h.port), fCode (s.port h.port).state.code, .num .figure (s.port h.port).framing,
       .num .figure (s.port h.port).crc, .num .figure (s.port h.port).overrun]))

/-! ## Dockets -/

/-- R13, R3, R4, R14: REGISTER writes a docket with the first unused number into the lowest FREE slot, counts REGISTERED and
raises DOCKETS_LOW when it leaves four free slots; else it is refused RANGE, BAD_RECIPE or NO_ROOM. -/
def Obligations.RegisterWritesADocket : Prop :=
  ∀ (h : Hdr) (s : State) (recipe : BitVec 8) (area : BitVec 16) (coverage pref cls : BitVec 8), Reaches .register 0 h s →
    (∀ (r : Fin 16) (u : Option UnitId) (c : PlateClass), recipe.toNat = r.val → prefOfCode pref.toNat = some u →
      classOfCode cls.toNat = some c → 100 ≤ area.toNat → area.toNat ≤ 20000 →
      (s.working.recipes[r].valid = false →
        exec (.register h recipe area coverage pref cls) s = .next (replied s h.port .register .badRecipe [])) ∧
      (s.working.recipes[r].valid = true → (∀ i : Fin 48, s.slots[i] ≠ none) →
        exec (.register h recipe area coverage pref cls) s = .next (replied s h.port .register .noRoom [])) ∧
      (∀ (i : Fin 48) (free : Nat), s.working.recipes[r].valid = true → s.slots[i] = none →
        (∀ j : Fin 48, j < i → s.slots[j] ≠ none) → s.slots.toList.countP Option.isNone = free + 1 →
        1 ≤ s.nextNumber → s.nextNumber ≤ 9999 →
        ∃ (n k : Nat) (t : State), n = (s.nextNumber - 1 + k) % 9999 + 1 ∧ s.docket n = none ∧
          (∀ j, j < k → s.docket ((s.nextNumber - 1 + j) % 9999 + 1) ≠ none) ∧
          t = { s with
            slots := s.slots.set i (some
              { number := n, state := .registered, sub := .none, recipe := r, cls := c, pref := u, area := area.toNat
                coverage := min 95 coverage.toNat, registeredAt := s.now / 1000, snapshot := none, unit := none
                backDelivered := none, mainDelivered := none, dimSeen := false, agedSeen := false, passOver := 0
                passes := [], removed := 0, drawer := none, dryStart := none, dryEnd := none, shortDry := false
                overdry := false, finishC := none, finishA := none, hold := none, scrapMark := none, doneAt := none
                regOrder := s.nextOrder, unloadOrder := 0 })
            nextNumber := n % 9999 + 1
            nextOrder := s.nextOrder + 1
            exposurePool := s.exposurePool ++ [n]
            counters := (s.offer .registered 1 (some (r, c)) none).counters } ∧
          exec (.register h recipe area coverage pref cls) s = .next (replied
            (if free = 4 then t.raise .E .docketsLow (some n) else t) h.port .register .ok
            [fDocket n, fCode (min 95 coverage.toNat), fCode free]))) ∧
    (16 ≤ recipe.toNat ∨ 2 < pref.toNat ∨ 1 < cls.toNat ∨ area.toNat < 100 ∨ 20000 < area.toNat →
      exec (.register h recipe area coverage pref cls) s = .next (replied s h.port .register .range []))

/-- R15, R16, R19, R20: CANCEL of a docket that no unit and no finisher holds. A waiting docket leaves its collection and
is SCRAPPED; one on the belt or in a filled drawer is marked; a RESERVED drawer becomes EMPTY and is given anew. -/
def Obligations.CancelOfAPlateOnTheLine : Prop :=
  ∀ (h : Hdr) (s t : State) (n : BitVec 16) (d : Docket), NumbersUnique s → Reaches .cancel 0 h s →
    s.docket n.toNat = some d →
    t = { s.updateDocket n.toNat fun x => { x with state := .scrapped, sub := .none, drawer := none, hold := none } with
          counters := (s.offer .scrapped 1 (some (d.recipe, d.cls)) none).counters } →
    (d.state = .registered → exec (.cancel h n) s = .next (replied
      { t with exposurePool := s.exposurePool.filter fun m => m != n.toNat } h.port .cancel .ok
      [fDocket n.toNat, fCode 11, fCode (scrapCode d.scrapMark)])) ∧
    (d.state = .washQueued → exec (.cancel h n) s = .next (replied
      { t with washQueue := s.washQueue.filter fun m => m != n.toNat } h.port .cancel .ok
      [fDocket n.toNat, fCode 11, fCode (scrapCode d.scrapMark)])) ∧
    (d.state = .dryQueued → exec (.cancel h n) s = .next (replied
      { t with dryQueue := s.dryQueue.filter fun m => m != n.toNat } h.port .cancel .ok
      [fDocket n.toNat, fCode 11, fCode (scrapCode d.scrapMark)])) ∧
    (d.state = .finishQueued → exec (.cancel h n) s = .next (replied
      { t with finishPool := s.finishPool.filter fun m => m != n.toNat } h.port .cancel .ok
      [fDocket n.toNat, fCode 11, fCode (scrapCode d.scrapMark)])) ∧
    (d.state = .held → (∀ u, (s.unit u).docket ≠ some n.toNat) → s.finisher.docket ≠ some n.toNat →
      exec (.cancel h n) s = .next (replied t h.port .cancel .ok
        [fDocket n.toNat, fCode 11, fCode (scrapCode d.scrapMark)])) ∧
    (d.state = .onBelt → exec (.cancel h n) s = .next (replied
      (s.updateDocket n.toNat fun x => { x with scrapMark := some (d.scrapMark.getD .atExit) }) h.port .cancel .ok
      [fDocket n.toNat, fCode 4, fCode (scrapCode (some (d.scrapMark.getD .atExit)))])) ∧
    (∀ (i : Fin 8) (timer : DrawerTimer) (rest : Option DrawerTimer) (raised : Bool),
      d.state = .atDryer → d.drawer = some i →
      s.drawers[i] = .drying n.toNat timer ∨ s.drawers[i] = .dry n.toNat rest raised →
      exec (.cancel h n) s = .next (replied
        (s.updateDocket n.toNat fun x => { x with scrapMark := some (d.scrapMark.getD .atUnload) }) h.port .cancel .ok
        [fDocket n.toNat, fCode 6, fCode (scrapCode (some (d.scrapMark.getD .atUnload)))])) ∧
    (∀ i : Fin 8, d.state = .atDryer → d.drawer = some i → s.drawers[i] = .reserved n.toNat → n.toNat ∉ s.dryQueue →
      exec (.cancel h n) s = .next (replied
        ({ t with drawers := s.drawers.set i .empty } : State).assignDrawers h.port .cancel .ok
        [fDocket n.toNat, fCode 11, fCode (scrapCode d.scrapMark)])) ∧
    (d.state = .done ∨ d.state = .scrapped →
      exec (.cancel h n) s = .next (replied s h.port .cancel .wrongState []))

/-- R17, R18, R19, R93, R163: CANCEL of a docket that a unit or the finisher holds. The holder becomes VACANT and the docket
SCRAPPED; a running channel is aborted as CANCELLED, with a latched TAIL of 0 IDLE in the same step (assumption 17), and
nothing is held or raised. -/
def Obligations.CancelVacatesTheHolder : Prop :=
  ∀ (h : Hdr) (s t : State) (n : BitVec 16) (d : Docket), Reaches .cancel 0 h s → s.docket n.toNat = some d →
    d.state = .atExposure ∨ d.state = .atFinisher ∨ d.state = .held →
    t = { s.updateDocket n.toNat fun x => { x with state := .scrapped, sub := .none, drawer := none, hold := none } with
          counters := (s.offer .scrapped 1 (some (d.recipe, d.cls)) none).counters } →
    (∀ (u : UnitId) (st : Stage) (reason : HoldReason), (∀ v, v ≠ u → (s.unit v).docket ≠ some n.toNat) →
      s.unit u = .loaded n.toNat ∨ s.unit u = .halted n.toNat st reason →
      exec (.cancel h n) s = .next (replied { t with units := s.units.set u .vacant } h.port .cancel .ok
        [fDocket n.toNat, fCode 11, fCode (scrapCode d.scrapMark)])) ∧
    (∀ (u : UnitId) (st : Stage), (∀ v, v ≠ u → (s.unit v).docket ≠ some n.toNat) → RunsStage s u n.toNat st →
      exec (.cancel h n) s = .next (replied
        { t with
          units := s.units.set u .vacant
          channels := s.channels.set (stageChannel u st) ((s.chan (stageChannel u st)).abortedAt .cancelled s.now) }
        h.port .cancel .ok [fDocket n.toNat, fCode 11, fCode (scrapCode d.scrapMark)])) ∧
    (∀ (c a : Mark) (reason : HoldReason), (∀ u, (s.unit u).docket ≠ some n.toNat) →
      s.finisher = .loaded n.toNat ∨ s.finisher = .halted n.toNat c a reason →
      exec (.cancel h n) s = .next (replied { t with finisher := .vacant } h.port .cancel .ok
        [fDocket n.toNat, fCode 11, fCode (scrapCode d.scrapMark)])) ∧
    (∀ c a : Mark, (∀ u, (s.unit u).docket ≠ some n.toNat) → RunsFinish s n.toNat c a →
      ∃ v, exec (.cancel h n) s = .next (replied v h.port .cancel .ok
          [fDocket n.toNat, fCode 11, fCode (scrapCode d.scrapMark)]) ∧
        v = { t with finisher := .vacant, channels := v.channels } ∧
        v.chan .FC = (if c = .openMark then (s.chan .FC).abortedAt .cancelled s.now else s.chan .FC) ∧
        v.chan .FA = (if a = .openMark then (s.chan .FA).abortedAt .cancelled s.now else s.chan .FA) ∧
        ∀ x, x ≠ .FC → x ≠ .FA → v.chan x = s.chan x)

/-- R21, R22, R23: RELEASE PASS sends a docket HELD at WASH_EXIT to the dry queue, RELEASE REWASH an UNDERWASH one back to
the washout queue, and RETIRE frees the slot of a DONE or SCRAPPED docket; the refusals of the three. -/
def Obligations.ReleaseAndRetire : Prop :=
  ∀ (h : Hdr) (s : State) (n : BitVec 16) (d : Docket), s.docket n.toNat = some d →
    (∀ x, Reaches .release 0 h s → d.state = .held → d.hold = some x → x.location = .washExit →
      exec (.releasePass h n 0) s = .next (replied
        ({ s.updateDocket n.toNat fun y => { y with state := .dryQueued, sub := .none, hold := none } with
            dryQueue := s.joinClass s.dryQueue n.toNat } : State).assignDrawers
        h.port .release .ok [fDocket n.toNat]) ∧
      (x.reason = .underwash → d.passes.length < 3 → ∃ t : State,
        t = { s.updateDocket n.toNat fun y =>
                { y with state := .washQueued, sub := .none, hold := none, passOver := 0 } with
              washQueue := s.joinClass s.washQueue n.toNat } ∧
        exec (.releaseRewash h n 1) s = .next (replied
          (if s.washQueue = [] then t.raise .W .washReady (some n.toNat) else t) h.port .release .ok
          [fDocket n.toNat])) ∧
      (x.reason ≠ .underwash ∨ 3 ≤ d.passes.length →
        exec (.releaseRewash h n 1) s = .next (replied s h.port .release .limit []))) ∧
    (Reaches .release 0 h s → (d.state ≠ .held ∨ ∃ x, d.hold = some x ∧ x.location ≠ .washExit) →
      exec (.releasePass h n 0) s = .next (replied s h.port .release .wrongState []) ∧
      exec (.releaseRewash h n 1) s = .next (replied s h.port .release .wrongState [])) ∧
    (∀ form : BitVec 8, Reaches .release 0 h s → form ≠ 0 → form ≠ 1 →
      exec (.releasePass h n form) s = .next (replied s h.port .release .range [])) ∧
    (Reaches .retire 0 h s → d.state = .done ∨ d.state = .scrapped → ∃ v : Vector (Option Docket) 48,
      (∀ i : Fin 48, v[i] = (s.slots[i]).filter fun x => x.number != n.toNat) ∧
      exec (.retire h n) s = .next (replied { s with slots := v } h.port .retire .ok
        [fCode (v.toList.countP Option.isNone)])) ∧
    (Reaches .retire 0 h s → d.state ≠ .done → d.state ≠ .scrapped →
      exec (.retire h n) s = .next (replied s h.port .retire .wrongState []))

/-- R24, R25: READ_DOCKET answers the three parts of a record, LIST up to 24 numbers of a collection from a start; neither
changes anything, and the dockets of no live number are UNKNOWN. -/
def Obligations.ReadDocketAndList : Prop :=
  ∀ (h : Hdr) (s : State), TransportAgrees s →
    (∀ (n : BitVec 16) (d : Docket) (i : Fin 48), Reaches .readDocket 0 h s → s.slots[i] = some d →
      d.number = n.toNat → (∀ (j : Fin 48) (e : Docket), j < i → s.slots[j] = some e → e.number ≠ n.toNat) →
      exec (.readDocket h n 0) s = .next (replied s h.port .readDocket .ok
        [.num .docket n.toNat, .num .code d.state.code, .num .code d.sub.code, .num .code (i.val + 1),
         .num .code d.recipe.val, .num .code d.cls.code, .num .code (prefCode d.pref), .num .area d.area,
         .num .code d.coverage, .num .time d.registeredAt,
         .opt .depth (d.snapshot.map Snapshot.thickness), .opt .depth (d.snapshot.map Snapshot.relief),
         .opt .dose (d.snapshot.map Snapshot.back), .opt .dose (d.snapshot.map Snapshot.main),
         .opt .speed (d.snapshot.map Snapshot.w0), .opt .figure (d.snapshot.map Snapshot.margin),
         .opt .figure (d.snapshot.map Snapshot.dryTime), .opt .dose (d.snapshot.map Snapshot.uvc),
         .opt .dose (d.snapshot.map Snapshot.uva), .opt .code (d.unit.map unitCode), .opt .dose d.backDelivered,
         .opt .dose d.mainDelivered, .num .flags ((if d.dimSeen then 1 else 0) + (if d.agedSeen then 2 else 0))]) ∧
      exec (.readDocket h n 1) s = .next (replied s h.port .readDocket .ok
        ([.num .docket n.toNat, .num .code d.state.code, .num .code d.passOver, .num .depth d.removed,
          .num .code d.passes.length] ++ d.passes.flatMap fun p =>
            [.num .time p.feedTime, .num .speed p.w, .num .speed p.vReq, .num .speed p.vBelt, .num .time p.expectedExit,
             .opt .time p.exitTime, .opt .depth p.depth, .num .flags ((if p.underwash then 1 else 0) +
               (if p.overwash then 2 else 0) + (if p.overdue then 4 else 0) + (if p.beltStopped then 8 else 0))])) ∧
      exec (.readDocket h n 2) s = .next (replied s h.port .readDocket .ok
        [.num .docket n.toNat, .num .code d.state.code, .opt .code (d.drawer.map fun x => x.val + 1),
         .opt .time d.dryStart, .opt .time d.dryEnd,
         .num .flags ((if d.shortDry then 1 else 0) + (if d.overdry then 2 else 0)), .opt .dose d.finishC,
         .opt .dose d.finishA, .opt .code (d.hold.map fun x => x.reason.code),
         .opt .code (d.hold.map fun x => x.stage.code), .opt .code (d.hold.map fun x => x.location.code),
         .opt .time (d.hold.map HoldRecord.timeHeld), .opt .dose (d.hold.bind HoldRecord.first),
         .opt .dose (d.hold.bind HoldRecord.second), .num .code (scrapCode d.scrapMark), .opt .time d.doneAt]) ∧
      (∀ part : BitVec 8, 2 < part.toNat →
        exec (.readDocket h n part) s = .next (replied s h.port .readDocket .range []))) ∧
    (∀ (n : BitVec 16) (part : BitVec 8), Reaches .readDocket 0 h s → s.docket n.toNat = none →
      exec (.readDocket h n part) s = .next (replied s h.port .readDocket .unknown [])) ∧
    (∀ (c start : BitVec 8) (q : List Nat), Reaches .list 0 h s → start.toNat ≤ 47 →
      (c = 0 ∧ q = s.exposurePool) ∨ (c = 1 ∧ q = s.washQueue) ∨ (c = 2 ∧ q = s.belt.map BeltRecord.docket) ∨
        (c = 3 ∧ q = s.dryQueue) ∨ (c = 4 ∧ q = s.finishPool) ∨
        (c = 5 ∧ q = (s.slots.toList.filterMap id).filterMap fun d => if d.state = .held then some d.number else none) ∨
        (c = 6 ∧ q = (s.slots.toList.filterMap id).filterMap fun d => if d.state = .done then some d.number else none) ∨
        (c = 7 ∧ q = (s.slots.toList.filterMap id).filterMap fun d =>
          if d.state = .scrapped then some d.number else none) →
      exec (.list h c start) s = .next (replied s h.port .list .ok
        ([.num .code c.toNat, .num .code q.length, .num .code start.toNat,
          .num .code (min 24 (q.length - start.toNat))] ++
          ((q.drop start.toNat).take 24).map fun n => .num .docket n))) ∧
    (∀ c start : BitVec 8, Reaches .list 0 h s → 7 < c.toNat ∨ 47 < start.toNat →
      exec (.list h c start) s = .next (replied s h.port .list .range []))

/-- R26, R27, R28, R74: LINE_CLEAR empties the line, darkens and idles the channels, clears the notices, and leaves the
figures and settings the rules name. -/
def Obligations.LineClearEmptiesTheLine : Prop :=
  ∀ (h : Hdr) (s : State), Reaches .lineClear 0 h s →
    ∃ t, exec (.lineClear h) s = .next (replied t h.port .lineClear .ok
        [.num .code (s.slots.toList.countP Option.isSome)]) ∧
      (∀ i : Fin 48, t.slots[i] = none) ∧ (∀ u, t.unit u = .vacant) ∧
      (∀ i : Fin 8, t.drawers[i] = if s.drawers[i] = .out then .out else .empty) ∧
      (∀ c, t.chan c = if (s.chan c).state = .idle ∨ (s.chan c).state = .fault then s.chan c else
        { s.chan c with
          state := .idle, permit := false, latched := none, run := none, target := none, accumulator := 0
          prediction := 0, overtime := none, elapsed := 0, lastEnd := .none, idleCount := 0, dimRaised := false
          agedRaised := false, inGrace := false, window := none, dimFrom := none, deadFrom := none
          tailFrom := none }) ∧
      (∀ p, t.port p = { s.port p with
        notices := (t.port p).notices, snapshot := none, attention := false } ∧
        ∀ k : NoticeKind, (t.port p).notices[k.idx] = none) ∧
      t = { s with
        slots := t.slots, exposurePool := [], finishPool := [], washQueue := [], belt := [], beltSpeed := none
        dryQueue := [], channels := t.channels, units := t.units, finisher := .vacant, drawers := t.drawers
        ports := t.ports }

/-! ## Recipes, settings and the stored image -/

/-- R30, R31, R32: SET_RECIPE writes a working recipe with every figure clamped and answers it; READ_RECIPE answers a
recipe record and changes nothing. -/
def Obligations.RecipeRequests : Prop :=
  ∀ (h : Hdr) (s : State) (index valid : BitVec 8) (name : List Byte) (th re : BitVec 16) (ba ma : BitVec 24)
    (w0 mg dt : BitVec 16) (uc ua : BitVec 24), TransportAgrees s →
    (∀ (i : Fin 16) (thickness : Nat) (x : Snapshot) (taken : List Byte), Reaches .setRecipe name.length h s →
      index.toNat = i.val → valid.toNat ≤ 1 → s.store.job = none → thickness = max 760 (min 7000 th.toNat) →
      x = { thickness := thickness
            relief := min (max 100 (min 4000 re.toNat)) (thickness - 100)
            back := min 9999 ba.toNat
            main := max 1 (min 9999 ma.toNat)
            w0 := max 40 (min 400 w0.toNat)
            margin := max 1000 (min 1500 mg.toNat)
            dryTime := max 10 (min 300 dt.toNat)
            uvc := min 9999 uc.toNat
            uva := min 9999 ua.toNat } →
      taken.length = min 12 name.length →
      (∀ j (hj : j < taken.length) (hn : j < name.length),
        taken[j] = if 0x20 ≤ name[j].toNat ∧ name[j].toNat ≤ 0x7E then name[j] else 0x3F) →
      exec (.setRecipe h index valid name th re ba ma w0 mg dt uc ua) s = .next (replied
        { s with working := { s.working with
            recipes := s.working.recipes.set i { valid := valid.toNat == 1, name := taken, figures := x } } }
        h.port .setRecipe .ok
        [.num .code index.toNat, .num .code valid.toNat, .name taken, .num .depth x.thickness, .num .depth x.relief,
         .num .dose x.back, .num .dose x.main, .num .speed x.w0, .num .figure x.margin, .num .figure x.dryTime,
         .num .dose x.uvc, .num .dose x.uva])) ∧
    (Reaches .setRecipe name.length h s → 15 < index.toNat ∨ 1 < valid.toNat →
      exec (.setRecipe h index valid name th re ba ma w0 mg dt uc ua) s =
        .next (replied s h.port .setRecipe .range [])) ∧
    (Reaches .setRecipe name.length h s → index.toNat ≤ 15 → valid.toNat ≤ 1 → s.store.job ≠ none →
      exec (.setRecipe h index valid name th re ba ma w0 mg dt uc ua) s =
        .next (replied s h.port .setRecipe .busy [])) ∧
    (∀ (i : Fin 16) (r : Recipe), Reaches .readRecipe 0 h s → index.toNat = i.val → s.working.recipes[i] = r →
      exec (.readRecipe h index) s = .next (replied s h.port .readRecipe .ok
        [.num .code index.toNat, .num .code (if r.valid then 1 else 0), .name r.name, .num .depth r.figures.thickness,
         .num .depth r.figures.relief, .num .dose r.figures.back, .num .dose r.figures.main,
         .num .speed r.figures.w0, .num .figure r.figures.margin, .num .figure r.figures.dryTime,
         .num .dose r.figures.uvc, .num .dose r.figures.uva])) ∧
    (Reaches .readRecipe 0 h s → 15 < index.toNat →
      exec (.readRecipe h index) s = .next (replied s h.port .readRecipe .range []))

/-- R34, R35, R36: SET_SETTING of a line item clamps the value to its range and to the other member of its pair, replaces
that item alone and hands it to the block it bears on; READ_SETTING answers it (R38). A lower SILENCE_LIMIT that finds
several ports silent takes them in an order that is a free value (the model's choice, assumption 23). -/
def Obligations.LineSettingRequests : Prop :=
  ∀ (h : Hdr) (s : State) (item channel : BitVec 8) (value : BitVec 32) (i : LineItem), TransportAgrees s →
    lineItemOfCode item.toNat = some i →
    (Reaches .setSetting 0 h s → s.store.job = none → ∃ (v : Nat) (l : LineSettings) (t : State),
      v = (match i with
        | .speedMin => min (max 20 (min 500 value.toNat)) (s.working.line.speedMax - 10)
        | .speedMax => max (max 100 (min 3000 value.toNat)) (s.working.line.speedMin + 10)
        | .loadWarn => min (max 50 (min 2000 value.toNat)) (s.working.line.loadStop - 10)
        | .loadStop => max (max 100 (min 2500 value.toNat)) (s.working.line.loadWarn + 10)
        | .bathVolMin => min (max 100 (min 5000 value.toNat)) (s.working.line.bathVolMax - 100)
        | .bathVolMax => max (max 200 (min 9000 value.toNat)) (s.working.line.bathVolMin + 100)
        | _ => max (lineRange i).1 (min (lineRange i).2 value.toNat)) ∧
      (∀ j, l.get j = if j = i then v else s.working.line.get j) ∧
      t = { s with working := { s.working with line := l } } ∧
      exec (.setSetting h item channel value) s = .next (replied (match i with
        | .drawers => t.assignDrawers
        | .loadWarn => t.recomputeBath s.bath
        | .loadStop => t.recomputeBath s.bath
        | .bathVolMin => t.recomputeBath s.bath
        | .transportFailsafe => t.updatePermit
        | .silenceLimit =>
          (t.setPort h.port { s.port h.port with state := .online, lastHeard := some s.now }).checkSilence
        | _ => t) h.port .setSetting .ok [.num .code item.toNat, .num .code channel.toNat, .num .value v])) ∧
    (Reaches .setSetting 0 h s → s.store.job ≠ none →
      exec (.setSetting h item channel value) s = .next (replied s h.port .setSetting .busy [])) ∧
    (Reaches .readSetting 0 h s →
      exec (.readSetting h item channel) s = .next (replied s h.port .readSetting .ok
        [.num .code item.toNat, .num .code channel.toNat, .num .value (s.working.line.get i)]))

/-- R37, R34, R38: SET_SETTING of a channel item clamps the value and replaces that item of that channel alone;
READ_SETTING answers it; an item or a channel outside the tables is refused RANGE. -/
def Obligations.ChannelSettingRequests : Prop :=
  ∀ (h : Hdr) (s : State) (item channel : BitVec 8) (value : BitVec 32), TransportAgrees s →
    (∀ (i : ChanItem) (ch : ChannelId), chanItemOfCode item.toNat = some i → channelOfCode channel.toNat = some ch →
      (Reaches .setSetting 0 h s → s.store.job = none → ∃ (v : Nat) (c : ChanSettings),
        v = max (chanRange i).1 (min (chanRange i).2 value.toNat) ∧
        (∀ j, c.get j = if j = i then v else (s.working.channels.get ch).get j) ∧
        exec (.setSetting h item channel value) s = .next (replied
          { s with working := { s.working with channels := s.working.channels.set ch c } } h.port .setSetting .ok
          [.num .code item.toNat, .num .code channel.toNat, .num .value v])) ∧
      (Reaches .setSetting 0 h s → s.store.job ≠ none →
        exec (.setSetting h item channel value) s = .next (replied s h.port .setSetting .busy [])) ∧
      (Reaches .readSetting 0 h s →
        exec (.readSetting h item channel) s = .next (replied s h.port .readSetting .ok
          [.num .code item.toNat, .num .code channel.toNat, .num .value ((s.working.channels.get ch).get i)]))) ∧
    (lineItemOfCode item.toNat = none → chanItemOfCode item.toNat = none ∨ 5 < channel.toNat →
      (Reaches .setSetting 0 h s →
        exec (.setSetting h item channel value) s = .next (replied s h.port .setSetting .range [])) ∧
      (Reaches .readSetting 0 h s →
        exec (.readSetting h item channel) s = .next (replied s h.port .readSetting .range [])))

/-- R41, R42, R43, R47: STORE takes the working copy while SKEY is high, its completion writes the image and both copies of
the wear record and raises STORE_RESULT, and STORE_INFO answers the store information. The byte layout the CRC is taken
over (assumption 9) and the stop of the wear count at 20,000 (assumption 22) are the model's. -/
def Obligations.StoreWritesTheWorkingCopy : Prop :=
  ∀ (h : Hdr) (s : State), TransportAgrees s →
    (Reaches .store 0 h s →
      exec (.store h false) s = .next (replied s h.port .store .keyOff []) ∧
      (s.store.job ≠ none → exec (.store h true) s = .next (replied s h.port .store .busy [])) ∧
      (s.store.job = none → 20000 ≤ s.store.wear →
        exec (.store h true) s = .next (replied s h.port .store .worn [])) ∧
      (s.store.job = none → s.store.wear < 20000 → exec (.store h true) s = .next (replied
        { s with store := { s.store with job := some { contents := s.working, takenAt := s.now } } } h.port .store .ok
        [.num .figure (s.store.wear + 1)]))) ∧
    (∀ (j : StoreJob) (v : State) (wear : Nat), s.store.job = some j → v = s.pass (remainingMs j.takenAt 350 s.now) →
      wear = min 20000 (s.store.wear + 1) →
      exec .storeComplete s = .next (({ v with
        store :=
          { image := { body := some { contents := j.contents, crc := crc16 j.contents.imageBytes }
                       wear1 := some wear, wear2 := some wear }
            job := none, wear := wear, lastResult := .stored, resultTime := some (v.now / 1000) } } : State).raise
        .E .storeResult none)) ∧
    (Reaches .storeInfo 0 h s → exec (.storeInfo h) s = .next (replied s h.port .storeInfo .ok
      [.num .code (if s.store.job = none then 0 else 1), .num .figure s.store.wear, .num .code s.store.lastResult.code,
       .opt .time s.store.resultTime]))

/-- R46, R36, R39: RECALL replaces the working copy by a good image's contents or by the factory defaults, and hands each
changed value on as SET_SETTING and SET_LEVEL do: DRAWERS to the dryer, a bath threshold to the bath account,
TRANSPORT_FAILSAFE to the permit, SILENCE_LIMIT to the ports, levels to the attention lines. A bad image raises
STORE_RESULT. The hand-offs are written in one order, and every order ends alike (assumption 19); what silences a lower
SILENCE_LIMIT finds is taken in an order that is a free value (assumption 23). -/
def Obligations.RecallReadsTheImage : Prop :=
  ∀ (h : Hdr) (s : State), Reaches .recall 0 h s →
    (s.store.job ≠ none → exec (.recall h) s = .next (replied s h.port .recall .busy [])) ∧
    (∀ (w : WorkingCopy) (u v t1 t2 t3 t4 t5 t : State), s.store.job = none →
      w = s.store.image.goodBody.getD .factory →
      u = { s with
        working := w
        ports := s.ports.set h.port
          { s.port h.port with state := .online, lastHeard := some s.now, receiver := .hunting } } →
      v = (if s.store.image.goodBody = none then
          ({ u with
            store := { s.store with lastResult := .imageBad, resultTime := some (s.now / 1000) } } : State).raise .E
              .storeResult none
        else u) →
      t1 = (if w.line.drawers = s.working.line.drawers then v else v.assignDrawers) →
      t2 = (if w.line.loadWarn = s.working.line.loadWarn ∧ w.line.loadStop = s.working.line.loadStop ∧
        w.line.bathVolMin = s.working.line.bathVolMin then t1 else t1.recomputeBath s.bath) →
      t3 = (if w.line.transportHold = s.working.line.transportHold then t2 else t2.updatePermit) →
      t4 = (if w.line.silenceLimit = s.working.line.silenceLimit then t3 else t3.checkSilence) →
      t5 = (if w.levels = s.working.levels then t4 else t4.evaluateAll) →
      t = answeredWith t5 h.port .recall .ok [.num .code (if s.store.image.goodBody = none then 2 else 1)] →
      exec (.recall h) s = .next t ∧
      (w.line.drawers ≠ s.working.line.drawers → t.dryQueue = [] ∨ t.freeDrawer = none) ∧
      (w.line.loadWarn ≠ s.working.line.loadWarn ∨ w.line.loadStop ≠ s.working.line.loadStop ∨
          w.line.bathVolMin ≠ s.working.line.bathVolMin →
        t.bath = { s.bath with condition :=
          if s.bath.condition = .unknown then .unknown else s.bath.judged w.line }) ∧
      (w.line.transportHold ≠ s.working.line.transportHold → t.tpm = t.permitted) ∧
      (w.line.silenceLimit ≠ s.working.line.silenceLimit →
        ∀ p x, p ≠ h.port → (s.port p).state = .online → (s.port p).lastHeard = some x →
          w.line.silenceLimit * 1000 ≤ since x s.now → (t.port p).state = .lost) ∧
      (w.levels ≠ s.working.levels → ∀ p, (t.port p).attention = (t.port p).called w.levels))

/-! ## Requests on channels -/

/-- R71, R72, R73: CLEAR_CHANNEL returns a FAULT channel to IDLE after 5 s without a pulse, SET_LAMP_REF sets the working
E_REF to a value or to the measured irradiance, READ_CHANNEL answers the record. SET_LAMP_REF's value field of 3 bytes
(assumption 12) and the form code as an operand of both its commands (assumption 14) are the model's. -/
def Obligations.ChannelRequests : Prop :=
  ∀ (h : Hdr) (s : State) (code form : BitVec 8) (value : BitVec 24), TransportAgrees s →
    (∀ (ch : ChannelId) (c : Channel), Reaches .clearChannel 0 h s → channelOfCode code.toNat = some ch → s.chan ch = c →
      (channelPort ch ≠ h.port →
        exec (.clearChannel h code) s = .next (replied s h.port .clearChannel .notPermitted [])) ∧
      (channelPort ch = h.port → c.state ≠ .fault →
        exec (.clearChannel h code) s = .next (replied s h.port .clearChannel .wrongState [])) ∧
      (∀ t, channelPort ch = h.port → c.state = .fault → c.lastPulse = some t → since t s.now < 5000 →
        exec (.clearChannel h code) s = .next (replied s h.port .clearChannel .channelFault [])) ∧
      (channelPort ch = h.port → c.state = .fault → (∀ t, c.lastPulse = some t → 5000 ≤ since t s.now) →
        exec (.clearChannel h code) s = .next (replied
          (s.setChan ch { c with state := .idle, idleCount := 0, permit := false }) h.port .clearChannel .ok
          [.num .code code.toNat, .num .figure c.stray]))) ∧
    (∀ (ch : ChannelId) (c : Channel), Reaches .setLampRef 0 h s → channelOfCode code.toNat = some ch → s.chan ch = c →
      (channelPort ch ≠ h.port →
        exec (.setLampRefValue h code 0 value) s = .next (replied s h.port .setLampRef .notPermitted []) ∧
        exec (.setLampRefMeasured h code 1 value) s = .next (replied s h.port .setLampRef .notPermitted [])) ∧
      (channelPort ch = h.port → s.store.job ≠ none →
        exec (.setLampRefValue h code 0 value) s = .next (replied s h.port .setLampRef .busy []) ∧
        exec (.setLampRefMeasured h code 1 value) s = .next (replied s h.port .setLampRef .busy [])) ∧
      (channelPort ch = h.port → s.store.job = none →
        exec (.setLampRefValue h code 0 value) s = .next (replied
          { s with working := { s.working with
              channels := s.working.channels.set ch
                { s.working.channels.get ch with eRef := min 999999 value.toNat } } }
          h.port .setLampRef .ok [.num .code code.toNat, .num .irradiance (min 999999 value.toNat)]) ∧
        (c.irradiance = none →
          exec (.setLampRefMeasured h code 1 value) s = .next (replied s h.port .setLampRef .wrongState [])) ∧
        (∀ e, c.irradiance = some e →
          exec (.setLampRefMeasured h code 1 value) s = .next (replied
            { s with working := { s.working with
                channels := s.working.channels.set ch { s.working.channels.get ch with eRef := min 999999 e } } }
            h.port .setLampRef .ok [.num .code code.toNat, .num .irradiance (min 999999 e)])))) ∧
    (∀ (ch : ChannelId) (c : Channel), Reaches .readChannel 0 h s → channelOfCode code.toNat = some ch → s.chan ch = c →
      exec (.readChannel h code) s = .next (replied s h.port .readChannel .ok
        [.num .code code.toNat, .num .code c.state.code, .opt .docket (c.run.map RunDocket.number), .opt .dose c.target,
         .num .dose c.accumulator, .opt .irradiance c.irradiance, .opt .figure c.health, .num .figure c.prediction,
         .num .figure (if c.state = .exposing then min 65535 (since c.startedAt s.now / 100) else c.elapsed),
         .num .code c.lastEnd.code, .num .code c.lastEnd.reasonCode, .num .figure c.stray])) ∧
    (Reaches .clearChannel 0 h s → 5 < code.toNat →
      exec (.clearChannel h code) s = .next (replied s h.port .clearChannel .range [])) ∧
    (Reaches .setLampRef 0 h s → 5 < code.toNat ∨ (form ≠ 0 ∧ form ≠ 1) →
      exec (.setLampRefValue h code form value) s = .next (replied s h.port .setLampRef .range [])) ∧
    (Reaches .readChannel 0 h s → 5 < code.toNat →
      exec (.readChannel h code) s = .next (replied s h.port .readChannel .range []))

/-! ## Exposure units -/

/-- R77, R33, R89: CLAIM gives a REGISTERED docket and a copy of its recipe to the VACANT unit of the port; RETURN of a
LOADED docket whose back stage has not run puts it back in its place in the pool; the refusals of both. -/
def Obligations.ClaimAndReturn : Prop :=
  ∀ (h : Hdr) (s : State) (u : UnitId) (n : BitVec 16) (d : Docket), h.port = unitPort u → s.docket n.toNat = some d →
    (Reaches .claim 0 h s →
      (s.unit u ≠ .vacant → exec (.claim h n) s = .next (replied s h.port .claim .busy [])) ∧
      (s.unit u = .vacant → d.state ≠ .registered →
        exec (.claim h n) s = .next (replied s h.port .claim .wrongState [])) ∧
      (∀ v, s.unit u = .vacant → d.state = .registered → d.pref = some v → v ≠ u →
        exec (.claim h n) s = .next (replied s h.port .claim .notHere [])) ∧
      (s.unit u = .vacant → d.state = .registered → d.pref = none ∨ d.pref = some u →
        s.working.recipes[d.recipe].valid = false →
        exec (.claim h n) s = .next (replied s h.port .claim .badRecipe [])) ∧
      (∀ x, s.unit u = .vacant → d.state = .registered → d.pref = none ∨ d.pref = some u →
        s.working.recipes[d.recipe].valid = true → s.working.recipes[d.recipe].figures = x →
        exec (.claim h n) s = .next (replied
          { s.updateDocket n.toNat fun y =>
              { y with
                state := .atExposure, sub := if x.back = 0 then .mainReady else .backReady, snapshot := some x
                unit := some u, backDelivered := if x.back = 0 then some 0 else y.backDelivered } with
            units := s.units.set u (.loaded n.toNat)
            exposurePool := s.exposurePool.filter fun m => m != n.toNat }
          h.port .claim .ok
          [.num .docket n.toNat, .num .code (if x.back = 0 then 3 else 1), .num .dose x.back, .num .dose x.main]))) ∧
    (Reaches .returnDocket 0 h s →
      ((s.unit u).docket ≠ some n.toNat →
        exec (.returnDocket h n) s = .next (replied s h.port .returnDocket .notHere [])) ∧
      ((s.unit u).docket = some n.toNat →
        s.unit u ≠ .loaded n.toNat ∨ (d.sub = .mainReady ∧ ∃ x, d.snapshot = some x ∧ x.back ≠ 0) →
        exec (.returnDocket h n) s = .next (replied s h.port .returnDocket .wrongState [])) ∧
      (∀ (x : Snapshot) (before after : List Nat), s.unit u = .loaded n.toNat → d.snapshot = some x →
        d.sub ≠ .mainReady ∨ x.back = 0 → s.exposurePool = before ++ after → n.toNat ∉ s.exposurePool →
        (∀ m ∈ before, s.regOrderOf m ≤ d.regOrder) → (∀ m ∈ after, d.regOrder < s.regOrderOf m) →
        exec (.returnDocket h n) s = .next (replied
          { s.updateDocket n.toNat fun y =>
              { y with state := .registered, sub := .none, snapshot := none, unit := none, backDelivered := none } with
            units := s.units.set u .vacant
            exposurePool := before ++ n.toNat :: after }
          h.port .returnDocket .ok [.num .docket n.toNat, .num .code before.length])))

/-- R79, R80, R50, R51, R52: a start of a stage in a LOADED unit makes its channel EXPOSING with the permit raised, the
settings latched, the target and the prediction computed, and the unit RUNNING; the refusals of R79 and R50. -/
def Obligations.StartRunsTheStage : Prop :=
  ∀ (h : Hdr) (s : State) (u : UnitId) (st : Stage) (n : BitVec 16) (d : Docket) (cmd : Instr) (r : Request) (c : Channel),
    h.port = unitPort u → (st = .back ∧ cmd = .startBack h n ∧ r = .startBack) ∨
      (st = .main ∧ cmd = .startMain h n ∧ r = .startMain) →
    Reaches r 0 h s → s.docket n.toNat = some d → s.chan (stageChannel u st) = c →
    ((s.unit u).docket ≠ some n.toNat → exec cmd s = .next (replied s h.port r .notHere [])) ∧
    ((s.unit u).docket = some n.toNat → s.unit u ≠ .loaded n.toNat ∨ d.sub ≠ stageReady st →
      exec cmd s = .next (replied s h.port r .wrongState [])) ∧
    (s.unit u = .loaded n.toNat → d.sub = stageReady st → c.state = .fault →
      exec cmd s = .next (replied s h.port r .channelFault [])) ∧
    (s.unit u = .loaded n.toNat → d.sub = stageReady st → c.state = .exposing ∨ c.state = .tail →
      exec cmd s = .next (replied s h.port r .busy [])) ∧
    (s.unit u = .loaded n.toNat → d.sub = stageReady st → c.state = .idle → s.sstop = true →
      exec cmd s = .next (replied s h.port r .stopped [])) ∧
    (∀ (x : Snapshot) (y : ChanSettings) (target lamp p : Nat), s.unit u = .loaded n.toNat → d.sub = stageReady st →
      c.state = .idle → s.sstop = false → d.snapshot = some x → s.working.channels.get (stageChannel u st) = y →
      target = (match st with | .back => x.back | .main => x.main) * 1000 → target ≠ 0 →
      lamp = c.irradiance.getD y.eRef →
      p = (if lamp = 0 then 0 else min 65535 ((target * 10 + lamp - 1) / lamp)) →
      exec cmd s = .next (replied
        { s.updateDocket n.toNat fun z => { z with sub := stageRunning st } with
          units := s.units.set u (.running n.toNat st)
          channels := s.channels.set (stageChannel u st)
            { c with
              state := .exposing, permit := true, latched := some y
              run := some { number := n.toNat, order := d.regOrder, recipe := d.recipe, cls := d.cls, unit := d.unit }
              target := some target, accumulator := 0, prediction := p
              overtime := if p = 0 then none else some (p * y.overtime / 100)
              elapsed := 0, health := none, lastEnd := .none, dimRaised := false, agedRaised := false
              startedAt := s.now, inGrace := y.grace != 0
              window := if y.grace = 0 then some { openedAt := s.now, pulses := 0 } else none
              dimFrom := if y.grace = 0 then some (s.now * 1000 + s.micro) else none
              deadFrom := if y.grace = 0 then some s.now else none
              tailFrom := none } }
        h.port r .ok [.num .docket n.toNat, .num .code st.code, .num .dose target, .num .figure p]))

/-- R85, R86, R87, R88, R53: STOP halts a RUNNING unit with OPERATOR; RESUME runs a HALTED stage on from its partial dose, or
completes it at once when the partial dose meets the target; the refusals of both. With a latched TAIL of 0 the partial
dose of a STOP is written in the same step (assumption 17). -/
def Obligations.StopAndResume : Prop :=
  ∀ (h : Hdr) (s : State) (u : UnitId) (st : Stage) (n : BitVec 16) (d : Docket),
    h.port = unitPort u → s.docket n.toNat = some d →
    (Reaches .stop 0 h s →
      (RunsStage s u n.toNat st →
        exec (.stop h n) s = .next (replied (unitHalted s u n.toNat st .operator .operator) h.port .stop .ok
          [.num .docket n.toNat, .num .code st.code, .num .code 3])) ∧
      ((s.unit u).docket ≠ some n.toNat → exec (.stop h n) s = .next (replied s h.port .stop .notHere [])) ∧
      (∀ reason, s.unit u = .loaded n.toNat ∨ s.unit u = .halted n.toNat st reason →
        exec (.stop h n) s = .next (replied s h.port .stop .wrongState []))) ∧
    (Reaches .resume 0 h s →
      ((s.unit u).docket ≠ some n.toNat → exec (.resume h n) s = .next (replied s h.port .resume .notHere [])) ∧
      (s.unit u = .loaded n.toNat ∨ s.unit u = .running n.toNat st →
        exec (.resume h n) s = .next (replied s h.port .resume .wrongState [])) ∧
      (∀ (reason : HoldReason) (c : Channel), s.unit u = .halted n.toNat st reason → s.chan (stageChannel u st) = c →
        (c.state = .fault → exec (.resume h n) s = .next (replied s h.port .resume .channelFault [])) ∧
        (c.state = .exposing ∨ c.state = .tail →
          exec (.resume h n) s = .next (replied s h.port .resume .busy [])) ∧
        (c.state = .idle → s.sstop = true → exec (.resume h n) s = .next (replied s h.port .resume .stopped [])) ∧
        (∀ (x : Snapshot) (hold : HoldRecord) (p target : Nat) (y : ChanSettings), c.state = .idle → s.sstop = false →
          d.snapshot = some x → d.hold = some hold → hold.first = some p →
          target = (match st with | .back => x.back | .main => x.main) * 1000 →
          s.working.channels.get (stageChannel u st) = y →
          (p < target → exec (.resume h n) s = .next (replied
            { s.updateDocket n.toNat fun z =>
                { z with state := .atExposure, sub := stageRunning st, hold := none } with
              units := s.units.set u (.running n.toNat st)
              channels := s.channels.set (stageChannel u st) (c.started y d target p s.now s.microNow) }
            h.port .resume .ok
            [.num .docket n.toNat, .num .code st.code, .num .code 1, .num .dose p, .num .dose target,
             .num .figure (c.started y d target p s.now s.microNow).prediction])) ∧
          (target ≤ p → exec (.resume h n) s = .next (replied
            (({ s.updateDocket n.toNat fun z => { z.deliver (stageChannel u st) p with hold := none } with
                counters := (s.offer .doseOvershoot (p - target) (some (d.recipe, d.cls)) (some d.unit)).counters
                channels := s.channels.set (stageChannel u st)
                  { c with
                    latched := some y, target := some target, accumulator := p, prediction := 0, overtime := none
                    run := some { number := n.toNat, order := d.regOrder, recipe := d.recipe, cls := d.cls, unit := d.unit }
                    elapsed := 0, health := none, lastEnd := .reached, dimRaised := false
                    agedRaised := false } } : State).stageReached u n.toNat st)
            h.port .resume .ok
            [.num .docket n.toNat, .num .code st.code, .num .code 2, .num .dose p, .num .dose target,
             .num .figure 0])))))

/-! ## The light finisher -/

/-- R154, R155, R156, R161: CLAIM_FINISH takes a FINISH_QUEUED docket, START_FINISH asks both channels to run from 0, and
RETURN puts a docket that has not started back in its place in the finish pool; the refusals of the three. -/
def Obligations.FinisherClaimsStartsAndReturns : Prop :=
  ∀ (h : Hdr) (s : State) (n : BitVec 16) (d : Docket) (x : Snapshot),
    s.docket n.toNat = some d → d.snapshot = some x →
    (Reaches .claimFinish 0 h s →
      (s.finisher ≠ .vacant → exec (.claimFinish h n) s = .next (replied s h.port .claimFinish .busy [])) ∧
      (s.finisher = .vacant → d.state ≠ .finishQueued →
        exec (.claimFinish h n) s = .next (replied s h.port .claimFinish .wrongState [])) ∧
      (s.finisher = .vacant → d.state = .finishQueued →
        exec (.claimFinish h n) s = .next (replied
          { s.updateDocket n.toNat fun y => { y with state := .atFinisher, sub := .ready } with
            finisher := .loaded n.toNat, finishPool := s.finishPool.filter fun m => m != n.toNat }
          h.port .claimFinish .ok
          [.num .docket n.toNat, .opt .dose (some x.uvc), .opt .dose (some x.uva)]))) ∧
    (Reaches .startFinish 0 h s →
      (s.finisher.docket ≠ some n.toNat →
        exec (.startFinish h n) s = .next (replied s h.port .startFinish .notHere [])) ∧
      (s.finisher.docket = some n.toNat → s.finisher ≠ .loaded n.toNat →
        exec (.startFinish h n) s = .next (replied s h.port .startFinish .wrongState [])) ∧
      (s.finisher = .loaded n.toNat → (s.chan .FC).state = .fault ∨ (s.chan .FA).state = .fault →
        exec (.startFinish h n) s = .next (replied s h.port .startFinish .channelFault [])) ∧
      (s.finisher = .loaded n.toNat → (s.chan .FC).state ≠ .fault → (s.chan .FA).state ≠ .fault →
        (s.chan .FC).state ≠ .idle ∨ (s.chan .FA).state ≠ .idle →
        exec (.startFinish h n) s = .next (replied s h.port .startFinish .busy [])) ∧
      (s.finisher = .loaded n.toNat → (s.chan .FC).state = .idle → (s.chan .FA).state = .idle → s.sstop = true →
        exec (.startFinish h n) s = .next (replied s h.port .startFinish .stopped [])) ∧
      (∀ (t : State) (c a : Mark), s.finisher = .loaded n.toNat → (s.chan .FC).state = .idle →
        (s.chan .FA).state = .idle → s.sstop = false →
        t = finisherAsked s n.toNat d .openMark .openMark (x.uvc * 1000) 0 (x.uva * 1000) 0 →
        c = (if x.uvc = 0 then .reached else .openMark) → a = (if x.uva = 0 then .reached else .openMark) →
        exec (.startFinish h n) s = .next (replied (finisherProceeds t n.toNat c a) h.port .startFinish .ok
          [.num .docket n.toNat, .num .code (if x.uvc = 0 ∧ x.uva = 0 then 2 else 1),
           .num .code c.code, .num .dose (x.uvc * 1000), .num .figure (t.chan .FC).prediction,
           .num .code a.code, .num .dose (x.uva * 1000), .num .figure (t.chan .FA).prediction]))) ∧
    (∀ before after : List Nat, Reaches .returnDocket 0 h s → h.port = .F →
      (s.finisher.docket ≠ some n.toNat →
        exec (.finisherReturn h.len n) s = .next (replied s .F .returnDocket .notHere [])) ∧
      (s.finisher.docket = some n.toNat → s.finisher ≠ .loaded n.toNat →
        exec (.finisherReturn h.len n) s = .next (replied s .F .returnDocket .wrongState [])) ∧
      (s.finisher = .loaded n.toNat → s.finishPool = before ++ after → n.toNat ∉ s.finishPool →
        (∀ m ∈ before, s.unloadOrderOf m ≤ d.unloadOrder) → (∀ m ∈ after, d.unloadOrder < s.unloadOrderOf m) →
        exec (.finisherReturn h.len n) s = .next (replied
          { s.updateDocket n.toNat fun y => { y with state := .finishQueued, sub := .none } with
            finisher := .vacant, finishPool := before ++ n.toNat :: after }
          .F .returnDocket .ok [.num .docket n.toNat, .num .code before.length])))

/-- R159, R160: STOP from port F halts a RUNNING finisher with OPERATOR; RESUME asks each OPEN channel to run on from its
partial dose and leaves a REACHED one alone; the refusals of both. With a latched TAIL of 0 the partial doses of a STOP are
written in the same step (assumption 17). -/
def Obligations.FinisherStopsAndResumes : Prop :=
  ∀ (h : Hdr) (s : State) (n : BitVec 16) (d : Docket) (c a : Mark), h.port = .F → s.docket n.toNat = some d →
    (Reaches .stop 0 h s →
      (RunsFinish s n.toNat c a →
        exec (.finisherStop h.len n) s = .next (replied (finisherHalted s n.toNat c a .operator .operator) .F .stop .ok
          [.num .docket n.toNat, .num .code 3])) ∧
      (s.finisher.docket ≠ some n.toNat →
        exec (.finisherStop h.len n) s = .next (replied s .F .stop .notHere [])) ∧
      (∀ reason, s.finisher = .loaded n.toNat ∨ s.finisher = .halted n.toNat c a reason →
        exec (.finisherStop h.len n) s = .next (replied s .F .stop .wrongState []))) ∧
    (Reaches .resume 0 h s →
      (s.finisher.docket ≠ some n.toNat →
        exec (.finisherResume h.len n) s = .next (replied s .F .resume .notHere [])) ∧
      (s.finisher = .loaded n.toNat ∨ s.finisher = .running n.toNat c a →
        exec (.finisherResume h.len n) s = .next (replied s .F .resume .wrongState [])) ∧
      (∀ reason, s.finisher = .halted n.toNat c a reason →
        ((c = .openMark ∧ (s.chan .FC).state = .fault) ∨ (a = .openMark ∧ (s.chan .FA).state = .fault) →
          exec (.finisherResume h.len n) s = .next (replied s .F .resume .channelFault [])) ∧
        ((c = .openMark → (s.chan .FC).state ≠ .fault) → (a = .openMark → (s.chan .FA).state ≠ .fault) →
          (c = .openMark ∧ (s.chan .FC).state ≠ .idle) ∨ (a = .openMark ∧ (s.chan .FA).state ≠ .idle) →
          exec (.finisherResume h.len n) s = .next (replied s .F .resume .busy [])) ∧
        ((c = .openMark → (s.chan .FC).state = .idle) → (a = .openMark → (s.chan .FA).state = .idle) →
          c = .openMark ∨ a = .openMark → s.sstop = true →
          exec (.finisherResume h.len n) s = .next (replied s .F .resume .stopped [])) ∧
        (∀ (x : Snapshot) (hold : HoldRecord) (pc pa : Nat) (t : State) (c' a' : Mark),
          (c = .openMark → (s.chan .FC).state = .idle) → (a = .openMark → (s.chan .FA).state = .idle) →
          s.sstop = false → d.snapshot = some x → d.hold = some hold →
          (c = .openMark → hold.first = some pc) → (a = .openMark → hold.second = some pa) →
          t = (finisherAsked s n.toNat d c a (x.uvc * 1000) pc (x.uva * 1000) pa).updateDocket n.toNat
            (fun y => { y with hold := none }) →
          c' = markAsked c (x.uvc * 1000) pc → a' = markAsked a (x.uva * 1000) pa →
          exec (.finisherResume h.len n) s = .next (replied (finisherProceeds t n.toNat c' a') .F .resume .ok
            [.num .docket n.toNat, .num .code (if c' = .reached ∧ a' = .reached then 2 else 1),
             .num .code c'.code, .opt .dose (if c = .openMark then some pc else none), .num .dose (x.uvc * 1000),
             .opt .figure (if c = .openMark then some (t.chan .FC).prediction else none),
             .num .code a'.code, .opt .dose (if a = .openMark then some pa else none), .num .dose (x.uva * 1000),
             .opt .figure (if a = .openMark then some (t.chan .FA).prediction else none)]))))

/-! ## Washout, bath and dryer -/

/-- R102, R103, R104, R105, R99, R100, R101, R124, R125: a FEED puts the head on an empty belt at its own speed, or on a
running belt the first docket that suits its speed, passing over those before it. The expected exit is taken modulo 2³² s
(assumption 16). -/
def Obligations.FeedPutsAPlateOnTheBelt : Prop :=
  ∀ (h : Hdr) (s : State) (n speed : Nat) (d : Docket) (x : Snapshot) (passed rest : List Nat) (w need v time : Nat),
    Reaches .feed 0 h s → TransportAgrees s → s.sstop = false → s.bath.condition = .normal ∨ s.bath.condition = .warn →
    s.belt.length < s.working.line.beltPlaces → s.washQueue = passed ++ n :: rest → s.washQueue.Nodup →
    s.docket n = some d → d.snapshot = some x →
    w = max 1 (x.w0 * max 250 (1000 - s.working.line.derate *
      (if s.bath.volume = 0 then 0 else s.bath.mass / (10 * s.bath.volume)) / 10) / 1000) →
    need = s.working.line.pathLength * 60 / (((x.relief - d.removed) * x.margin * 60 + w * 1000 - 1) / (w * 1000)) →
    v = max s.working.line.speedMin (min s.working.line.speedMax need) →
    (s.belt = [] ∧ passed = [] ∧ speed = v) ∨
      (s.belt ≠ [] ∧ s.beltSpeed = some speed ∧ speed ≤ v ∧ v * (1000 - s.working.line.speedBand) ≤ speed * 1000 ∧
        ∀ m ∈ passed, ∃ e, s.docket m = some e ∧ e.passOver ≠ 3 ∧
          ¬(speed ≤ e.vReq s.bath s.working.line ∧
            e.vReq s.bath s.working.line * (1000 - s.working.line.speedBand) ≤ speed * 1000)) →
    time = (s.working.line.pathLength * 60 + speed - 1) / speed →
    ∃ t, exec (.feed h) s = .next (replied t h.port .feed .ok
        [.num .docket n, .num .speed speed, .num .time time,
         .num .flags (if need < s.working.line.speedMin then 1 else if s.working.line.speedMax < need then 2 else 0),
         .num .code (d.passes.length + 1)]) ∧
      t.docket n = some { d with
        state := .onBelt, sub := .none, passOver := 0
        passes := d.passes ++ [{ feedTime := s.now / 1000, w := w, vReq := v, vBelt := speed
                                 expectedExit := (s.now / 1000 + time + s.working.line.exitGrace) % 4294967296
                                 exitTime := none, depth := none, underwash := false, overwash := false
                                 overdue := false, beltStopped := false }] } ∧
      (∀ m ∈ passed, ∀ e, s.docket m = some e → t.docket m = some { e with passOver := e.passOver + 1 }) ∧
      (∀ m, m ≠ n → m ∉ passed → t.docket m = s.docket m) ∧
      t = { s with
        slots := t.slots, washQueue := passed ++ rest, beltSpeed := some speed
        belt := s.belt ++ [{ docket := n, feedTime := s.now / 1000, overdueRaised := false
                             expectedExit := (s.now / 1000 + time + s.working.line.exitGrace) % 4294967296 }]
        counters := ((passed.foldl (fun (r : State) m => r.offerFor .passOver 1 m false) s).offer .fed 1
          (some (d.recipe, d.cls)) none).counters }

/-- R102, R104: FEED is refused by the bath condition, by the transport permit, by a full belt and by an empty queue, and
WAITs while no docket may be fed; NO_ROOM and WAIT offer FEED_REFUSED. -/
def Obligations.FeedRefusals : Prop :=
  ∀ (h : Hdr) (s : State), Reaches .feed 0 h s → TransportAgrees s →
    (s.bath.condition = .unknown → exec (.feed h) s = .next (replied s h.port .feed .bathUnknown [])) ∧
    (s.bath.condition = .low → exec (.feed h) s = .next (replied s h.port .feed .bathLow [])) ∧
    (s.bath.condition = .spent → exec (.feed h) s = .next (replied s h.port .feed .bathSpent [])) ∧
    (s.bath.condition = .normal ∨ s.bath.condition = .warn →
      (s.sstop = true → exec (.feed h) s = .next (replied s h.port .feed .stopped [])) ∧
      (s.sstop = false → s.working.line.beltPlaces ≤ s.belt.length → s.washQueue = [] →
        exec (.feed h) s = .next (replied (s.offer .feedRefused 1 none none) h.port .feed .noRoom [])) ∧
      (∀ n q d, s.sstop = false → s.working.line.beltPlaces ≤ s.belt.length → s.washQueue = n :: q →
        s.docket n = some d →
        exec (.feed h) s = .next (replied (s.offer .feedRefused 1 (some (d.recipe, d.cls)) none) h.port .feed
          .noRoom [])) ∧
      (s.sstop = false → s.belt.length < s.working.line.beltPlaces → s.washQueue = [] →
        exec (.feed h) s = .next (replied s h.port .feed .empty [])) ∧
      (∀ n q d speed passed rest, s.sstop = false → s.belt.length < s.working.line.beltPlaces → s.belt ≠ [] →
        s.beltSpeed = some speed → s.washQueue = n :: q → s.docket n = some d → s.washQueue = passed ++ rest →
        (∀ m ∈ s.washQueue, ∃ e, s.docket m = some e) →
        (∀ m ∈ passed, ∀ e, s.docket m = some e → e.passOver ≠ 3 ∧
          ¬(speed ≤ e.vReq s.bath s.working.line ∧
            e.vReq s.bath s.working.line * (1000 - s.working.line.speedBand) ≤ speed * 1000)) →
        rest = [] ∨ (∃ m l e, rest = m :: l ∧ s.docket m = some e ∧ e.passOver = 3 ∧
          ¬(speed ≤ e.vReq s.bath s.working.line ∧
            e.vReq s.bath s.working.line * (1000 - s.working.line.speedBand) ≤ speed * 1000)) →
        exec (.feed h) s = .next (replied (s.offer .feedRefused 1 (some (d.recipe, d.cls)) none) h.port .feed
          .wait [])))

/-- R110, R111, R112, R113, R126, R127: an EXIT of the belt's head completes its pass, adds the dissolved mass to the bath,
and sends the docket to SCRAPPED, HELD or the dry queue; the refusals of R110. -/
def Obligations.ExitCompletesThePass : Prop :=
  ∀ (h : Hdr) (s : State) (n : BitVec 16) (d : Docket), Reaches .exit 0 h s → TransportAgrees s →
    s.docket n.toNat = some d →
    (d.state ≠ .onBelt → exec (.exit h n) s = .next (replied s h.port .exit .wrongState [])) ∧
    (d.state = .onBelt → (∀ b l, s.belt = b :: l → b.docket ≠ n.toNat) →
      exec (.exit h n) s = .next (replied s h.port .exit .outOfOrder [])) ∧
    (∀ (b : BeltRecord) (belt : List BeltRecord) (x : Snapshot) (passes : List WashPass) (p p' : WashPass)
      (depth left taken mass : Nat) (e f g : State) (hold : Option HoldReason),
      d.state = .onBelt → s.belt = b :: belt → b.docket = n.toNat → d.snapshot = some x → d.passes = passes ++ [p] →
      depth = p.w * s.working.line.pathLength / p.vBelt → left = x.relief - d.removed → taken = min depth left →
      mass = d.area * (100 - d.coverage) * taken * s.working.line.density / 1000000 →
      p' = { p with
        exitTime := some (s.now / 1000), depth := some depth
        underwash := p.underwash || decide (depth < left)
        overwash := p.overwash || decide (left * s.working.line.overwashLimit / 1000 < depth) } →
      hold = (if p'.beltStopped then some .beltStopped else if p'.overdue then some .overdue
        else if p'.underwash then some .underwash else if p'.overwash then some .overwash else none) →
      e = { s.updateDocket n.toNat fun z =>
              { z.updateNewest (fun _ => p') with removed := z.removed + taken } with
            belt := belt, beltSpeed := if belt = [] then none else s.beltSpeed
            counters := ((s.offer .washed 1 (some (d.recipe, d.cls)) none).offer .massAdded mass
              (some (d.recipe, d.cls)) none).counters } →
      f = e.recomputeBath { s.bath with mass := min 4294967295 (s.bath.mass + mass) } →
      g = (if d.scrapMark = some .atExit then
            { f.updateDocket n.toNat fun z =>
                { z with state := .scrapped, sub := .none, drawer := none, hold := none } with
              counters := (f.offer .scrapped 1 (some (d.recipe, d.cls)) none).counters }
          else match hold with
            | some r => ((f.updateDocket n.toNat fun z => z.heldBy r .wash .washExit (s.now / 1000)).raise .E .plateHeld
                (some n.toNat)).offer .held 1 (some (d.recipe, d.cls)) none
            | none => ({ f.updateDocket n.toNat fun z => { z with state := .dryQueued, sub := .none } with
                dryQueue := s.joinClass s.dryQueue n.toNat } : State).assignDrawers) →
      (∃ y, e.docket n.toNat = some y ∧ y.passes = passes ++ [p']) ∧
      exec (.exit h n) s = .next (replied g h.port .exit .ok
        [.num .docket n.toNat, .num .depth depth, .num .depth taken,
         .num .code (((g.docket n.toNat).map fun y => y.state.code).getD 0),
         .num .code (if d.scrapMark = some .atExit then 0 else (hold.map HoldReason.code).getD 0),
         .num .flags ((if p'.underwash then 1 else 0) + (if p'.overwash then 2 else 0) + (if p'.overdue then 4 else 0) +
           (if p'.beltStopped then 8 else 0))]))

/-- R129, R130, R131, R132, R133, R121, R122, R123: REPORT_BATH sets the account from a measurement, REPLENISH drains, adds
and overflows it, with both volumes 0 too (the model's reading of R131 against R132, assumption 26); both judge the
condition anew and raise its notice at ports W and E when it changes. -/
def Obligations.BathRequests : Prop :=
  ∀ (h : Hdr) (s : State), TransportAgrees s →
    (∀ (load volume : BitVec 16) (m v : Nat) (cond : BathCondition) (t : State), Reaches .reportBath 0 h s →
      m = min 2500 load.toNat → v = min s.working.line.bathVolMax volume.toNat →
      cond = (if v < s.working.line.bathVolMin then .low
        else if s.working.line.loadStop ≤ (if v = 0 then 0 else m * v * 10 / (10 * v)) then .spent
        else if s.working.line.loadWarn ≤ (if v = 0 then 0 else m * v * 10 / (10 * v)) then .warn else .normal) →
      t = { s with bath :=
        { mass := m * v * 10, volume := v, condition := cond, reportedAt := some (s.now / 1000)
          correction := if s.bath.condition = .unknown then none else some (max (-32767) (min 32767
            (((if s.bath.volume = 0 then 0 else s.bath.mass / (10 * s.bath.volume) : Nat) : Int) - (m : Int)))) } } →
      exec (.reportBath h load volume) s = .next (replied
        (if cond = s.bath.condition ∨ cond = .normal then t
        else if cond = .warn then (t.raise .W .bathWarn none).raise .E .bathWarn none
        else (t.raise .W .bathHalt none).raise .E .bathHalt none) h.port .reportBath .ok
        [.num .load m, .num .volume v, .num .mass (m * v * 10), .correction t.bath.correction,
         .num .code cond.code])) ∧
    (∀ drained added : BitVec 16, Reaches .replenish 0 h s → s.bath.condition = .unknown →
      exec (.replenish h drained added) s = .next (replied s h.port .replenish .bathUnknown [])) ∧
    (∀ (drained added : BitVec 16) (vd va m1 v1 m v load : Nat) (cond : BathCondition) (t : State),
      Reaches .replenish 0 h s → s.bath.condition ≠ .unknown →
      vd = min 9000 drained.toNat → va = min 9000 added.toNat →
      m1 = (if s.bath.volume ≤ vd then 0 else s.bath.mass * (s.bath.volume - vd) / s.bath.volume) →
      v1 = (if s.bath.volume ≤ vd then 0 else s.bath.volume - vd) + va →
      m = (if s.working.line.bathVolMax < v1 then m1 * s.working.line.bathVolMax / v1 else m1) →
      v = min v1 s.working.line.bathVolMax → load = (if v = 0 then 0 else m / (10 * v)) →
      cond = (if v < s.working.line.bathVolMin then .low else if s.working.line.loadStop ≤ load then .spent
        else if s.working.line.loadWarn ≤ load then .warn else .normal) →
      t = { s with bath := { s.bath with mass := m, volume := v, condition := cond } } →
      exec (.replenish h drained added) s = .next (replied
        (if cond = s.bath.condition ∨ cond = .normal then t
        else if cond = .warn then (t.raise .W .bathWarn none).raise .E .bathWarn none
        else (t.raise .W .bathHalt none).raise .E .bathHalt none) h.port .replenish .ok
        [.num .volume vd, .num .volume va, .num .mass m, .num .volume v, .num .load (min 65535 load),
         .num .mass (s.bath.mass - m), .num .code cond.code]))

/-- R107, R144, R145: the overdue expiry flags the pass and its belt record, the drying expiry makes a drawer DRY and starts
its overdry timer, the overdry expiry flags the docket; each raises its notices at the moment it is due. The overdue
expiry falls at the whole second of its expected exit, across the wrap of line time too: the dwell and the time gone since
the feed are taken modulo 2³² s (R184, assumption 16). Where that second is past it falls at the present line time
(assumption 2). -/
def Obligations.WashAndDryerTimersExpire : Prop :=
  (∀ (s v : State) (n : Nat) (b : BeltRecord) (before after : List BeltRecord) (d : Docket) (l : List WashPass)
    (p : WashPass), s.belt = before ++ b :: after → b.docket = n → b.overdueRaised = false →
    (∀ x ∈ before ++ after, x.docket ≠ n) → s.docket n = some d → d.passes = l ++ [p] →
    v = s.pass (s.overdueIn b) →
    ∃ t, exec (.overdueExpiry n) s = .next t ∧ t.docket n = some { d with passes := l ++ [{ p with overdue := true }] } ∧
      (∀ m, m ≠ n → t.docket m = s.docket m) ∧
      t.ports = ((v.raise .W .washOverdue (some n)).raise .E .washOverdue (some n)).ports ∧
      t = { v with slots := t.slots, ports := t.ports, belt := before ++ { b with overdueRaised := true } :: after } ∧
      (∀ dwell gone, s.now < 4294967296000 → b.expectedExit < 4294967296 → b.feedTime < 4294967296 →
        dwell = (b.expectedExit + 4294967296 - b.feedTime) % 4294967296 →
        gone = (s.now / 1000 + 4294967296 - b.feedTime) % 4294967296 →
        (gone < dwell → t.now = b.expectedExit * 1000 ∧ t.micro = 0) ∧
        (gone = dwell → t.now / 1000 = b.expectedExit) ∧
        (dwell ≤ gone → t.now = s.now ∧ t.micro = s.micro))) ∧
  (∀ (s v : State) (i : Fin 8) (n : Nat) (d : Docket) (timer : DrawerTimer), s.drawers[i] = .drying n timer →
    s.docket n = some d → v = s.pass (remainingMs timer.startedAt (timer.seconds * 1000) s.now) →
    ∃ t, exec (.dryingExpiry i) s = .next t ∧
      t.docket n = some { d with sub := .dry, dryEnd := some (v.now / 1000) } ∧
      (∀ m, m ≠ n → t.docket m = s.docket m) ∧ t.ports = (v.raise .F .dryDone (some n)).ports ∧
      t.counters = (v.offer .dried 1 (some (d.recipe, d.cls)) none).counters ∧
      t = { v with
        slots := t.slots, ports := t.ports, counters := t.counters
        drawers := s.drawers.set i (.dry n (if s.working.line.overdryLimit = 0 then none else
          some { startedAt := v.now, seconds := s.working.line.overdryLimit * 60 }) false) }) ∧
  (∀ (s v : State) (i : Fin 8) (n : Nat) (d : Docket) (timer : DrawerTimer) (raised : Bool),
    s.drawers[i] = .dry n (some timer) raised → s.docket n = some d →
    v = s.pass (remainingMs timer.startedAt (timer.seconds * 1000) s.now) →
    ∃ t, exec (.overdryExpiry i) s = .next t ∧ t.docket n = some { d with overdry := true } ∧
      (∀ m, m ≠ n → t.docket m = s.docket m) ∧
      t.ports = ((v.raise .F .overdry (some n)).raise .E .overdry (some n)).ports ∧
      t = { v with slots := t.slots, ports := t.ports, drawers := s.drawers.set i (.dry n none true) })

/-- R143, R146, R147, R149, R141: DRAWER_LOADED starts the drying of a RESERVED drawer's docket, DRAWER_UNLOADED ends its
stay in the dryer, DRAWER_SERVICE takes a drawer out of service and back; the refusals of the three, RANGE for a drawer
number outside 1 to 8 among them. -/
def Obligations.DrawerRequests : Prop :=
  (∀ (h : Hdr) (s : State) (code dir : BitVec 8) (n : BitVec 16), code.toNat = 0 ∨ 8 < code.toNat →
    (Reaches .drawerLoaded 0 h s → exec (.drawerLoaded h code n) s = .next (replied s h.port .drawerLoaded .range [])) ∧
    (Reaches .drawerUnloaded 0 h s →
      exec (.drawerUnloaded h code dir) s = .next (replied s h.port .drawerUnloaded .range [])) ∧
    (Reaches .drawerService 0 h s →
      exec (.drawerServiceOut h code dir) s = .next (replied s h.port .drawerService .range []) ∧
      exec (.drawerServiceIn h code dir) s = .next (replied s h.port .drawerService .range []))) ∧
  ∀ (h : Hdr) (s : State) (code : BitVec 8) (i : Fin 8), code.toNat = i.val + 1 →
    (∀ (n : BitVec 16) (d : Docket) (x : Snapshot), Reaches .drawerLoaded 0 h s → s.docket n.toNat = some d →
      d.snapshot = some x →
      (s.drawers[i] = .reserved n.toNat → exec (.drawerLoaded h code n) s = .next (replied
        { s.updateDocket n.toNat fun y => { y with sub := .drying, dryStart := some (s.now / 1000) } with
          drawers := s.drawers.set i (.drying n.toNat { startedAt := s.now, seconds := x.dryTime * 60 }) }
        h.port .drawerLoaded .ok [.num .code code.toNat, .num .docket n.toNat, .num .time (x.dryTime * 60)])) ∧
      (∀ m, s.drawers[i] = .reserved m → m ≠ n.toNat →
        exec (.drawerLoaded h code n) s = .next (replied s h.port .drawerLoaded .notHere [])) ∧
      ((∀ m, s.drawers[i] ≠ .reserved m) →
        exec (.drawerLoaded h code n) s = .next (replied s h.port .drawerLoaded .wrongState []))) ∧
    (∀ (force : BitVec 8) (n gone : Nat) (d : Docket) (short : Bool) (t u : State), Reaches .drawerUnloaded 0 h s →
      s.docket n = some d → n ∉ s.dryQueue →
      (∃ rest raised, s.drawers[i] = .dry n rest raised ∧ force.toNat ≤ 1 ∧ gone = 0 ∧ short = false) ∨
        (∃ timer, s.drawers[i] = .drying n timer ∧ force = 1 ∧ short = true ∧
          gone = timer.seconds - since timer.startedAt s.now / 1000) →
      t = (if d.scrapMark = some .atUnload then
          { s.updateDocket n fun y =>
              { y with shortDry := y.shortDry || short, drawer := none, state := .scrapped, sub := .none, hold := none } with
            counters := (s.offer .scrapped 1 (some (d.recipe, d.cls)) none).counters }
        else
          { s.updateDocket n fun y =>
              { y with
                shortDry := y.shortDry || short, drawer := none, state := .finishQueued, sub := .none
                unloadOrder := s.nextOrder } with
            finishPool := s.finishPool ++ [n], nextOrder := s.nextOrder + 1 }) →
      u = (if s.working.line.drawers < i.val + 1 then { t with drawers := s.drawers.set i .out }
        else ({ t with drawers := s.drawers.set i .empty } : State).assignDrawers) →
      exec (.drawerUnloaded h code force) s = .next (replied u h.port .drawerUnloaded .ok
        [.num .code code.toNat, .num .docket n, .num .code (if d.scrapMark = some .atUnload then 11 else 7),
         .num .code u.drawers[i].code, .num .time gone,
         .num .flags ((if d.shortDry || short then 1 else 0) + (if d.overdry then 2 else 0))])) ∧
    (∀ (force : BitVec 8) (n : Nat) (timer : DrawerTimer), Reaches .drawerUnloaded 0 h s →
      (1 < force.toNat → exec (.drawerUnloaded h code force) s = .next (replied s h.port .drawerUnloaded .range [])) ∧
      ((s.drawers[i] = .drying n timer ∧ force = 0) ∨ s.drawers[i] = .empty ∨ s.drawers[i] = .out ∨
          s.drawers[i] = .reserved n →
        force.toNat ≤ 1 →
        exec (.drawerUnloaded h code force) s = .next (replied s h.port .drawerUnloaded .wrongState []))) ∧
    (Reaches .drawerService 0 h s →
      (s.drawers[i] = .empty → exec (.drawerServiceOut h code 0) s = .next (replied
        { s with drawers := s.drawers.set i .out } h.port .drawerService .ok [.num .code code.toNat, .num .code 4])) ∧
      (s.drawers[i] ≠ .empty →
        exec (.drawerServiceOut h code 0) s = .next (replied s h.port .drawerService .busy [])) ∧
      (∀ t, s.drawers[i] = .out → t = ({ s with drawers := s.drawers.set i .empty } : State).assignDrawers →
        exec (.drawerServiceIn h code 1) s = .next (replied t h.port .drawerService .ok
          [.num .code code.toNat, .num .code t.drawers[i].code])) ∧
      (s.drawers[i] ≠ .out →
        exec (.drawerServiceIn h code 1) s = .next (replied s h.port .drawerService .wrongState [])) ∧
      (∀ dir : BitVec 8, dir ≠ 0 → dir ≠ 1 →
        exec (.drawerServiceOut h code dir) s = .next (replied s h.port .drawerService .range [])))

/-- R92, R164, R118, R136, R152: what READ_UNIT, READ_FINISHER, READ_WASH, READ_BATH and READ_DRYER answer. None changes
anything. The sub-stage of a VACANT unit or finisher is a free value (assumption 7), DRAWERS goes out in one byte
(the model's choice, assumption 24), and overdry raised as 0 no or 1 yes (the model's choice, assumption 25). -/
def Obligations.ReadingTheLine : Prop :=
  ∀ (h : Hdr) (s : State), TransportAgrees s →
    (∀ (code : BitVec 8) (u : UnitId), Reaches .readUnit 0 h s →
      (code = 1 ∧ u = .A) ∨ (code = 2 ∧ u = .B) →
      exec (.readUnit h code) s = .next (replied s h.port .readUnit .ok
        (.num .code code.toNat :: (match s.unit u with
          | .vacant => [.num .code 0, .opt .docket none, .opt .code (Config.vacantUnitSubStage code.toNat s.now), .opt .code none,
              .opt .code none]
          | .loaded n => [.num .code 1, .opt .docket (some n), .opt .code ((s.docket n).map fun d => d.sub.code),
              .opt .code none, .opt .code none]
          | .running n st => [.num .code 2, .opt .docket (some n), .opt .code ((s.docket n).map fun d => d.sub.code),
              .opt .code (some st.code), .opt .code none]
          | .halted n st r => [.num .code 3, .opt .docket (some n), .opt .code ((s.docket n).map fun d => d.sub.code),
              .opt .code (some st.code), .opt .code (some r.code)]) ++
          [.num .code (s.chan (stageChannel u .back)).state.code,
           .num .code (s.chan (stageChannel u .main)).state.code]))) ∧
    (∀ code : BitVec 8, Reaches .readUnit 0 h s → code ≠ 1 → code ≠ 2 →
      exec (.readUnit h code) s = .next (replied s h.port .readUnit .range [])) ∧
    (Reaches .readFinisher 0 h s → exec (.readFinisher h) s = .next (replied s h.port .readFinisher .ok
      ((match s.finisher with
        | .vacant => [.num .code 0, .opt .docket none, .opt .code (Config.vacantFinisherSubStage s.now), .opt .code none,
            .opt .code none, .opt .code none]
        | .loaded n => [.num .code 1, .opt .docket (some n), .opt .code ((s.docket n).map fun d => d.sub.code),
            .opt .code (some 0), .opt .code (some 0), .opt .code none]
        | .running n c a => [.num .code 2, .opt .docket (some n), .opt .code ((s.docket n).map fun d => d.sub.code),
            .opt .code (some c.code), .opt .code (some a.code), .opt .code none]
        | .halted n c a r => [.num .code 3, .opt .docket (some n), .opt .code ((s.docket n).map fun d => d.sub.code),
            .opt .code (some c.code), .opt .code (some a.code), .opt .code (some r.code)]) ++
        [.num .code (s.chan .FC).state.code, .num .code (s.chan .FA).state.code]))) ∧
    (Reaches .readWash 0 h s → exec (.readWash h) s = .next (replied s h.port .readWash .ok
      ([.num .code s.washQueue.length,
        .num .code (if (if h.port = .W then !s.sstop else s.tpm) then 1 else 0), .opt .speed s.beltSpeed,
        .num .code s.belt.length] ++ s.belt.flatMap fun b =>
          [.num .docket b.docket, .num .time b.feedTime, .num .time b.expectedExit,
           .num .code (if b.overdueRaised then 1 else 0)]))) ∧
    (∀ load : Nat, Reaches .readBath 0 h s → load = (if s.bath.volume = 0 then 0 else s.bath.mass / (10 * s.bath.volume)) →
      exec (.readBath h) s = .next (replied s h.port .readBath .ok
        [.num .mass s.bath.mass, .num .volume s.bath.volume, .num .load (min load 65535),
         .num .code s.bath.condition.code, .num .figure (max 250 (1000 - s.working.line.derate * load / 10)),
         .correction s.bath.correction, .opt .time s.bath.reportedAt])) ∧
    (Reaches .readDryer 0 h s → exec (.readDryer h) s = .next (replied s h.port .readDryer .ok
      ([.num .code s.working.line.drawers, .num .code s.dryQueue.length] ++ (List.finRange 8).flatMap fun i =>
        match s.drawers[i] with
        | .empty => [.num .code 0, .num .code (if i.val < s.working.line.drawers then 1 else 0), .opt .docket none,
            .opt .time none, .opt .time none, .opt .code none]
        | .reserved n => [.num .code 1, .num .code (if i.val < s.working.line.drawers then 1 else 0),
            .opt .docket (some n), .opt .time none, .opt .time none, .opt .code none]
        | .drying n t => [.num .code 2, .num .code (if i.val < s.working.line.drawers then 1 else 0),
            .opt .docket (some n), .opt .time (some (t.seconds - since t.startedAt s.now / 1000)), .opt .time none,
            .opt .code none]
        | .dry n t r => [.num .code 3, .num .code (if i.val < s.working.line.drawers then 1 else 0),
            .opt .docket (some n), .opt .time none,
            .opt .time (t.map fun x => x.seconds - since x.startedAt s.now / 1000),
            .opt .code (some (if r then 1 else 0))]
        | .out => [.num .code 4, .num .code 0, .opt .docket none, .opt .time none, .opt .time none, .opt .code none])))

/-! ## Whole-machine invariants -/

/-- R48, R70, R116, R167: every step, whatever command it takes, keeps the lamp permits, the darkness under SSTOP, the
transport permit and the attention lines in agreement with the records that drive them. -/
def Obligations.EveryStepKeepsTheLinesAgreeing : Prop :=
  ∀ s t : State, LinesAgree s → step s = .next t → LinesAgree t

/-- R1, R165, R97, R98, R122, R141, R184, R76, R153: every step keeps live numbers unique, notices at the ports they are
routed to, the belt speed with the belt, the bath condition with its account, no docket waiting for a free drawer, line
time in its range, and each unit and the finisher RUNNING exactly while their channels are EXPOSING for their docket. -/
def Obligations.EveryStepKeepsTheRecordsAgreeing : Prop :=
  ∀ s t : State, step s = .next t →
    (NumbersUnique s → NumbersUnique t) ∧ (NoticesRouted s → NoticesRouted t) ∧ (BeltAgrees s → BeltAgrees t) ∧
    (BathAgrees s → BathAgrees t) ∧ (DrawersGiven s → DrawersGiven t) ∧ (ClockInRange s → ClockInRange t) ∧
    (OwnersAgree s → OwnersAgree t)

/-- R31, R34, R35, R37, R39: every step keeps each recipe figure, setting and level, in the working copy, the image and a
store in flight, inside its range. -/
def Obligations.EveryStepKeepsTheSettingsInRange : Prop :=
  ∀ s t : State, SettingsInRange s → step s = .next t → SettingsInRange t

/-- The invariants hold right after reset. The state is `State.reset`, whose unwritten image, RATE low and SSTOP released are
the model's choice of a first reset (assumption 5). -/
def Obligations.ResetMeetsTheInvariants : Prop :=
  LinesAgree State.reset ∧ NumbersUnique State.reset ∧ NoticesRouted State.reset ∧ BeltAgrees State.reset ∧
  BathAgrees State.reset ∧ DrawersGiven State.reset ∧ ClockInRange State.reset ∧ OwnersAgree State.reset ∧
  SettingsInRange State.reset

/-! ## Frames -/

/-- R178, R180, R181: the bytes of every well-formed whole request are read back as that request, whatever its operands.
SET_LAMP_REF's value of 3 bytes (assumption 12), the form and direction codes that two commands of one request carry
(assumption 14), the finisher's own STOP, RESUME and RETURN (assumption 15) and the SKEY level that STORE carries beside
its frame (assumption 5) are the model's. -/
def Obligations.FramesAreReadBack : Prop :=
  ∀ (i : Instr) (r : Request) (p : Port) (fields frame : List Byte),
    wellFormed i = true → wholeFrame i = true → fieldsOf i = some (r, p, fields) → encodeFrame i = some frame →
    commandOfFrame p (skeyOf i) frame = some i

/-- R181: the bytes of an answer's fields. Most significant byte first; an absent field is FFh throughout, and a present
value that would read so is sent less 1, for a correction too (the model's reading, assumption 13); a correction is
two's complement and 8000h when absent. A value too wide for its field keeps the field's width (its bytes are a free
value, assumption 8). -/
def Obligations.FieldBytes : Prop :=
  (∀ (t : FieldType) (v : Nat), v < 256 ^ t.width → (Field.num t v).bytes.length = t.width ∧
    ((Field.num t v).bytes.foldl (fun a b => a * 256 + b.toNat) 0 = v)) ∧
  (∀ t : FieldType, (Field.opt t none).bytes = List.replicate t.width 0xFF) ∧
  (∀ (t : FieldType) (v : Nat), v < 256 ^ t.width →
    (Field.opt t (some v)).bytes = (Field.num t (min v (256 ^ t.width - 2))).bytes ∧
    (Field.opt t (some v)).bytes ≠ (Field.opt t none).bytes) ∧
  (Field.correction none).bytes = [0x80, 0x00] ∧
  (∀ (t : FieldType) (v : Nat), (Field.num t v).bytes.length = t.width ∧
    (Field.opt t (some v)).bytes.length = t.width) ∧
  (Field.correction (some (-1))).bytes = [0xFF, 0xFE] ∧
  (∀ v : Int, -32767 ≤ v → v ≤ 32767 → v ≠ -1 →
    (Field.correction (some v)).bytes.foldl (fun (a : Nat) b => a * 256 + b.toNat) 0 = (v % 65536).toNat) ∧
  (∀ name : List Byte, name.length ≤ 12 →
    (Field.name name).bytes = BitVec.ofNat 8 name.length :: name)
end

