-- ==== Sys2Proof/Laws/State.lean ====
section
/-! SUPPORT. What each update of State leaves in each field, and reading back a table entry just written. -/

namespace Sys2Proof.Machine

variable (s : State)

@[simp] theorem State.setPort_now (p : Port) (r : PortRecord) : (s.setPort p r).now = s.now := rfl
@[simp] theorem State.setPort_micro (p : Port) (r : PortRecord) : (s.setPort p r).micro = s.micro := rfl
@[simp] theorem State.setPort_sstop (p : Port) (r : PortRecord) : (s.setPort p r).sstop = s.sstop := rfl
@[simp] theorem State.setPort_rateHigh (p : Port) (r : PortRecord) : (s.setPort p r).rateHigh = s.rateHigh := rfl
@[simp] theorem State.setPort_tpm (p : Port) (r : PortRecord) : (s.setPort p r).tpm = s.tpm := rfl
@[simp] theorem State.setPort_ports (p : Port) (r : PortRecord) : (s.setPort p r).ports = s.ports.set p r := rfl
@[simp] theorem State.setPort_slots (p : Port) (r : PortRecord) : (s.setPort p r).slots = s.slots := rfl
@[simp] theorem State.setPort_nextNumber (p : Port) (r : PortRecord) : (s.setPort p r).nextNumber = s.nextNumber := rfl
@[simp] theorem State.setPort_nextOrder (p : Port) (r : PortRecord) : (s.setPort p r).nextOrder = s.nextOrder := rfl
@[simp] theorem State.setPort_exposurePool (p : Port) (r : PortRecord) : (s.setPort p r).exposurePool = s.exposurePool := rfl
@[simp] theorem State.setPort_finishPool (p : Port) (r : PortRecord) : (s.setPort p r).finishPool = s.finishPool := rfl
@[simp] theorem State.setPort_working (p : Port) (r : PortRecord) : (s.setPort p r).working = s.working := rfl
@[simp] theorem State.setPort_store (p : Port) (r : PortRecord) : (s.setPort p r).store = s.store := rfl
@[simp] theorem State.setPort_channels (p : Port) (r : PortRecord) : (s.setPort p r).channels = s.channels := rfl
@[simp] theorem State.setPort_units (p : Port) (r : PortRecord) : (s.setPort p r).units = s.units := rfl
@[simp] theorem State.setPort_finisher (p : Port) (r : PortRecord) : (s.setPort p r).finisher = s.finisher := rfl
@[simp] theorem State.setPort_washQueue (p : Port) (r : PortRecord) : (s.setPort p r).washQueue = s.washQueue := rfl
@[simp] theorem State.setPort_belt (p : Port) (r : PortRecord) : (s.setPort p r).belt = s.belt := rfl
@[simp] theorem State.setPort_beltSpeed (p : Port) (r : PortRecord) : (s.setPort p r).beltSpeed = s.beltSpeed := rfl
@[simp] theorem State.setPort_bath (p : Port) (r : PortRecord) : (s.setPort p r).bath = s.bath := rfl
@[simp] theorem State.setPort_drawers (p : Port) (r : PortRecord) : (s.setPort p r).drawers = s.drawers := rfl
@[simp] theorem State.setPort_dryQueue (p : Port) (r : PortRecord) : (s.setPort p r).dryQueue = s.dryQueue := rfl
@[simp] theorem State.setPort_counters (p : Port) (r : PortRecord) : (s.setPort p r).counters = s.counters := rfl
@[simp] theorem State.setPort_pending (p : Port) (r : PortRecord) : (s.setPort p r).pending = s.pending := rfl

@[simp] theorem State.setChan_now (c : ChannelId) (r : Channel) : (s.setChan c r).now = s.now := rfl
@[simp] theorem State.setChan_micro (c : ChannelId) (r : Channel) : (s.setChan c r).micro = s.micro := rfl
@[simp] theorem State.setChan_sstop (c : ChannelId) (r : Channel) : (s.setChan c r).sstop = s.sstop := rfl
@[simp] theorem State.setChan_rateHigh (c : ChannelId) (r : Channel) : (s.setChan c r).rateHigh = s.rateHigh := rfl
@[simp] theorem State.setChan_tpm (c : ChannelId) (r : Channel) : (s.setChan c r).tpm = s.tpm := rfl
@[simp] theorem State.setChan_ports (c : ChannelId) (r : Channel) : (s.setChan c r).ports = s.ports := rfl
@[simp] theorem State.setChan_slots (c : ChannelId) (r : Channel) : (s.setChan c r).slots = s.slots := rfl
@[simp] theorem State.setChan_nextNumber (c : ChannelId) (r : Channel) : (s.setChan c r).nextNumber = s.nextNumber := rfl
@[simp] theorem State.setChan_nextOrder (c : ChannelId) (r : Channel) : (s.setChan c r).nextOrder = s.nextOrder := rfl
@[simp] theorem State.setChan_exposurePool (c : ChannelId) (r : Channel) : (s.setChan c r).exposurePool = s.exposurePool := rfl
@[simp] theorem State.setChan_finishPool (c : ChannelId) (r : Channel) : (s.setChan c r).finishPool = s.finishPool := rfl
@[simp] theorem State.setChan_working (c : ChannelId) (r : Channel) : (s.setChan c r).working = s.working := rfl
@[simp] theorem State.setChan_store (c : ChannelId) (r : Channel) : (s.setChan c r).store = s.store := rfl
@[simp] theorem State.setChan_channels (c : ChannelId) (r : Channel) : (s.setChan c r).channels = s.channels.set c r := rfl
@[simp] theorem State.setChan_units (c : ChannelId) (r : Channel) : (s.setChan c r).units = s.units := rfl
@[simp] theorem State.setChan_finisher (c : ChannelId) (r : Channel) : (s.setChan c r).finisher = s.finisher := rfl
@[simp] theorem State.setChan_washQueue (c : ChannelId) (r : Channel) : (s.setChan c r).washQueue = s.washQueue := rfl
@[simp] theorem State.setChan_belt (c : ChannelId) (r : Channel) : (s.setChan c r).belt = s.belt := rfl
@[simp] theorem State.setChan_beltSpeed (c : ChannelId) (r : Channel) : (s.setChan c r).beltSpeed = s.beltSpeed := rfl
@[simp] theorem State.setChan_bath (c : ChannelId) (r : Channel) : (s.setChan c r).bath = s.bath := rfl
@[simp] theorem State.setChan_drawers (c : ChannelId) (r : Channel) : (s.setChan c r).drawers = s.drawers := rfl
@[simp] theorem State.setChan_dryQueue (c : ChannelId) (r : Channel) : (s.setChan c r).dryQueue = s.dryQueue := rfl
@[simp] theorem State.setChan_counters (c : ChannelId) (r : Channel) : (s.setChan c r).counters = s.counters := rfl
@[simp] theorem State.setChan_pending (c : ChannelId) (r : Channel) : (s.setChan c r).pending = s.pending := rfl

@[simp] theorem State.setUnit_now (u : UnitId) (r : UnitRecord) : (s.setUnit u r).now = s.now := rfl
@[simp] theorem State.setUnit_micro (u : UnitId) (r : UnitRecord) : (s.setUnit u r).micro = s.micro := rfl
@[simp] theorem State.setUnit_sstop (u : UnitId) (r : UnitRecord) : (s.setUnit u r).sstop = s.sstop := rfl
@[simp] theorem State.setUnit_rateHigh (u : UnitId) (r : UnitRecord) : (s.setUnit u r).rateHigh = s.rateHigh := rfl
@[simp] theorem State.setUnit_tpm (u : UnitId) (r : UnitRecord) : (s.setUnit u r).tpm = s.tpm := rfl
@[simp] theorem State.setUnit_ports (u : UnitId) (r : UnitRecord) : (s.setUnit u r).ports = s.ports := rfl
@[simp] theorem State.setUnit_slots (u : UnitId) (r : UnitRecord) : (s.setUnit u r).slots = s.slots := rfl
@[simp] theorem State.setUnit_nextNumber (u : UnitId) (r : UnitRecord) : (s.setUnit u r).nextNumber = s.nextNumber := rfl
@[simp] theorem State.setUnit_nextOrder (u : UnitId) (r : UnitRecord) : (s.setUnit u r).nextOrder = s.nextOrder := rfl
@[simp] theorem State.setUnit_exposurePool (u : UnitId) (r : UnitRecord) : (s.setUnit u r).exposurePool = s.exposurePool := rfl
@[simp] theorem State.setUnit_finishPool (u : UnitId) (r : UnitRecord) : (s.setUnit u r).finishPool = s.finishPool := rfl
@[simp] theorem State.setUnit_working (u : UnitId) (r : UnitRecord) : (s.setUnit u r).working = s.working := rfl
@[simp] theorem State.setUnit_store (u : UnitId) (r : UnitRecord) : (s.setUnit u r).store = s.store := rfl
@[simp] theorem State.setUnit_channels (u : UnitId) (r : UnitRecord) : (s.setUnit u r).channels = s.channels := rfl
@[simp] theorem State.setUnit_units (u : UnitId) (r : UnitRecord) : (s.setUnit u r).units = s.units.set u r := rfl
@[simp] theorem State.setUnit_finisher (u : UnitId) (r : UnitRecord) : (s.setUnit u r).finisher = s.finisher := rfl
@[simp] theorem State.setUnit_washQueue (u : UnitId) (r : UnitRecord) : (s.setUnit u r).washQueue = s.washQueue := rfl
@[simp] theorem State.setUnit_belt (u : UnitId) (r : UnitRecord) : (s.setUnit u r).belt = s.belt := rfl
@[simp] theorem State.setUnit_beltSpeed (u : UnitId) (r : UnitRecord) : (s.setUnit u r).beltSpeed = s.beltSpeed := rfl
@[simp] theorem State.setUnit_bath (u : UnitId) (r : UnitRecord) : (s.setUnit u r).bath = s.bath := rfl
@[simp] theorem State.setUnit_drawers (u : UnitId) (r : UnitRecord) : (s.setUnit u r).drawers = s.drawers := rfl
@[simp] theorem State.setUnit_dryQueue (u : UnitId) (r : UnitRecord) : (s.setUnit u r).dryQueue = s.dryQueue := rfl
@[simp] theorem State.setUnit_counters (u : UnitId) (r : UnitRecord) : (s.setUnit u r).counters = s.counters := rfl
@[simp] theorem State.setUnit_pending (u : UnitId) (r : UnitRecord) : (s.setUnit u r).pending = s.pending := rfl

@[simp] theorem State.setFinisher_now (r : FinisherRecord) : (s.setFinisher r).now = s.now := rfl
@[simp] theorem State.setFinisher_micro (r : FinisherRecord) : (s.setFinisher r).micro = s.micro := rfl
@[simp] theorem State.setFinisher_sstop (r : FinisherRecord) : (s.setFinisher r).sstop = s.sstop := rfl
@[simp] theorem State.setFinisher_rateHigh (r : FinisherRecord) : (s.setFinisher r).rateHigh = s.rateHigh := rfl
@[simp] theorem State.setFinisher_tpm (r : FinisherRecord) : (s.setFinisher r).tpm = s.tpm := rfl
@[simp] theorem State.setFinisher_ports (r : FinisherRecord) : (s.setFinisher r).ports = s.ports := rfl
@[simp] theorem State.setFinisher_slots (r : FinisherRecord) : (s.setFinisher r).slots = s.slots := rfl
@[simp] theorem State.setFinisher_nextNumber (r : FinisherRecord) : (s.setFinisher r).nextNumber = s.nextNumber := rfl
@[simp] theorem State.setFinisher_nextOrder (r : FinisherRecord) : (s.setFinisher r).nextOrder = s.nextOrder := rfl
@[simp] theorem State.setFinisher_exposurePool (r : FinisherRecord) : (s.setFinisher r).exposurePool = s.exposurePool := rfl
@[simp] theorem State.setFinisher_finishPool (r : FinisherRecord) : (s.setFinisher r).finishPool = s.finishPool := rfl
@[simp] theorem State.setFinisher_working (r : FinisherRecord) : (s.setFinisher r).working = s.working := rfl
@[simp] theorem State.setFinisher_store (r : FinisherRecord) : (s.setFinisher r).store = s.store := rfl
@[simp] theorem State.setFinisher_channels (r : FinisherRecord) : (s.setFinisher r).channels = s.channels := rfl
@[simp] theorem State.setFinisher_units (r : FinisherRecord) : (s.setFinisher r).units = s.units := rfl
@[simp] theorem State.setFinisher_finisher (r : FinisherRecord) : (s.setFinisher r).finisher = r := rfl
@[simp] theorem State.setFinisher_washQueue (r : FinisherRecord) : (s.setFinisher r).washQueue = s.washQueue := rfl
@[simp] theorem State.setFinisher_belt (r : FinisherRecord) : (s.setFinisher r).belt = s.belt := rfl
@[simp] theorem State.setFinisher_beltSpeed (r : FinisherRecord) : (s.setFinisher r).beltSpeed = s.beltSpeed := rfl
@[simp] theorem State.setFinisher_bath (r : FinisherRecord) : (s.setFinisher r).bath = s.bath := rfl
@[simp] theorem State.setFinisher_drawers (r : FinisherRecord) : (s.setFinisher r).drawers = s.drawers := rfl
@[simp] theorem State.setFinisher_dryQueue (r : FinisherRecord) : (s.setFinisher r).dryQueue = s.dryQueue := rfl
@[simp] theorem State.setFinisher_counters (r : FinisherRecord) : (s.setFinisher r).counters = s.counters := rfl
@[simp] theorem State.setFinisher_pending (r : FinisherRecord) : (s.setFinisher r).pending = s.pending := rfl

@[simp] theorem State.setSlots_now (v : Vector (Option Docket) 48) : (s.setSlots v).now = s.now := rfl
@[simp] theorem State.setSlots_micro (v : Vector (Option Docket) 48) : (s.setSlots v).micro = s.micro := rfl
@[simp] theorem State.setSlots_sstop (v : Vector (Option Docket) 48) : (s.setSlots v).sstop = s.sstop := rfl
@[simp] theorem State.setSlots_rateHigh (v : Vector (Option Docket) 48) : (s.setSlots v).rateHigh = s.rateHigh := rfl
@[simp] theorem State.setSlots_tpm (v : Vector (Option Docket) 48) : (s.setSlots v).tpm = s.tpm := rfl
@[simp] theorem State.setSlots_ports (v : Vector (Option Docket) 48) : (s.setSlots v).ports = s.ports := rfl
@[simp] theorem State.setSlots_slots (v : Vector (Option Docket) 48) : (s.setSlots v).slots = v := rfl
@[simp] theorem State.setSlots_nextNumber (v : Vector (Option Docket) 48) : (s.setSlots v).nextNumber = s.nextNumber := rfl
@[simp] theorem State.setSlots_nextOrder (v : Vector (Option Docket) 48) : (s.setSlots v).nextOrder = s.nextOrder := rfl
@[simp] theorem State.setSlots_exposurePool (v : Vector (Option Docket) 48) : (s.setSlots v).exposurePool = s.exposurePool := rfl
@[simp] theorem State.setSlots_finishPool (v : Vector (Option Docket) 48) : (s.setSlots v).finishPool = s.finishPool := rfl
@[simp] theorem State.setSlots_working (v : Vector (Option Docket) 48) : (s.setSlots v).working = s.working := rfl
@[simp] theorem State.setSlots_store (v : Vector (Option Docket) 48) : (s.setSlots v).store = s.store := rfl
@[simp] theorem State.setSlots_channels (v : Vector (Option Docket) 48) : (s.setSlots v).channels = s.channels := rfl
@[simp] theorem State.setSlots_units (v : Vector (Option Docket) 48) : (s.setSlots v).units = s.units := rfl
@[simp] theorem State.setSlots_finisher (v : Vector (Option Docket) 48) : (s.setSlots v).finisher = s.finisher := rfl
@[simp] theorem State.setSlots_washQueue (v : Vector (Option Docket) 48) : (s.setSlots v).washQueue = s.washQueue := rfl
@[simp] theorem State.setSlots_belt (v : Vector (Option Docket) 48) : (s.setSlots v).belt = s.belt := rfl
@[simp] theorem State.setSlots_beltSpeed (v : Vector (Option Docket) 48) : (s.setSlots v).beltSpeed = s.beltSpeed := rfl
@[simp] theorem State.setSlots_bath (v : Vector (Option Docket) 48) : (s.setSlots v).bath = s.bath := rfl
@[simp] theorem State.setSlots_drawers (v : Vector (Option Docket) 48) : (s.setSlots v).drawers = s.drawers := rfl
@[simp] theorem State.setSlots_dryQueue (v : Vector (Option Docket) 48) : (s.setSlots v).dryQueue = s.dryQueue := rfl
@[simp] theorem State.setSlots_counters (v : Vector (Option Docket) 48) : (s.setSlots v).counters = s.counters := rfl
@[simp] theorem State.setSlots_pending (v : Vector (Option Docket) 48) : (s.setSlots v).pending = s.pending := rfl

@[simp] theorem State.setExposurePool_now (q : List Nat) : (s.setExposurePool q).now = s.now := rfl
@[simp] theorem State.setExposurePool_micro (q : List Nat) : (s.setExposurePool q).micro = s.micro := rfl
@[simp] theorem State.setExposurePool_sstop (q : List Nat) : (s.setExposurePool q).sstop = s.sstop := rfl
@[simp] theorem State.setExposurePool_rateHigh (q : List Nat) : (s.setExposurePool q).rateHigh = s.rateHigh := rfl
@[simp] theorem State.setExposurePool_tpm (q : List Nat) : (s.setExposurePool q).tpm = s.tpm := rfl
@[simp] theorem State.setExposurePool_ports (q : List Nat) : (s.setExposurePool q).ports = s.ports := rfl
@[simp] theorem State.setExposurePool_slots (q : List Nat) : (s.setExposurePool q).slots = s.slots := rfl
@[simp] theorem State.setExposurePool_nextNumber (q : List Nat) : (s.setExposurePool q).nextNumber = s.nextNumber := rfl
@[simp] theorem State.setExposurePool_nextOrder (q : List Nat) : (s.setExposurePool q).nextOrder = s.nextOrder := rfl
@[simp] theorem State.setExposurePool_exposurePool (q : List Nat) : (s.setExposurePool q).exposurePool = q := rfl
@[simp] theorem State.setExposurePool_finishPool (q : List Nat) : (s.setExposurePool q).finishPool = s.finishPool := rfl
@[simp] theorem State.setExposurePool_working (q : List Nat) : (s.setExposurePool q).working = s.working := rfl
@[simp] theorem State.setExposurePool_store (q : List Nat) : (s.setExposurePool q).store = s.store := rfl
@[simp] theorem State.setExposurePool_channels (q : List Nat) : (s.setExposurePool q).channels = s.channels := rfl
@[simp] theorem State.setExposurePool_units (q : List Nat) : (s.setExposurePool q).units = s.units := rfl
@[simp] theorem State.setExposurePool_finisher (q : List Nat) : (s.setExposurePool q).finisher = s.finisher := rfl
@[simp] theorem State.setExposurePool_washQueue (q : List Nat) : (s.setExposurePool q).washQueue = s.washQueue := rfl
@[simp] theorem State.setExposurePool_belt (q : List Nat) : (s.setExposurePool q).belt = s.belt := rfl
@[simp] theorem State.setExposurePool_beltSpeed (q : List Nat) : (s.setExposurePool q).beltSpeed = s.beltSpeed := rfl
@[simp] theorem State.setExposurePool_bath (q : List Nat) : (s.setExposurePool q).bath = s.bath := rfl
@[simp] theorem State.setExposurePool_drawers (q : List Nat) : (s.setExposurePool q).drawers = s.drawers := rfl
@[simp] theorem State.setExposurePool_dryQueue (q : List Nat) : (s.setExposurePool q).dryQueue = s.dryQueue := rfl
@[simp] theorem State.setExposurePool_counters (q : List Nat) : (s.setExposurePool q).counters = s.counters := rfl
@[simp] theorem State.setExposurePool_pending (q : List Nat) : (s.setExposurePool q).pending = s.pending := rfl

@[simp] theorem State.setFinishPool_now (q : List Nat) : (s.setFinishPool q).now = s.now := rfl
@[simp] theorem State.setFinishPool_micro (q : List Nat) : (s.setFinishPool q).micro = s.micro := rfl
@[simp] theorem State.setFinishPool_sstop (q : List Nat) : (s.setFinishPool q).sstop = s.sstop := rfl
@[simp] theorem State.setFinishPool_rateHigh (q : List Nat) : (s.setFinishPool q).rateHigh = s.rateHigh := rfl
@[simp] theorem State.setFinishPool_tpm (q : List Nat) : (s.setFinishPool q).tpm = s.tpm := rfl
@[simp] theorem State.setFinishPool_ports (q : List Nat) : (s.setFinishPool q).ports = s.ports := rfl
@[simp] theorem State.setFinishPool_slots (q : List Nat) : (s.setFinishPool q).slots = s.slots := rfl
@[simp] theorem State.setFinishPool_nextNumber (q : List Nat) : (s.setFinishPool q).nextNumber = s.nextNumber := rfl
@[simp] theorem State.setFinishPool_nextOrder (q : List Nat) : (s.setFinishPool q).nextOrder = s.nextOrder := rfl
@[simp] theorem State.setFinishPool_exposurePool (q : List Nat) : (s.setFinishPool q).exposurePool = s.exposurePool := rfl
@[simp] theorem State.setFinishPool_finishPool (q : List Nat) : (s.setFinishPool q).finishPool = q := rfl
@[simp] theorem State.setFinishPool_working (q : List Nat) : (s.setFinishPool q).working = s.working := rfl
@[simp] theorem State.setFinishPool_store (q : List Nat) : (s.setFinishPool q).store = s.store := rfl
@[simp] theorem State.setFinishPool_channels (q : List Nat) : (s.setFinishPool q).channels = s.channels := rfl
@[simp] theorem State.setFinishPool_units (q : List Nat) : (s.setFinishPool q).units = s.units := rfl
@[simp] theorem State.setFinishPool_finisher (q : List Nat) : (s.setFinishPool q).finisher = s.finisher := rfl
@[simp] theorem State.setFinishPool_washQueue (q : List Nat) : (s.setFinishPool q).washQueue = s.washQueue := rfl
@[simp] theorem State.setFinishPool_belt (q : List Nat) : (s.setFinishPool q).belt = s.belt := rfl
@[simp] theorem State.setFinishPool_beltSpeed (q : List Nat) : (s.setFinishPool q).beltSpeed = s.beltSpeed := rfl
@[simp] theorem State.setFinishPool_bath (q : List Nat) : (s.setFinishPool q).bath = s.bath := rfl
@[simp] theorem State.setFinishPool_drawers (q : List Nat) : (s.setFinishPool q).drawers = s.drawers := rfl
@[simp] theorem State.setFinishPool_dryQueue (q : List Nat) : (s.setFinishPool q).dryQueue = s.dryQueue := rfl
@[simp] theorem State.setFinishPool_counters (q : List Nat) : (s.setFinishPool q).counters = s.counters := rfl
@[simp] theorem State.setFinishPool_pending (q : List Nat) : (s.setFinishPool q).pending = s.pending := rfl

@[simp] theorem State.setWashQueue_now (q : List Nat) : (s.setWashQueue q).now = s.now := rfl
@[simp] theorem State.setWashQueue_micro (q : List Nat) : (s.setWashQueue q).micro = s.micro := rfl
@[simp] theorem State.setWashQueue_sstop (q : List Nat) : (s.setWashQueue q).sstop = s.sstop := rfl
@[simp] theorem State.setWashQueue_rateHigh (q : List Nat) : (s.setWashQueue q).rateHigh = s.rateHigh := rfl
@[simp] theorem State.setWashQueue_tpm (q : List Nat) : (s.setWashQueue q).tpm = s.tpm := rfl
@[simp] theorem State.setWashQueue_ports (q : List Nat) : (s.setWashQueue q).ports = s.ports := rfl
@[simp] theorem State.setWashQueue_slots (q : List Nat) : (s.setWashQueue q).slots = s.slots := rfl
@[simp] theorem State.setWashQueue_nextNumber (q : List Nat) : (s.setWashQueue q).nextNumber = s.nextNumber := rfl
@[simp] theorem State.setWashQueue_nextOrder (q : List Nat) : (s.setWashQueue q).nextOrder = s.nextOrder := rfl
@[simp] theorem State.setWashQueue_exposurePool (q : List Nat) : (s.setWashQueue q).exposurePool = s.exposurePool := rfl
@[simp] theorem State.setWashQueue_finishPool (q : List Nat) : (s.setWashQueue q).finishPool = s.finishPool := rfl
@[simp] theorem State.setWashQueue_working (q : List Nat) : (s.setWashQueue q).working = s.working := rfl
@[simp] theorem State.setWashQueue_store (q : List Nat) : (s.setWashQueue q).store = s.store := rfl
@[simp] theorem State.setWashQueue_channels (q : List Nat) : (s.setWashQueue q).channels = s.channels := rfl
@[simp] theorem State.setWashQueue_units (q : List Nat) : (s.setWashQueue q).units = s.units := rfl
@[simp] theorem State.setWashQueue_finisher (q : List Nat) : (s.setWashQueue q).finisher = s.finisher := rfl
@[simp] theorem State.setWashQueue_washQueue (q : List Nat) : (s.setWashQueue q).washQueue = q := rfl
@[simp] theorem State.setWashQueue_belt (q : List Nat) : (s.setWashQueue q).belt = s.belt := rfl
@[simp] theorem State.setWashQueue_beltSpeed (q : List Nat) : (s.setWashQueue q).beltSpeed = s.beltSpeed := rfl
@[simp] theorem State.setWashQueue_bath (q : List Nat) : (s.setWashQueue q).bath = s.bath := rfl
@[simp] theorem State.setWashQueue_drawers (q : List Nat) : (s.setWashQueue q).drawers = s.drawers := rfl
@[simp] theorem State.setWashQueue_dryQueue (q : List Nat) : (s.setWashQueue q).dryQueue = s.dryQueue := rfl
@[simp] theorem State.setWashQueue_counters (q : List Nat) : (s.setWashQueue q).counters = s.counters := rfl
@[simp] theorem State.setWashQueue_pending (q : List Nat) : (s.setWashQueue q).pending = s.pending := rfl

@[simp] theorem State.setDryQueue_now (q : List Nat) : (s.setDryQueue q).now = s.now := rfl
@[simp] theorem State.setDryQueue_micro (q : List Nat) : (s.setDryQueue q).micro = s.micro := rfl
@[simp] theorem State.setDryQueue_sstop (q : List Nat) : (s.setDryQueue q).sstop = s.sstop := rfl
@[simp] theorem State.setDryQueue_rateHigh (q : List Nat) : (s.setDryQueue q).rateHigh = s.rateHigh := rfl
@[simp] theorem State.setDryQueue_tpm (q : List Nat) : (s.setDryQueue q).tpm = s.tpm := rfl
@[simp] theorem State.setDryQueue_ports (q : List Nat) : (s.setDryQueue q).ports = s.ports := rfl
@[simp] theorem State.setDryQueue_slots (q : List Nat) : (s.setDryQueue q).slots = s.slots := rfl
@[simp] theorem State.setDryQueue_nextNumber (q : List Nat) : (s.setDryQueue q).nextNumber = s.nextNumber := rfl
@[simp] theorem State.setDryQueue_nextOrder (q : List Nat) : (s.setDryQueue q).nextOrder = s.nextOrder := rfl
@[simp] theorem State.setDryQueue_exposurePool (q : List Nat) : (s.setDryQueue q).exposurePool = s.exposurePool := rfl
@[simp] theorem State.setDryQueue_finishPool (q : List Nat) : (s.setDryQueue q).finishPool = s.finishPool := rfl
@[simp] theorem State.setDryQueue_working (q : List Nat) : (s.setDryQueue q).working = s.working := rfl
@[simp] theorem State.setDryQueue_store (q : List Nat) : (s.setDryQueue q).store = s.store := rfl
@[simp] theorem State.setDryQueue_channels (q : List Nat) : (s.setDryQueue q).channels = s.channels := rfl
@[simp] theorem State.setDryQueue_units (q : List Nat) : (s.setDryQueue q).units = s.units := rfl
@[simp] theorem State.setDryQueue_finisher (q : List Nat) : (s.setDryQueue q).finisher = s.finisher := rfl
@[simp] theorem State.setDryQueue_washQueue (q : List Nat) : (s.setDryQueue q).washQueue = s.washQueue := rfl
@[simp] theorem State.setDryQueue_belt (q : List Nat) : (s.setDryQueue q).belt = s.belt := rfl
@[simp] theorem State.setDryQueue_beltSpeed (q : List Nat) : (s.setDryQueue q).beltSpeed = s.beltSpeed := rfl
@[simp] theorem State.setDryQueue_bath (q : List Nat) : (s.setDryQueue q).bath = s.bath := rfl
@[simp] theorem State.setDryQueue_drawers (q : List Nat) : (s.setDryQueue q).drawers = s.drawers := rfl
@[simp] theorem State.setDryQueue_dryQueue (q : List Nat) : (s.setDryQueue q).dryQueue = q := rfl
@[simp] theorem State.setDryQueue_counters (q : List Nat) : (s.setDryQueue q).counters = s.counters := rfl
@[simp] theorem State.setDryQueue_pending (q : List Nat) : (s.setDryQueue q).pending = s.pending := rfl

@[simp] theorem State.setBelt_now (b : List BeltRecord) (v : Option Nat) : (s.setBelt b v).now = s.now := rfl
@[simp] theorem State.setBelt_micro (b : List BeltRecord) (v : Option Nat) : (s.setBelt b v).micro = s.micro := rfl
@[simp] theorem State.setBelt_sstop (b : List BeltRecord) (v : Option Nat) : (s.setBelt b v).sstop = s.sstop := rfl
@[simp] theorem State.setBelt_rateHigh (b : List BeltRecord) (v : Option Nat) : (s.setBelt b v).rateHigh = s.rateHigh := rfl
@[simp] theorem State.setBelt_tpm (b : List BeltRecord) (v : Option Nat) : (s.setBelt b v).tpm = s.tpm := rfl
@[simp] theorem State.setBelt_ports (b : List BeltRecord) (v : Option Nat) : (s.setBelt b v).ports = s.ports := rfl
@[simp] theorem State.setBelt_slots (b : List BeltRecord) (v : Option Nat) : (s.setBelt b v).slots = s.slots := rfl
@[simp] theorem State.setBelt_nextNumber (b : List BeltRecord) (v : Option Nat) : (s.setBelt b v).nextNumber = s.nextNumber := rfl
@[simp] theorem State.setBelt_nextOrder (b : List BeltRecord) (v : Option Nat) : (s.setBelt b v).nextOrder = s.nextOrder := rfl
@[simp] theorem State.setBelt_exposurePool (b : List BeltRecord) (v : Option Nat) : (s.setBelt b v).exposurePool = s.exposurePool := rfl
@[simp] theorem State.setBelt_finishPool (b : List BeltRecord) (v : Option Nat) : (s.setBelt b v).finishPool = s.finishPool := rfl
@[simp] theorem State.setBelt_working (b : List BeltRecord) (v : Option Nat) : (s.setBelt b v).working = s.working := rfl
@[simp] theorem State.setBelt_store (b : List BeltRecord) (v : Option Nat) : (s.setBelt b v).store = s.store := rfl
@[simp] theorem State.setBelt_channels (b : List BeltRecord) (v : Option Nat) : (s.setBelt b v).channels = s.channels := rfl
@[simp] theorem State.setBelt_units (b : List BeltRecord) (v : Option Nat) : (s.setBelt b v).units = s.units := rfl
@[simp] theorem State.setBelt_finisher (b : List BeltRecord) (v : Option Nat) : (s.setBelt b v).finisher = s.finisher := rfl
@[simp] theorem State.setBelt_washQueue (b : List BeltRecord) (v : Option Nat) : (s.setBelt b v).washQueue = s.washQueue := rfl
@[simp] theorem State.setBelt_belt (b : List BeltRecord) (v : Option Nat) : (s.setBelt b v).belt = b := rfl
@[simp] theorem State.setBelt_beltSpeed (b : List BeltRecord) (v : Option Nat) : (s.setBelt b v).beltSpeed = v := rfl
@[simp] theorem State.setBelt_bath (b : List BeltRecord) (v : Option Nat) : (s.setBelt b v).bath = s.bath := rfl
@[simp] theorem State.setBelt_drawers (b : List BeltRecord) (v : Option Nat) : (s.setBelt b v).drawers = s.drawers := rfl
@[simp] theorem State.setBelt_dryQueue (b : List BeltRecord) (v : Option Nat) : (s.setBelt b v).dryQueue = s.dryQueue := rfl
@[simp] theorem State.setBelt_counters (b : List BeltRecord) (v : Option Nat) : (s.setBelt b v).counters = s.counters := rfl
@[simp] theorem State.setBelt_pending (b : List BeltRecord) (v : Option Nat) : (s.setBelt b v).pending = s.pending := rfl

@[simp] theorem State.setBath_now (b : Bath) : (s.setBath b).now = s.now := rfl
@[simp] theorem State.setBath_micro (b : Bath) : (s.setBath b).micro = s.micro := rfl
@[simp] theorem State.setBath_sstop (b : Bath) : (s.setBath b).sstop = s.sstop := rfl
@[simp] theorem State.setBath_rateHigh (b : Bath) : (s.setBath b).rateHigh = s.rateHigh := rfl
@[simp] theorem State.setBath_tpm (b : Bath) : (s.setBath b).tpm = s.tpm := rfl
@[simp] theorem State.setBath_ports (b : Bath) : (s.setBath b).ports = s.ports := rfl
@[simp] theorem State.setBath_slots (b : Bath) : (s.setBath b).slots = s.slots := rfl
@[simp] theorem State.setBath_nextNumber (b : Bath) : (s.setBath b).nextNumber = s.nextNumber := rfl
@[simp] theorem State.setBath_nextOrder (b : Bath) : (s.setBath b).nextOrder = s.nextOrder := rfl
@[simp] theorem State.setBath_exposurePool (b : Bath) : (s.setBath b).exposurePool = s.exposurePool := rfl
@[simp] theorem State.setBath_finishPool (b : Bath) : (s.setBath b).finishPool = s.finishPool := rfl
@[simp] theorem State.setBath_working (b : Bath) : (s.setBath b).working = s.working := rfl
@[simp] theorem State.setBath_store (b : Bath) : (s.setBath b).store = s.store := rfl
@[simp] theorem State.setBath_channels (b : Bath) : (s.setBath b).channels = s.channels := rfl
@[simp] theorem State.setBath_units (b : Bath) : (s.setBath b).units = s.units := rfl
@[simp] theorem State.setBath_finisher (b : Bath) : (s.setBath b).finisher = s.finisher := rfl
@[simp] theorem State.setBath_washQueue (b : Bath) : (s.setBath b).washQueue = s.washQueue := rfl
@[simp] theorem State.setBath_belt (b : Bath) : (s.setBath b).belt = s.belt := rfl
@[simp] theorem State.setBath_beltSpeed (b : Bath) : (s.setBath b).beltSpeed = s.beltSpeed := rfl
@[simp] theorem State.setBath_bath (b : Bath) : (s.setBath b).bath = b := rfl
@[simp] theorem State.setBath_drawers (b : Bath) : (s.setBath b).drawers = s.drawers := rfl
@[simp] theorem State.setBath_dryQueue (b : Bath) : (s.setBath b).dryQueue = s.dryQueue := rfl
@[simp] theorem State.setBath_counters (b : Bath) : (s.setBath b).counters = s.counters := rfl
@[simp] theorem State.setBath_pending (b : Bath) : (s.setBath b).pending = s.pending := rfl

@[simp] theorem State.setDrawers_now (v : Vector Drawer 8) : (s.setDrawers v).now = s.now := rfl
@[simp] theorem State.setDrawers_micro (v : Vector Drawer 8) : (s.setDrawers v).micro = s.micro := rfl
@[simp] theorem State.setDrawers_sstop (v : Vector Drawer 8) : (s.setDrawers v).sstop = s.sstop := rfl
@[simp] theorem State.setDrawers_rateHigh (v : Vector Drawer 8) : (s.setDrawers v).rateHigh = s.rateHigh := rfl
@[simp] theorem State.setDrawers_tpm (v : Vector Drawer 8) : (s.setDrawers v).tpm = s.tpm := rfl
@[simp] theorem State.setDrawers_ports (v : Vector Drawer 8) : (s.setDrawers v).ports = s.ports := rfl
@[simp] theorem State.setDrawers_slots (v : Vector Drawer 8) : (s.setDrawers v).slots = s.slots := rfl
@[simp] theorem State.setDrawers_nextNumber (v : Vector Drawer 8) : (s.setDrawers v).nextNumber = s.nextNumber := rfl
@[simp] theorem State.setDrawers_nextOrder (v : Vector Drawer 8) : (s.setDrawers v).nextOrder = s.nextOrder := rfl
@[simp] theorem State.setDrawers_exposurePool (v : Vector Drawer 8) : (s.setDrawers v).exposurePool = s.exposurePool := rfl
@[simp] theorem State.setDrawers_finishPool (v : Vector Drawer 8) : (s.setDrawers v).finishPool = s.finishPool := rfl
@[simp] theorem State.setDrawers_working (v : Vector Drawer 8) : (s.setDrawers v).working = s.working := rfl
@[simp] theorem State.setDrawers_store (v : Vector Drawer 8) : (s.setDrawers v).store = s.store := rfl
@[simp] theorem State.setDrawers_channels (v : Vector Drawer 8) : (s.setDrawers v).channels = s.channels := rfl
@[simp] theorem State.setDrawers_units (v : Vector Drawer 8) : (s.setDrawers v).units = s.units := rfl
@[simp] theorem State.setDrawers_finisher (v : Vector Drawer 8) : (s.setDrawers v).finisher = s.finisher := rfl
@[simp] theorem State.setDrawers_washQueue (v : Vector Drawer 8) : (s.setDrawers v).washQueue = s.washQueue := rfl
@[simp] theorem State.setDrawers_belt (v : Vector Drawer 8) : (s.setDrawers v).belt = s.belt := rfl
@[simp] theorem State.setDrawers_beltSpeed (v : Vector Drawer 8) : (s.setDrawers v).beltSpeed = s.beltSpeed := rfl
@[simp] theorem State.setDrawers_bath (v : Vector Drawer 8) : (s.setDrawers v).bath = s.bath := rfl
@[simp] theorem State.setDrawers_drawers (v : Vector Drawer 8) : (s.setDrawers v).drawers = v := rfl
@[simp] theorem State.setDrawers_dryQueue (v : Vector Drawer 8) : (s.setDrawers v).dryQueue = s.dryQueue := rfl
@[simp] theorem State.setDrawers_counters (v : Vector Drawer 8) : (s.setDrawers v).counters = s.counters := rfl
@[simp] theorem State.setDrawers_pending (v : Vector Drawer 8) : (s.setDrawers v).pending = s.pending := rfl

@[simp] theorem State.setCounters_now (v : Vector LineCounter 4) : (s.setCounters v).now = s.now := rfl
@[simp] theorem State.setCounters_micro (v : Vector LineCounter 4) : (s.setCounters v).micro = s.micro := rfl
@[simp] theorem State.setCounters_sstop (v : Vector LineCounter 4) : (s.setCounters v).sstop = s.sstop := rfl
@[simp] theorem State.setCounters_rateHigh (v : Vector LineCounter 4) : (s.setCounters v).rateHigh = s.rateHigh := rfl
@[simp] theorem State.setCounters_tpm (v : Vector LineCounter 4) : (s.setCounters v).tpm = s.tpm := rfl
@[simp] theorem State.setCounters_ports (v : Vector LineCounter 4) : (s.setCounters v).ports = s.ports := rfl
@[simp] theorem State.setCounters_slots (v : Vector LineCounter 4) : (s.setCounters v).slots = s.slots := rfl
@[simp] theorem State.setCounters_nextNumber (v : Vector LineCounter 4) : (s.setCounters v).nextNumber = s.nextNumber := rfl
@[simp] theorem State.setCounters_nextOrder (v : Vector LineCounter 4) : (s.setCounters v).nextOrder = s.nextOrder := rfl
@[simp] theorem State.setCounters_exposurePool (v : Vector LineCounter 4) : (s.setCounters v).exposurePool = s.exposurePool := rfl
@[simp] theorem State.setCounters_finishPool (v : Vector LineCounter 4) : (s.setCounters v).finishPool = s.finishPool := rfl
@[simp] theorem State.setCounters_working (v : Vector LineCounter 4) : (s.setCounters v).working = s.working := rfl
@[simp] theorem State.setCounters_store (v : Vector LineCounter 4) : (s.setCounters v).store = s.store := rfl
@[simp] theorem State.setCounters_channels (v : Vector LineCounter 4) : (s.setCounters v).channels = s.channels := rfl
@[simp] theorem State.setCounters_units (v : Vector LineCounter 4) : (s.setCounters v).units = s.units := rfl
@[simp] theorem State.setCounters_finisher (v : Vector LineCounter 4) : (s.setCounters v).finisher = s.finisher := rfl
@[simp] theorem State.setCounters_washQueue (v : Vector LineCounter 4) : (s.setCounters v).washQueue = s.washQueue := rfl
@[simp] theorem State.setCounters_belt (v : Vector LineCounter 4) : (s.setCounters v).belt = s.belt := rfl
@[simp] theorem State.setCounters_beltSpeed (v : Vector LineCounter 4) : (s.setCounters v).beltSpeed = s.beltSpeed := rfl
@[simp] theorem State.setCounters_bath (v : Vector LineCounter 4) : (s.setCounters v).bath = s.bath := rfl
@[simp] theorem State.setCounters_drawers (v : Vector LineCounter 4) : (s.setCounters v).drawers = s.drawers := rfl
@[simp] theorem State.setCounters_dryQueue (v : Vector LineCounter 4) : (s.setCounters v).dryQueue = s.dryQueue := rfl
@[simp] theorem State.setCounters_counters (v : Vector LineCounter 4) : (s.setCounters v).counters = v := rfl
@[simp] theorem State.setCounters_pending (v : Vector LineCounter 4) : (s.setCounters v).pending = s.pending := rfl

@[simp] theorem State.setWorking_now (w : WorkingCopy) : (s.setWorking w).now = s.now := rfl
@[simp] theorem State.setWorking_micro (w : WorkingCopy) : (s.setWorking w).micro = s.micro := rfl
@[simp] theorem State.setWorking_sstop (w : WorkingCopy) : (s.setWorking w).sstop = s.sstop := rfl
@[simp] theorem State.setWorking_rateHigh (w : WorkingCopy) : (s.setWorking w).rateHigh = s.rateHigh := rfl
@[simp] theorem State.setWorking_tpm (w : WorkingCopy) : (s.setWorking w).tpm = s.tpm := rfl
@[simp] theorem State.setWorking_ports (w : WorkingCopy) : (s.setWorking w).ports = s.ports := rfl
@[simp] theorem State.setWorking_slots (w : WorkingCopy) : (s.setWorking w).slots = s.slots := rfl
@[simp] theorem State.setWorking_nextNumber (w : WorkingCopy) : (s.setWorking w).nextNumber = s.nextNumber := rfl
@[simp] theorem State.setWorking_nextOrder (w : WorkingCopy) : (s.setWorking w).nextOrder = s.nextOrder := rfl
@[simp] theorem State.setWorking_exposurePool (w : WorkingCopy) : (s.setWorking w).exposurePool = s.exposurePool := rfl
@[simp] theorem State.setWorking_finishPool (w : WorkingCopy) : (s.setWorking w).finishPool = s.finishPool := rfl
@[simp] theorem State.setWorking_working (w : WorkingCopy) : (s.setWorking w).working = w := rfl
@[simp] theorem State.setWorking_store (w : WorkingCopy) : (s.setWorking w).store = s.store := rfl
@[simp] theorem State.setWorking_channels (w : WorkingCopy) : (s.setWorking w).channels = s.channels := rfl
@[simp] theorem State.setWorking_units (w : WorkingCopy) : (s.setWorking w).units = s.units := rfl
@[simp] theorem State.setWorking_finisher (w : WorkingCopy) : (s.setWorking w).finisher = s.finisher := rfl
@[simp] theorem State.setWorking_washQueue (w : WorkingCopy) : (s.setWorking w).washQueue = s.washQueue := rfl
@[simp] theorem State.setWorking_belt (w : WorkingCopy) : (s.setWorking w).belt = s.belt := rfl
@[simp] theorem State.setWorking_beltSpeed (w : WorkingCopy) : (s.setWorking w).beltSpeed = s.beltSpeed := rfl
@[simp] theorem State.setWorking_bath (w : WorkingCopy) : (s.setWorking w).bath = s.bath := rfl
@[simp] theorem State.setWorking_drawers (w : WorkingCopy) : (s.setWorking w).drawers = s.drawers := rfl
@[simp] theorem State.setWorking_dryQueue (w : WorkingCopy) : (s.setWorking w).dryQueue = s.dryQueue := rfl
@[simp] theorem State.setWorking_counters (w : WorkingCopy) : (s.setWorking w).counters = s.counters := rfl
@[simp] theorem State.setWorking_pending (w : WorkingCopy) : (s.setWorking w).pending = s.pending := rfl

@[simp] theorem State.setStore_now (x : Store) : (s.setStore x).now = s.now := rfl
@[simp] theorem State.setStore_micro (x : Store) : (s.setStore x).micro = s.micro := rfl
@[simp] theorem State.setStore_sstop (x : Store) : (s.setStore x).sstop = s.sstop := rfl
@[simp] theorem State.setStore_rateHigh (x : Store) : (s.setStore x).rateHigh = s.rateHigh := rfl
@[simp] theorem State.setStore_tpm (x : Store) : (s.setStore x).tpm = s.tpm := rfl
@[simp] theorem State.setStore_ports (x : Store) : (s.setStore x).ports = s.ports := rfl
@[simp] theorem State.setStore_slots (x : Store) : (s.setStore x).slots = s.slots := rfl
@[simp] theorem State.setStore_nextNumber (x : Store) : (s.setStore x).nextNumber = s.nextNumber := rfl
@[simp] theorem State.setStore_nextOrder (x : Store) : (s.setStore x).nextOrder = s.nextOrder := rfl
@[simp] theorem State.setStore_exposurePool (x : Store) : (s.setStore x).exposurePool = s.exposurePool := rfl
@[simp] theorem State.setStore_finishPool (x : Store) : (s.setStore x).finishPool = s.finishPool := rfl
@[simp] theorem State.setStore_working (x : Store) : (s.setStore x).working = s.working := rfl
@[simp] theorem State.setStore_store (x : Store) : (s.setStore x).store = x := rfl
@[simp] theorem State.setStore_channels (x : Store) : (s.setStore x).channels = s.channels := rfl
@[simp] theorem State.setStore_units (x : Store) : (s.setStore x).units = s.units := rfl
@[simp] theorem State.setStore_finisher (x : Store) : (s.setStore x).finisher = s.finisher := rfl
@[simp] theorem State.setStore_washQueue (x : Store) : (s.setStore x).washQueue = s.washQueue := rfl
@[simp] theorem State.setStore_belt (x : Store) : (s.setStore x).belt = s.belt := rfl
@[simp] theorem State.setStore_beltSpeed (x : Store) : (s.setStore x).beltSpeed = s.beltSpeed := rfl
@[simp] theorem State.setStore_bath (x : Store) : (s.setStore x).bath = s.bath := rfl
@[simp] theorem State.setStore_drawers (x : Store) : (s.setStore x).drawers = s.drawers := rfl
@[simp] theorem State.setStore_dryQueue (x : Store) : (s.setStore x).dryQueue = s.dryQueue := rfl
@[simp] theorem State.setStore_counters (x : Store) : (s.setStore x).counters = s.counters := rfl
@[simp] theorem State.setStore_pending (x : Store) : (s.setStore x).pending = s.pending := rfl

@[simp] theorem State.setTpm_now (b : Bool) : (s.setTpm b).now = s.now := rfl
@[simp] theorem State.setTpm_micro (b : Bool) : (s.setTpm b).micro = s.micro := rfl
@[simp] theorem State.setTpm_sstop (b : Bool) : (s.setTpm b).sstop = s.sstop := rfl
@[simp] theorem State.setTpm_rateHigh (b : Bool) : (s.setTpm b).rateHigh = s.rateHigh := rfl
@[simp] theorem State.setTpm_tpm (b : Bool) : (s.setTpm b).tpm = b := rfl
@[simp] theorem State.setTpm_ports (b : Bool) : (s.setTpm b).ports = s.ports := rfl
@[simp] theorem State.setTpm_slots (b : Bool) : (s.setTpm b).slots = s.slots := rfl
@[simp] theorem State.setTpm_nextNumber (b : Bool) : (s.setTpm b).nextNumber = s.nextNumber := rfl
@[simp] theorem State.setTpm_nextOrder (b : Bool) : (s.setTpm b).nextOrder = s.nextOrder := rfl
@[simp] theorem State.setTpm_exposurePool (b : Bool) : (s.setTpm b).exposurePool = s.exposurePool := rfl
@[simp] theorem State.setTpm_finishPool (b : Bool) : (s.setTpm b).finishPool = s.finishPool := rfl
@[simp] theorem State.setTpm_working (b : Bool) : (s.setTpm b).working = s.working := rfl
@[simp] theorem State.setTpm_store (b : Bool) : (s.setTpm b).store = s.store := rfl
@[simp] theorem State.setTpm_channels (b : Bool) : (s.setTpm b).channels = s.channels := rfl
@[simp] theorem State.setTpm_units (b : Bool) : (s.setTpm b).units = s.units := rfl
@[simp] theorem State.setTpm_finisher (b : Bool) : (s.setTpm b).finisher = s.finisher := rfl
@[simp] theorem State.setTpm_washQueue (b : Bool) : (s.setTpm b).washQueue = s.washQueue := rfl
@[simp] theorem State.setTpm_belt (b : Bool) : (s.setTpm b).belt = s.belt := rfl
@[simp] theorem State.setTpm_beltSpeed (b : Bool) : (s.setTpm b).beltSpeed = s.beltSpeed := rfl
@[simp] theorem State.setTpm_bath (b : Bool) : (s.setTpm b).bath = s.bath := rfl
@[simp] theorem State.setTpm_drawers (b : Bool) : (s.setTpm b).drawers = s.drawers := rfl
@[simp] theorem State.setTpm_dryQueue (b : Bool) : (s.setTpm b).dryQueue = s.dryQueue := rfl
@[simp] theorem State.setTpm_counters (b : Bool) : (s.setTpm b).counters = s.counters := rfl
@[simp] theorem State.setTpm_pending (b : Bool) : (s.setTpm b).pending = s.pending := rfl

@[simp] theorem State.setPending_now (q : List Instr) : (s.setPending q).now = s.now := rfl
@[simp] theorem State.setPending_micro (q : List Instr) : (s.setPending q).micro = s.micro := rfl
@[simp] theorem State.setPending_sstop (q : List Instr) : (s.setPending q).sstop = s.sstop := rfl
@[simp] theorem State.setPending_rateHigh (q : List Instr) : (s.setPending q).rateHigh = s.rateHigh := rfl
@[simp] theorem State.setPending_tpm (q : List Instr) : (s.setPending q).tpm = s.tpm := rfl
@[simp] theorem State.setPending_ports (q : List Instr) : (s.setPending q).ports = s.ports := rfl
@[simp] theorem State.setPending_slots (q : List Instr) : (s.setPending q).slots = s.slots := rfl
@[simp] theorem State.setPending_nextNumber (q : List Instr) : (s.setPending q).nextNumber = s.nextNumber := rfl
@[simp] theorem State.setPending_nextOrder (q : List Instr) : (s.setPending q).nextOrder = s.nextOrder := rfl
@[simp] theorem State.setPending_exposurePool (q : List Instr) : (s.setPending q).exposurePool = s.exposurePool := rfl
@[simp] theorem State.setPending_finishPool (q : List Instr) : (s.setPending q).finishPool = s.finishPool := rfl
@[simp] theorem State.setPending_working (q : List Instr) : (s.setPending q).working = s.working := rfl
@[simp] theorem State.setPending_store (q : List Instr) : (s.setPending q).store = s.store := rfl
@[simp] theorem State.setPending_channels (q : List Instr) : (s.setPending q).channels = s.channels := rfl
@[simp] theorem State.setPending_units (q : List Instr) : (s.setPending q).units = s.units := rfl
@[simp] theorem State.setPending_finisher (q : List Instr) : (s.setPending q).finisher = s.finisher := rfl
@[simp] theorem State.setPending_washQueue (q : List Instr) : (s.setPending q).washQueue = s.washQueue := rfl
@[simp] theorem State.setPending_belt (q : List Instr) : (s.setPending q).belt = s.belt := rfl
@[simp] theorem State.setPending_beltSpeed (q : List Instr) : (s.setPending q).beltSpeed = s.beltSpeed := rfl
@[simp] theorem State.setPending_bath (q : List Instr) : (s.setPending q).bath = s.bath := rfl
@[simp] theorem State.setPending_drawers (q : List Instr) : (s.setPending q).drawers = s.drawers := rfl
@[simp] theorem State.setPending_dryQueue (q : List Instr) : (s.setPending q).dryQueue = s.dryQueue := rfl
@[simp] theorem State.setPending_counters (q : List Instr) : (s.setPending q).counters = s.counters := rfl
@[simp] theorem State.setPending_pending (q : List Instr) : (s.setPending q).pending = q := rfl

/-! ## Tables -/

@[simp] theorem PerPort.get_set {α : Type} (t : PerPort α) (p q : Port) (x : α) :
    (t.set p x).get q = if q = p then x else t.get q := by cases p <;> cases q <;> rfl

@[simp] theorem PerPort.get_map {α β : Type} (f : α → β) (t : PerPort α) (p : Port) :
    (t.map f).get p = f (t.get p) := by cases p <;> rfl

@[simp] theorem PerChannel.get_set {α : Type} (t : PerChannel α) (c d : ChannelId) (x : α) :
    (t.set c x).get d = if d = c then x else t.get d := by cases c <;> cases d <;> rfl

@[simp] theorem PerChannel.get_map {α β : Type} (f : α → β) (t : PerChannel α) (c : ChannelId) :
    (t.map f).get c = f (t.get c) := by cases c <;> rfl

@[simp] theorem PerUnit.get_set {α : Type} (t : PerUnit α) (u v : UnitId) (x : α) :
    (t.set u x).get v = if v = u then x else t.get v := by cases u <;> cases v <;> rfl

@[simp] theorem getElem_mapAll {α β : Type} {n : Nat} (f : α → β) (v : Vector α n) (i : Nat) (h : i < n) :
    (mapAll f v)[i] = f v[i] := by simp [mapAll]

/-! ## A port, channel or unit after an update -/

@[simp] theorem State.setPort_port (p q : Port) (r : PortRecord) :
    (s.setPort p r).port q = if q = p then r else s.port q := by simp [State.port]

@[simp] theorem State.setChan_chan (c d : ChannelId) (r : Channel) :
    (s.setChan c r).chan d = if d = c then r else s.chan d := by simp [State.chan]

@[simp] theorem State.setUnit_unit (u v : UnitId) (r : UnitRecord) :
    (s.setUnit u r).unit v = if v = u then r else s.unit v := by simp [State.unit]

@[simp] theorem State.setPort_chan (p : Port) (r : PortRecord) (x : ChannelId) : (s.setPort p r).chan x = s.chan x := rfl
@[simp] theorem State.setPort_unit (p : Port) (r : PortRecord) (x : UnitId) : (s.setPort p r).unit x = s.unit x := rfl
@[simp] theorem State.setPort_docket (p : Port) (r : PortRecord) (n : Nat) : (s.setPort p r).docket n = s.docket n := rfl
@[simp] theorem State.setPort_seconds (p : Port) (r : PortRecord) : (s.setPort p r).seconds = s.seconds := rfl

@[simp] theorem State.setChan_port (c : ChannelId) (r : Channel) (x : Port) : (s.setChan c r).port x = s.port x := rfl
@[simp] theorem State.setChan_unit (c : ChannelId) (r : Channel) (x : UnitId) : (s.setChan c r).unit x = s.unit x := rfl
@[simp] theorem State.setChan_docket (c : ChannelId) (r : Channel) (n : Nat) : (s.setChan c r).docket n = s.docket n := rfl
@[simp] theorem State.setChan_seconds (c : ChannelId) (r : Channel) : (s.setChan c r).seconds = s.seconds := rfl

@[simp] theorem State.setUnit_port (u : UnitId) (r : UnitRecord) (x : Port) : (s.setUnit u r).port x = s.port x := rfl
@[simp] theorem State.setUnit_chan (u : UnitId) (r : UnitRecord) (x : ChannelId) : (s.setUnit u r).chan x = s.chan x := rfl
@[simp] theorem State.setUnit_docket (u : UnitId) (r : UnitRecord) (n : Nat) : (s.setUnit u r).docket n = s.docket n := rfl
@[simp] theorem State.setUnit_seconds (u : UnitId) (r : UnitRecord) : (s.setUnit u r).seconds = s.seconds := rfl

@[simp] theorem State.setFinisher_port (r : FinisherRecord) (x : Port) : (s.setFinisher r).port x = s.port x := rfl
@[simp] theorem State.setFinisher_chan (r : FinisherRecord) (x : ChannelId) : (s.setFinisher r).chan x = s.chan x := rfl
@[simp] theorem State.setFinisher_unit (r : FinisherRecord) (x : UnitId) : (s.setFinisher r).unit x = s.unit x := rfl
@[simp] theorem State.setFinisher_docket (r : FinisherRecord) (n : Nat) : (s.setFinisher r).docket n = s.docket n := rfl
@[simp] theorem State.setFinisher_seconds (r : FinisherRecord) : (s.setFinisher r).seconds = s.seconds := rfl

@[simp] theorem State.setSlots_port (v : Vector (Option Docket) 48) (x : Port) : (s.setSlots v).port x = s.port x := rfl
@[simp] theorem State.setSlots_chan (v : Vector (Option Docket) 48) (x : ChannelId) : (s.setSlots v).chan x = s.chan x := rfl
@[simp] theorem State.setSlots_unit (v : Vector (Option Docket) 48) (x : UnitId) : (s.setSlots v).unit x = s.unit x := rfl
@[simp] theorem State.setSlots_seconds (v : Vector (Option Docket) 48) : (s.setSlots v).seconds = s.seconds := rfl

@[simp] theorem State.setExposurePool_port (q : List Nat) (x : Port) : (s.setExposurePool q).port x = s.port x := rfl
@[simp] theorem State.setExposurePool_chan (q : List Nat) (x : ChannelId) : (s.setExposurePool q).chan x = s.chan x := rfl
@[simp] theorem State.setExposurePool_unit (q : List Nat) (x : UnitId) : (s.setExposurePool q).unit x = s.unit x := rfl
@[simp] theorem State.setExposurePool_docket (q : List Nat) (n : Nat) : (s.setExposurePool q).docket n = s.docket n := rfl
@[simp] theorem State.setExposurePool_seconds (q : List Nat) : (s.setExposurePool q).seconds = s.seconds := rfl

@[simp] theorem State.setFinishPool_port (q : List Nat) (x : Port) : (s.setFinishPool q).port x = s.port x := rfl
@[simp] theorem State.setFinishPool_chan (q : List Nat) (x : ChannelId) : (s.setFinishPool q).chan x = s.chan x := rfl
@[simp] theorem State.setFinishPool_unit (q : List Nat) (x : UnitId) : (s.setFinishPool q).unit x = s.unit x := rfl
@[simp] theorem State.setFinishPool_docket (q : List Nat) (n : Nat) : (s.setFinishPool q).docket n = s.docket n := rfl
@[simp] theorem State.setFinishPool_seconds (q : List Nat) : (s.setFinishPool q).seconds = s.seconds := rfl

@[simp] theorem State.setWashQueue_port (q : List Nat) (x : Port) : (s.setWashQueue q).port x = s.port x := rfl
@[simp] theorem State.setWashQueue_chan (q : List Nat) (x : ChannelId) : (s.setWashQueue q).chan x = s.chan x := rfl
@[simp] theorem State.setWashQueue_unit (q : List Nat) (x : UnitId) : (s.setWashQueue q).unit x = s.unit x := rfl
@[simp] theorem State.setWashQueue_docket (q : List Nat) (n : Nat) : (s.setWashQueue q).docket n = s.docket n := rfl
@[simp] theorem State.setWashQueue_seconds (q : List Nat) : (s.setWashQueue q).seconds = s.seconds := rfl

@[simp] theorem State.setDryQueue_port (q : List Nat) (x : Port) : (s.setDryQueue q).port x = s.port x := rfl
@[simp] theorem State.setDryQueue_chan (q : List Nat) (x : ChannelId) : (s.setDryQueue q).chan x = s.chan x := rfl
@[simp] theorem State.setDryQueue_unit (q : List Nat) (x : UnitId) : (s.setDryQueue q).unit x = s.unit x := rfl
@[simp] theorem State.setDryQueue_docket (q : List Nat) (n : Nat) : (s.setDryQueue q).docket n = s.docket n := rfl
@[simp] theorem State.setDryQueue_seconds (q : List Nat) : (s.setDryQueue q).seconds = s.seconds := rfl

@[simp] theorem State.setBelt_port (b : List BeltRecord) (v : Option Nat) (x : Port) : (s.setBelt b v).port x = s.port x := rfl
@[simp] theorem State.setBelt_chan (b : List BeltRecord) (v : Option Nat) (x : ChannelId) : (s.setBelt b v).chan x = s.chan x := rfl
@[simp] theorem State.setBelt_unit (b : List BeltRecord) (v : Option Nat) (x : UnitId) : (s.setBelt b v).unit x = s.unit x := rfl
@[simp] theorem State.setBelt_docket (b : List BeltRecord) (v : Option Nat) (n : Nat) : (s.setBelt b v).docket n = s.docket n := rfl
@[simp] theorem State.setBelt_seconds (b : List BeltRecord) (v : Option Nat) : (s.setBelt b v).seconds = s.seconds := rfl

@[simp] theorem State.setBath_port (b : Bath) (x : Port) : (s.setBath b).port x = s.port x := rfl
@[simp] theorem State.setBath_chan (b : Bath) (x : ChannelId) : (s.setBath b).chan x = s.chan x := rfl
@[simp] theorem State.setBath_unit (b : Bath) (x : UnitId) : (s.setBath b).unit x = s.unit x := rfl
@[simp] theorem State.setBath_docket (b : Bath) (n : Nat) : (s.setBath b).docket n = s.docket n := rfl
@[simp] theorem State.setBath_seconds (b : Bath) : (s.setBath b).seconds = s.seconds := rfl

@[simp] theorem State.setDrawers_port (v : Vector Drawer 8) (x : Port) : (s.setDrawers v).port x = s.port x := rfl
@[simp] theorem State.setDrawers_chan (v : Vector Drawer 8) (x : ChannelId) : (s.setDrawers v).chan x = s.chan x := rfl
@[simp] theorem State.setDrawers_unit (v : Vector Drawer 8) (x : UnitId) : (s.setDrawers v).unit x = s.unit x := rfl
@[simp] theorem State.setDrawers_docket (v : Vector Drawer 8) (n : Nat) : (s.setDrawers v).docket n = s.docket n := rfl
@[simp] theorem State.setDrawers_seconds (v : Vector Drawer 8) : (s.setDrawers v).seconds = s.seconds := rfl

@[simp] theorem State.setCounters_port (v : Vector LineCounter 4) (x : Port) : (s.setCounters v).port x = s.port x := rfl
@[simp] theorem State.setCounters_chan (v : Vector LineCounter 4) (x : ChannelId) : (s.setCounters v).chan x = s.chan x := rfl
@[simp] theorem State.setCounters_unit (v : Vector LineCounter 4) (x : UnitId) : (s.setCounters v).unit x = s.unit x := rfl
@[simp] theorem State.setCounters_docket (v : Vector LineCounter 4) (n : Nat) : (s.setCounters v).docket n = s.docket n := rfl
@[simp] theorem State.setCounters_seconds (v : Vector LineCounter 4) : (s.setCounters v).seconds = s.seconds := rfl

@[simp] theorem State.setWorking_port (w : WorkingCopy) (x : Port) : (s.setWorking w).port x = s.port x := rfl
@[simp] theorem State.setWorking_chan (w : WorkingCopy) (x : ChannelId) : (s.setWorking w).chan x = s.chan x := rfl
@[simp] theorem State.setWorking_unit (w : WorkingCopy) (x : UnitId) : (s.setWorking w).unit x = s.unit x := rfl
@[simp] theorem State.setWorking_docket (w : WorkingCopy) (n : Nat) : (s.setWorking w).docket n = s.docket n := rfl
@[simp] theorem State.setWorking_seconds (w : WorkingCopy) : (s.setWorking w).seconds = s.seconds := rfl

@[simp] theorem State.setStore_port (y : Store) (x : Port) : (s.setStore y).port x = s.port x := rfl
@[simp] theorem State.setStore_chan (y : Store) (x : ChannelId) : (s.setStore y).chan x = s.chan x := rfl
@[simp] theorem State.setStore_unit (y : Store) (x : UnitId) : (s.setStore y).unit x = s.unit x := rfl
@[simp] theorem State.setStore_docket (x : Store) (n : Nat) : (s.setStore x).docket n = s.docket n := rfl
@[simp] theorem State.setStore_seconds (x : Store) : (s.setStore x).seconds = s.seconds := rfl

@[simp] theorem State.setTpm_port (b : Bool) (x : Port) : (s.setTpm b).port x = s.port x := rfl
@[simp] theorem State.setTpm_chan (b : Bool) (x : ChannelId) : (s.setTpm b).chan x = s.chan x := rfl
@[simp] theorem State.setTpm_unit (b : Bool) (x : UnitId) : (s.setTpm b).unit x = s.unit x := rfl
@[simp] theorem State.setTpm_docket (b : Bool) (n : Nat) : (s.setTpm b).docket n = s.docket n := rfl
@[simp] theorem State.setTpm_seconds (b : Bool) : (s.setTpm b).seconds = s.seconds := rfl

@[simp] theorem State.setPending_port (q : List Instr) (x : Port) : (s.setPending q).port x = s.port x := rfl
@[simp] theorem State.setPending_chan (q : List Instr) (x : ChannelId) : (s.setPending q).chan x = s.chan x := rfl
@[simp] theorem State.setPending_unit (q : List Instr) (x : UnitId) : (s.setPending q).unit x = s.unit x := rfl
@[simp] theorem State.setPending_docket (q : List Instr) (n : Nat) : (s.setPending q).docket n = s.docket n := rfl
@[simp] theorem State.setPending_seconds (q : List Instr) : (s.setPending q).seconds = s.seconds := rfl

end Sys2Proof.Machine
end

