-- ==== Sys2Proof/Laws/Frames.lean ====
section
/-! SUPPORT. What each shared operation leaves alone: one frame lemma per operation, every field it does not touch. -/

namespace Sys2Proof.Machine

/-- A fold keeps what each of its steps keeps. -/
theorem foldl_keeps {α β γ : Type} (g : α → γ) (f : α → β → α) (h : ∀ a b, g (f a b) = g a) (l : List β) (a : α) :
    g (l.foldl f a) = g a := by
  induction l generalizing a with
  | nil => rfl
  | cons b l ih => simp [List.foldl_cons, ih, h]

@[simp] theorem State.raise_frame (s : State) (p : Port) (k : NoticeKind) (n : Option Nat) :
    (s.raise p k n).now = s.now ∧ (s.raise p k n).micro = s.micro ∧
    (s.raise p k n).sstop = s.sstop ∧ (s.raise p k n).rateHigh = s.rateHigh ∧
    (s.raise p k n).tpm = s.tpm ∧ (s.raise p k n).slots = s.slots ∧ (s.raise p k n).nextNumber = s.nextNumber ∧
    (s.raise p k n).nextOrder = s.nextOrder ∧ (s.raise p k n).exposurePool = s.exposurePool ∧
    (s.raise p k n).finishPool = s.finishPool ∧ (s.raise p k n).working = s.working ∧
    (s.raise p k n).store = s.store ∧ (s.raise p k n).channels = s.channels ∧ (s.raise p k n).units = s.units ∧
    (s.raise p k n).finisher = s.finisher ∧ (s.raise p k n).washQueue = s.washQueue ∧ (s.raise p k n).belt = s.belt ∧
    (s.raise p k n).beltSpeed = s.beltSpeed ∧ (s.raise p k n).bath = s.bath ∧ (s.raise p k n).drawers = s.drawers ∧
    (s.raise p k n).dryQueue = s.dryQueue ∧ (s.raise p k n).counters = s.counters ∧
    (s.raise p k n).pending = s.pending := by
  unfold State.raise; split <;> simp

@[simp] theorem State.evaluateAll_frame (s : State) :
    (s.evaluateAll).now = s.now ∧ (s.evaluateAll).micro = s.micro ∧
    (s.evaluateAll).sstop = s.sstop ∧ (s.evaluateAll).rateHigh = s.rateHigh ∧
    (s.evaluateAll).tpm = s.tpm ∧ (s.evaluateAll).slots = s.slots ∧ (s.evaluateAll).nextNumber = s.nextNumber ∧
    (s.evaluateAll).nextOrder = s.nextOrder ∧ (s.evaluateAll).exposurePool = s.exposurePool ∧
    (s.evaluateAll).finishPool = s.finishPool ∧ (s.evaluateAll).working = s.working ∧
    (s.evaluateAll).store = s.store ∧ (s.evaluateAll).channels = s.channels ∧ (s.evaluateAll).units = s.units ∧
    (s.evaluateAll).finisher = s.finisher ∧ (s.evaluateAll).washQueue = s.washQueue ∧ (s.evaluateAll).belt = s.belt ∧
    (s.evaluateAll).beltSpeed = s.beltSpeed ∧ (s.evaluateAll).bath = s.bath ∧ (s.evaluateAll).drawers = s.drawers ∧
    (s.evaluateAll).dryQueue = s.dryQueue ∧ (s.evaluateAll).counters = s.counters ∧
    (s.evaluateAll).pending = s.pending := by
  simp [State.evaluateAll]

@[simp] theorem State.updateDocket_frame (s : State) (n : Nat) (f : Docket → Docket) :
    (s.updateDocket n f).now = s.now ∧ (s.updateDocket n f).micro = s.micro ∧
    (s.updateDocket n f).sstop = s.sstop ∧
    (s.updateDocket n f).rateHigh = s.rateHigh ∧ (s.updateDocket n f).tpm = s.tpm ∧
    (s.updateDocket n f).ports = s.ports ∧ (s.updateDocket n f).nextNumber = s.nextNumber ∧
    (s.updateDocket n f).nextOrder = s.nextOrder ∧ (s.updateDocket n f).exposurePool = s.exposurePool ∧
    (s.updateDocket n f).finishPool = s.finishPool ∧ (s.updateDocket n f).working = s.working ∧
    (s.updateDocket n f).store = s.store ∧ (s.updateDocket n f).channels = s.channels ∧
    (s.updateDocket n f).units = s.units ∧ (s.updateDocket n f).finisher = s.finisher ∧
    (s.updateDocket n f).washQueue = s.washQueue ∧ (s.updateDocket n f).belt = s.belt ∧
    (s.updateDocket n f).beltSpeed = s.beltSpeed ∧ (s.updateDocket n f).bath = s.bath ∧
    (s.updateDocket n f).drawers = s.drawers ∧ (s.updateDocket n f).dryQueue = s.dryQueue ∧
    (s.updateDocket n f).counters = s.counters ∧ (s.updateDocket n f).pending = s.pending := by
  simp [State.updateDocket]

@[simp] theorem State.freeSlotOf_frame (s : State) (n : Nat) :
    (s.freeSlotOf n).now = s.now ∧ (s.freeSlotOf n).micro = s.micro ∧
    (s.freeSlotOf n).sstop = s.sstop ∧ (s.freeSlotOf n).rateHigh = s.rateHigh ∧
    (s.freeSlotOf n).tpm = s.tpm ∧ (s.freeSlotOf n).ports = s.ports ∧ (s.freeSlotOf n).nextNumber = s.nextNumber ∧
    (s.freeSlotOf n).nextOrder = s.nextOrder ∧ (s.freeSlotOf n).exposurePool = s.exposurePool ∧
    (s.freeSlotOf n).finishPool = s.finishPool ∧ (s.freeSlotOf n).working = s.working ∧
    (s.freeSlotOf n).store = s.store ∧ (s.freeSlotOf n).channels = s.channels ∧ (s.freeSlotOf n).units = s.units ∧
    (s.freeSlotOf n).finisher = s.finisher ∧ (s.freeSlotOf n).washQueue = s.washQueue ∧
    (s.freeSlotOf n).belt = s.belt ∧ (s.freeSlotOf n).beltSpeed = s.beltSpeed ∧ (s.freeSlotOf n).bath = s.bath ∧
    (s.freeSlotOf n).drawers = s.drawers ∧ (s.freeSlotOf n).dryQueue = s.dryQueue ∧
    (s.freeSlotOf n).counters = s.counters ∧ (s.freeSlotOf n).pending = s.pending := by
  simp [State.freeSlotOf]

@[simp] theorem State.updateRunDocket_frame (s : State) (r : RunDocket) (f : Docket → Docket) :
    (s.updateRunDocket r f).now = s.now ∧ (s.updateRunDocket r f).micro = s.micro ∧
    (s.updateRunDocket r f).sstop = s.sstop ∧
    (s.updateRunDocket r f).rateHigh = s.rateHigh ∧ (s.updateRunDocket r f).tpm = s.tpm ∧
    (s.updateRunDocket r f).ports = s.ports ∧ (s.updateRunDocket r f).nextNumber = s.nextNumber ∧
    (s.updateRunDocket r f).nextOrder = s.nextOrder ∧ (s.updateRunDocket r f).exposurePool = s.exposurePool ∧
    (s.updateRunDocket r f).finishPool = s.finishPool ∧ (s.updateRunDocket r f).working = s.working ∧
    (s.updateRunDocket r f).store = s.store ∧ (s.updateRunDocket r f).channels = s.channels ∧
    (s.updateRunDocket r f).units = s.units ∧ (s.updateRunDocket r f).finisher = s.finisher ∧
    (s.updateRunDocket r f).washQueue = s.washQueue ∧ (s.updateRunDocket r f).belt = s.belt ∧
    (s.updateRunDocket r f).beltSpeed = s.beltSpeed ∧ (s.updateRunDocket r f).bath = s.bath ∧
    (s.updateRunDocket r f).drawers = s.drawers ∧ (s.updateRunDocket r f).dryQueue = s.dryQueue ∧
    (s.updateRunDocket r f).counters = s.counters ∧ (s.updateRunDocket r f).pending = s.pending := by
  unfold State.updateRunDocket; split <;> simp

@[simp] theorem State.offer_frame (s : State) (e : CounterEvent) (a : Nat) (d : Option (Fin 16 × PlateClass)) (u : Option (Option UnitId)) :
    (s.offer e a d u).now = s.now ∧ (s.offer e a d u).micro = s.micro ∧
    (s.offer e a d u).sstop = s.sstop ∧ (s.offer e a d u).rateHigh = s.rateHigh ∧
    (s.offer e a d u).tpm = s.tpm ∧ (s.offer e a d u).ports = s.ports ∧ (s.offer e a d u).slots = s.slots ∧
    (s.offer e a d u).nextNumber = s.nextNumber ∧ (s.offer e a d u).nextOrder = s.nextOrder ∧
    (s.offer e a d u).exposurePool = s.exposurePool ∧ (s.offer e a d u).finishPool = s.finishPool ∧
    (s.offer e a d u).working = s.working ∧ (s.offer e a d u).store = s.store ∧
    (s.offer e a d u).channels = s.channels ∧ (s.offer e a d u).units = s.units ∧
    (s.offer e a d u).finisher = s.finisher ∧ (s.offer e a d u).washQueue = s.washQueue ∧
    (s.offer e a d u).belt = s.belt ∧ (s.offer e a d u).beltSpeed = s.beltSpeed ∧ (s.offer e a d u).bath = s.bath ∧
    (s.offer e a d u).drawers = s.drawers ∧ (s.offer e a d u).dryQueue = s.dryQueue ∧
    (s.offer e a d u).pending = s.pending := by
  simp [State.offer]

@[simp] theorem State.offerFor_frame (s : State) (e : CounterEvent) (a n : Nat) (w : Bool) :
    (s.offerFor e a n w).now = s.now ∧ (s.offerFor e a n w).micro = s.micro ∧
    (s.offerFor e a n w).sstop = s.sstop ∧
    (s.offerFor e a n w).rateHigh = s.rateHigh ∧ (s.offerFor e a n w).tpm = s.tpm ∧
    (s.offerFor e a n w).ports = s.ports ∧ (s.offerFor e a n w).slots = s.slots ∧
    (s.offerFor e a n w).nextNumber = s.nextNumber ∧ (s.offerFor e a n w).nextOrder = s.nextOrder ∧
    (s.offerFor e a n w).exposurePool = s.exposurePool ∧ (s.offerFor e a n w).finishPool = s.finishPool ∧
    (s.offerFor e a n w).working = s.working ∧ (s.offerFor e a n w).store = s.store ∧
    (s.offerFor e a n w).channels = s.channels ∧ (s.offerFor e a n w).units = s.units ∧
    (s.offerFor e a n w).finisher = s.finisher ∧ (s.offerFor e a n w).washQueue = s.washQueue ∧
    (s.offerFor e a n w).belt = s.belt ∧ (s.offerFor e a n w).beltSpeed = s.beltSpeed ∧
    (s.offerFor e a n w).bath = s.bath ∧ (s.offerFor e a n w).drawers = s.drawers ∧
    (s.offerFor e a n w).dryQueue = s.dryQueue ∧ (s.offerFor e a n w).pending = s.pending := by
  unfold State.offerFor; split <;> simp

@[simp] theorem State.lineSeconds_frame (s : State) (k : Nat) :
    (s.lineSeconds k).now = s.now ∧ (s.lineSeconds k).micro = s.micro ∧
    (s.lineSeconds k).sstop = s.sstop ∧ (s.lineSeconds k).rateHigh = s.rateHigh ∧
    (s.lineSeconds k).tpm = s.tpm ∧ (s.lineSeconds k).ports = s.ports ∧ (s.lineSeconds k).slots = s.slots ∧
    (s.lineSeconds k).nextNumber = s.nextNumber ∧ (s.lineSeconds k).nextOrder = s.nextOrder ∧
    (s.lineSeconds k).exposurePool = s.exposurePool ∧ (s.lineSeconds k).finishPool = s.finishPool ∧
    (s.lineSeconds k).working = s.working ∧ (s.lineSeconds k).store = s.store ∧ (s.lineSeconds k).units = s.units ∧
    (s.lineSeconds k).finisher = s.finisher ∧ (s.lineSeconds k).washQueue = s.washQueue ∧
    (s.lineSeconds k).belt = s.belt ∧ (s.lineSeconds k).beltSpeed = s.beltSpeed ∧ (s.lineSeconds k).bath = s.bath ∧
    (s.lineSeconds k).drawers = s.drawers ∧ (s.lineSeconds k).dryQueue = s.dryQueue ∧
    (s.lineSeconds k).pending = s.pending := by
  unfold State.lineSeconds; split <;> simp

@[simp] theorem State.pass_frame (s : State) (ms : Nat) :
    (s.pass ms).sstop = s.sstop ∧ (s.pass ms).rateHigh = s.rateHigh ∧ (s.pass ms).tpm = s.tpm ∧
    (s.pass ms).ports = s.ports ∧ (s.pass ms).slots = s.slots ∧ (s.pass ms).nextNumber = s.nextNumber ∧
    (s.pass ms).nextOrder = s.nextOrder ∧ (s.pass ms).exposurePool = s.exposurePool ∧
    (s.pass ms).finishPool = s.finishPool ∧ (s.pass ms).working = s.working ∧ (s.pass ms).store = s.store ∧
    (s.pass ms).units = s.units ∧ (s.pass ms).finisher = s.finisher ∧ (s.pass ms).washQueue = s.washQueue ∧
    (s.pass ms).belt = s.belt ∧ (s.pass ms).beltSpeed = s.beltSpeed ∧ (s.pass ms).bath = s.bath ∧
    (s.pass ms).drawers = s.drawers ∧ (s.pass ms).dryQueue = s.dryQueue ∧ (s.pass ms).pending = s.pending := by
  simp [State.pass]

@[simp] theorem State.pass_clock (s : State) (ms : Nat) :
    (s.pass ms).now = (s.now + ms) % Config.timeModulus ∧ (s.pass ms).micro = if ms = 0 then s.micro else 0 :=
  ⟨rfl, rfl⟩

/-- R107, R184: where line time stands after it was brought to a belt record's expected exit time, the dwell and the time
gone since the feed taken modulo 2³² s. -/
theorem State.pass_overdueIn_clock {s : State} {r : BeltRecord} {dwell gone : Nat} (hn : s.now < 4294967296000)
    (he : r.expectedExit < 4294967296) (hf : r.feedTime < 4294967296)
    (hd : dwell = (r.expectedExit + 4294967296 - r.feedTime) % 4294967296)
    (hg : gone = (s.now / 1000 + 4294967296 - r.feedTime) % 4294967296) :
    (gone < dwell → (s.pass (s.overdueIn r)).now = r.expectedExit * 1000 ∧ (s.pass (s.overdueIn r)).micro = 0) ∧
    (gone = dwell → (s.pass (s.overdueIn r)).now / 1000 = r.expectedExit) ∧
    (dwell ≤ gone → (s.pass (s.overdueIn r)).now = s.now ∧ (s.pass (s.overdueIn r)).micro = s.micro) := by
  simp only [State.pass_clock, State.overdueIn, State.seconds, Config.secondsModulus, Config.timeModulus, ← hd, ← hg]
  have hd' : dwell + r.feedTime = r.expectedExit ∨ dwell + r.feedTime = r.expectedExit + 4294967296 := by omega
  have hg' : gone + r.feedTime = s.now / 1000 ∨ gone + r.feedTime = s.now / 1000 + 4294967296 := by omega
  clear hd hg
  by_cases h : dwell ≤ gone
  · simp only [if_pos h, if_true, and_true]
    refine ⟨fun _ => ?_, fun _ => ?_, fun _ => ?_⟩ <;> omega
  · have hp : (dwell - gone) * 1000 - s.now % 1000 ≠ 0 := by omega
    simp only [if_neg h, if_neg hp, and_true]
    refine ⟨fun _ => ?_, fun _ => ?_, fun _ => ?_⟩ <;> omega

@[simp] theorem State.passMicros_clock (s : State) (us : Nat) :
    (s.passMicros us).now = (s.now + (s.micro + us) / 1000) % Config.timeModulus ∧
    (s.passMicros us).micro = (s.micro + us) % 1000 := ⟨rfl, rfl⟩

@[simp] theorem State.passMicros_frame (s : State) (us : Nat) :
    (s.passMicros us).sstop = s.sstop ∧ (s.passMicros us).rateHigh = s.rateHigh ∧ (s.passMicros us).tpm = s.tpm ∧
    (s.passMicros us).ports = s.ports ∧ (s.passMicros us).slots = s.slots ∧ (s.passMicros us).nextNumber = s.nextNumber ∧
    (s.passMicros us).nextOrder = s.nextOrder ∧ (s.passMicros us).exposurePool = s.exposurePool ∧
    (s.passMicros us).finishPool = s.finishPool ∧ (s.passMicros us).working = s.working ∧ (s.passMicros us).store = s.store ∧
    (s.passMicros us).units = s.units ∧ (s.passMicros us).finisher = s.finisher ∧ (s.passMicros us).washQueue = s.washQueue ∧
    (s.passMicros us).belt = s.belt ∧ (s.passMicros us).beltSpeed = s.beltSpeed ∧ (s.passMicros us).bath = s.bath ∧
    (s.passMicros us).drawers = s.drawers ∧ (s.passMicros us).dryQueue = s.dryQueue ∧ (s.passMicros us).pending = s.pending := by
  simp [State.passMicros]

@[simp] theorem State.joinWash_frame (s : State) (n : Nat) :
    (s.joinWash n).now = s.now ∧ (s.joinWash n).micro = s.micro ∧
    (s.joinWash n).sstop = s.sstop ∧ (s.joinWash n).rateHigh = s.rateHigh ∧
    (s.joinWash n).tpm = s.tpm ∧ (s.joinWash n).nextNumber = s.nextNumber ∧ (s.joinWash n).nextOrder = s.nextOrder ∧
    (s.joinWash n).exposurePool = s.exposurePool ∧ (s.joinWash n).finishPool = s.finishPool ∧
    (s.joinWash n).working = s.working ∧ (s.joinWash n).store = s.store ∧ (s.joinWash n).channels = s.channels ∧
    (s.joinWash n).units = s.units ∧ (s.joinWash n).finisher = s.finisher ∧ (s.joinWash n).belt = s.belt ∧
    (s.joinWash n).beltSpeed = s.beltSpeed ∧ (s.joinWash n).bath = s.bath ∧ (s.joinWash n).drawers = s.drawers ∧
    (s.joinWash n).dryQueue = s.dryQueue ∧ (s.joinWash n).counters = s.counters ∧ (s.joinWash n).pending = s.pending := by
  unfold State.joinWash; dsimp only; split <;> simp

@[simp] theorem State.enterHeld_frame (s : State) (n : Nat) (r : HoldReason) (st : HoldStage) (l : HoldLocation) :
    (s.enterHeld n r st l).now = s.now ∧ (s.enterHeld n r st l).micro = s.micro ∧
    (s.enterHeld n r st l).sstop = s.sstop ∧
    (s.enterHeld n r st l).rateHigh = s.rateHigh ∧ (s.enterHeld n r st l).tpm = s.tpm ∧
    (s.enterHeld n r st l).nextNumber = s.nextNumber ∧ (s.enterHeld n r st l).nextOrder = s.nextOrder ∧
    (s.enterHeld n r st l).exposurePool = s.exposurePool ∧ (s.enterHeld n r st l).finishPool = s.finishPool ∧
    (s.enterHeld n r st l).working = s.working ∧ (s.enterHeld n r st l).store = s.store ∧
    (s.enterHeld n r st l).channels = s.channels ∧ (s.enterHeld n r st l).units = s.units ∧
    (s.enterHeld n r st l).finisher = s.finisher ∧ (s.enterHeld n r st l).washQueue = s.washQueue ∧
    (s.enterHeld n r st l).belt = s.belt ∧ (s.enterHeld n r st l).beltSpeed = s.beltSpeed ∧
    (s.enterHeld n r st l).bath = s.bath ∧ (s.enterHeld n r st l).drawers = s.drawers ∧
    (s.enterHeld n r st l).dryQueue = s.dryQueue ∧ (s.enterHeld n r st l).pending = s.pending := by
  simp [State.enterHeld]

@[simp] theorem State.enterScrapped_frame (s : State) (n : Nat) :
    (s.enterScrapped n).now = s.now ∧ (s.enterScrapped n).micro = s.micro ∧
    (s.enterScrapped n).sstop = s.sstop ∧
    (s.enterScrapped n).rateHigh = s.rateHigh ∧ (s.enterScrapped n).tpm = s.tpm ∧
    (s.enterScrapped n).ports = s.ports ∧ (s.enterScrapped n).nextNumber = s.nextNumber ∧
    (s.enterScrapped n).nextOrder = s.nextOrder ∧ (s.enterScrapped n).exposurePool = s.exposurePool ∧
    (s.enterScrapped n).finishPool = s.finishPool ∧ (s.enterScrapped n).working = s.working ∧
    (s.enterScrapped n).store = s.store ∧ (s.enterScrapped n).channels = s.channels ∧
    (s.enterScrapped n).units = s.units ∧ (s.enterScrapped n).finisher = s.finisher ∧
    (s.enterScrapped n).washQueue = s.washQueue ∧ (s.enterScrapped n).belt = s.belt ∧
    (s.enterScrapped n).beltSpeed = s.beltSpeed ∧ (s.enterScrapped n).bath = s.bath ∧
    (s.enterScrapped n).drawers = s.drawers ∧ (s.enterScrapped n).dryQueue = s.dryQueue ∧
    (s.enterScrapped n).pending = s.pending := by
  simp [State.enterScrapped]

@[simp] theorem State.judgeBath_frame (s : State) (b : Bath) :
    (s.judgeBath b).now = s.now ∧ (s.judgeBath b).micro = s.micro ∧
    (s.judgeBath b).sstop = s.sstop ∧ (s.judgeBath b).rateHigh = s.rateHigh ∧
    (s.judgeBath b).tpm = s.tpm ∧ (s.judgeBath b).slots = s.slots ∧ (s.judgeBath b).nextNumber = s.nextNumber ∧
    (s.judgeBath b).nextOrder = s.nextOrder ∧ (s.judgeBath b).exposurePool = s.exposurePool ∧
    (s.judgeBath b).finishPool = s.finishPool ∧ (s.judgeBath b).working = s.working ∧
    (s.judgeBath b).store = s.store ∧ (s.judgeBath b).channels = s.channels ∧ (s.judgeBath b).units = s.units ∧
    (s.judgeBath b).finisher = s.finisher ∧ (s.judgeBath b).washQueue = s.washQueue ∧ (s.judgeBath b).belt = s.belt ∧
    (s.judgeBath b).beltSpeed = s.beltSpeed ∧ (s.judgeBath b).drawers = s.drawers ∧
    (s.judgeBath b).dryQueue = s.dryQueue ∧ (s.judgeBath b).counters = s.counters ∧
    (s.judgeBath b).pending = s.pending := by
  unfold State.judgeBath; dsimp only; split <;> (try split) <;> simp

@[simp] theorem State.recomputeBath_frame (s : State) (b : Bath) :
    (s.recomputeBath b).now = s.now ∧ (s.recomputeBath b).micro = s.micro ∧
    (s.recomputeBath b).sstop = s.sstop ∧
    (s.recomputeBath b).rateHigh = s.rateHigh ∧ (s.recomputeBath b).tpm = s.tpm ∧
    (s.recomputeBath b).slots = s.slots ∧ (s.recomputeBath b).nextNumber = s.nextNumber ∧
    (s.recomputeBath b).nextOrder = s.nextOrder ∧ (s.recomputeBath b).exposurePool = s.exposurePool ∧
    (s.recomputeBath b).finishPool = s.finishPool ∧ (s.recomputeBath b).working = s.working ∧
    (s.recomputeBath b).store = s.store ∧ (s.recomputeBath b).channels = s.channels ∧
    (s.recomputeBath b).units = s.units ∧ (s.recomputeBath b).finisher = s.finisher ∧
    (s.recomputeBath b).washQueue = s.washQueue ∧ (s.recomputeBath b).belt = s.belt ∧
    (s.recomputeBath b).beltSpeed = s.beltSpeed ∧ (s.recomputeBath b).drawers = s.drawers ∧
    (s.recomputeBath b).dryQueue = s.dryQueue ∧ (s.recomputeBath b).counters = s.counters ∧
    (s.recomputeBath b).pending = s.pending := by
  unfold State.recomputeBath; split <;> simp

@[simp] theorem State.flagBeltStopped_frame (s : State) :
    (s.flagBeltStopped).now = s.now ∧ (s.flagBeltStopped).micro = s.micro ∧
    (s.flagBeltStopped).sstop = s.sstop ∧
    (s.flagBeltStopped).rateHigh = s.rateHigh ∧ (s.flagBeltStopped).tpm = s.tpm ∧
    (s.flagBeltStopped).ports = s.ports ∧ (s.flagBeltStopped).nextNumber = s.nextNumber ∧
    (s.flagBeltStopped).nextOrder = s.nextOrder ∧ (s.flagBeltStopped).exposurePool = s.exposurePool ∧
    (s.flagBeltStopped).finishPool = s.finishPool ∧ (s.flagBeltStopped).working = s.working ∧
    (s.flagBeltStopped).store = s.store ∧ (s.flagBeltStopped).channels = s.channels ∧
    (s.flagBeltStopped).units = s.units ∧ (s.flagBeltStopped).finisher = s.finisher ∧
    (s.flagBeltStopped).washQueue = s.washQueue ∧ (s.flagBeltStopped).belt = s.belt ∧
    (s.flagBeltStopped).beltSpeed = s.beltSpeed ∧ (s.flagBeltStopped).bath = s.bath ∧
    (s.flagBeltStopped).drawers = s.drawers ∧ (s.flagBeltStopped).dryQueue = s.dryQueue ∧
    (s.flagBeltStopped).counters = s.counters ∧ (s.flagBeltStopped).pending = s.pending := by
  unfold State.flagBeltStopped
  refine ⟨?_, ?_, ?_, ?_, ?_, ?_, ?_, ?_, ?_, ?_, ?_, ?_, ?_, ?_, ?_, ?_, ?_, ?_, ?_, ?_, ?_, ?_, ?_⟩
  · exact foldl_keeps (fun t : State => t.now) _ (by intro t x; simp) _ _
  · exact foldl_keeps (fun t : State => t.micro) _ (by intro t x; simp) _ _
  · exact foldl_keeps (fun t : State => t.sstop) _ (by intro t x; simp) _ _
  · exact foldl_keeps (fun t : State => t.rateHigh) _ (by intro t x; simp) _ _
  · exact foldl_keeps (fun t : State => t.tpm) _ (by intro t x; simp) _ _
  · exact foldl_keeps (fun t : State => t.ports) _ (by intro t x; simp) _ _
  · exact foldl_keeps (fun t : State => t.nextNumber) _ (by intro t x; simp) _ _
  · exact foldl_keeps (fun t : State => t.nextOrder) _ (by intro t x; simp) _ _
  · exact foldl_keeps (fun t : State => t.exposurePool) _ (by intro t x; simp) _ _
  · exact foldl_keeps (fun t : State => t.finishPool) _ (by intro t x; simp) _ _
  · exact foldl_keeps (fun t : State => t.working) _ (by intro t x; simp) _ _
  · exact foldl_keeps (fun t : State => t.store) _ (by intro t x; simp) _ _
  · exact foldl_keeps (fun t : State => t.channels) _ (by intro t x; simp) _ _
  · exact foldl_keeps (fun t : State => t.units) _ (by intro t x; simp) _ _
  · exact foldl_keeps (fun t : State => t.finisher) _ (by intro t x; simp) _ _
  · exact foldl_keeps (fun t : State => t.washQueue) _ (by intro t x; simp) _ _
  · exact foldl_keeps (fun t : State => t.belt) _ (by intro t x; simp) _ _
  · exact foldl_keeps (fun t : State => t.beltSpeed) _ (by intro t x; simp) _ _
  · exact foldl_keeps (fun t : State => t.bath) _ (by intro t x; simp) _ _
  · exact foldl_keeps (fun t : State => t.drawers) _ (by intro t x; simp) _ _
  · exact foldl_keeps (fun t : State => t.dryQueue) _ (by intro t x; simp) _ _
  · exact foldl_keeps (fun t : State => t.counters) _ (by intro t x; simp) _ _
  · exact foldl_keeps (fun t : State => t.pending) _ (by intro t x; simp) _ _

@[simp] theorem State.updatePermit_frame (s : State) :
    (s.updatePermit).now = s.now ∧ (s.updatePermit).micro = s.micro ∧
    (s.updatePermit).sstop = s.sstop ∧ (s.updatePermit).rateHigh = s.rateHigh ∧
    (s.updatePermit).ports = s.ports ∧ (s.updatePermit).nextNumber = s.nextNumber ∧
    (s.updatePermit).nextOrder = s.nextOrder ∧ (s.updatePermit).exposurePool = s.exposurePool ∧
    (s.updatePermit).finishPool = s.finishPool ∧ (s.updatePermit).working = s.working ∧
    (s.updatePermit).store = s.store ∧ (s.updatePermit).channels = s.channels ∧ (s.updatePermit).units = s.units ∧
    (s.updatePermit).finisher = s.finisher ∧ (s.updatePermit).washQueue = s.washQueue ∧
    (s.updatePermit).belt = s.belt ∧ (s.updatePermit).beltSpeed = s.beltSpeed ∧ (s.updatePermit).bath = s.bath ∧
    (s.updatePermit).drawers = s.drawers ∧ (s.updatePermit).dryQueue = s.dryQueue ∧
    (s.updatePermit).counters = s.counters ∧ (s.updatePermit).pending = s.pending := by
  unfold State.updatePermit; split <;> (try split) <;> simp

@[simp] theorem State.giveDrawer_frame (s : State) (d : Fin 8) (n : Nat) :
    (s.giveDrawer d n).now = s.now ∧ (s.giveDrawer d n).micro = s.micro ∧
    (s.giveDrawer d n).sstop = s.sstop ∧ (s.giveDrawer d n).rateHigh = s.rateHigh ∧
    (s.giveDrawer d n).tpm = s.tpm ∧ (s.giveDrawer d n).nextNumber = s.nextNumber ∧
    (s.giveDrawer d n).nextOrder = s.nextOrder ∧ (s.giveDrawer d n).exposurePool = s.exposurePool ∧
    (s.giveDrawer d n).finishPool = s.finishPool ∧ (s.giveDrawer d n).working = s.working ∧
    (s.giveDrawer d n).store = s.store ∧ (s.giveDrawer d n).channels = s.channels ∧
    (s.giveDrawer d n).units = s.units ∧ (s.giveDrawer d n).finisher = s.finisher ∧
    (s.giveDrawer d n).washQueue = s.washQueue ∧ (s.giveDrawer d n).belt = s.belt ∧
    (s.giveDrawer d n).beltSpeed = s.beltSpeed ∧ (s.giveDrawer d n).bath = s.bath ∧
    (s.giveDrawer d n).counters = s.counters ∧ (s.giveDrawer d n).pending = s.pending := by
  simp [State.giveDrawer]

@[simp] theorem State.assignUpTo_frame (k : Nat) (s : State) :
    (State.assignUpTo k s).now = s.now ∧ (State.assignUpTo k s).micro = s.micro ∧
    (State.assignUpTo k s).sstop = s.sstop ∧
    (State.assignUpTo k s).rateHigh = s.rateHigh ∧ (State.assignUpTo k s).tpm = s.tpm ∧
    (State.assignUpTo k s).nextNumber = s.nextNumber ∧ (State.assignUpTo k s).nextOrder = s.nextOrder ∧
    (State.assignUpTo k s).exposurePool = s.exposurePool ∧ (State.assignUpTo k s).finishPool = s.finishPool ∧
    (State.assignUpTo k s).working = s.working ∧ (State.assignUpTo k s).store = s.store ∧
    (State.assignUpTo k s).channels = s.channels ∧ (State.assignUpTo k s).units = s.units ∧
    (State.assignUpTo k s).finisher = s.finisher ∧ (State.assignUpTo k s).washQueue = s.washQueue ∧
    (State.assignUpTo k s).belt = s.belt ∧ (State.assignUpTo k s).beltSpeed = s.beltSpeed ∧
    (State.assignUpTo k s).bath = s.bath ∧ (State.assignUpTo k s).counters = s.counters ∧
    (State.assignUpTo k s).pending = s.pending := by
  induction k generalizing s with
  | zero => simp [State.assignUpTo]
  | succ k ih => unfold State.assignUpTo; split <;> simp [ih]

@[simp] theorem State.assignDrawers_frame (s : State) :
    (s.assignDrawers).now = s.now ∧ (s.assignDrawers).micro = s.micro ∧
    (s.assignDrawers).sstop = s.sstop ∧ (s.assignDrawers).rateHigh = s.rateHigh ∧
    (s.assignDrawers).tpm = s.tpm ∧ (s.assignDrawers).nextNumber = s.nextNumber ∧
    (s.assignDrawers).nextOrder = s.nextOrder ∧ (s.assignDrawers).exposurePool = s.exposurePool ∧
    (s.assignDrawers).finishPool = s.finishPool ∧ (s.assignDrawers).working = s.working ∧
    (s.assignDrawers).store = s.store ∧ (s.assignDrawers).channels = s.channels ∧ (s.assignDrawers).units = s.units ∧
    (s.assignDrawers).finisher = s.finisher ∧ (s.assignDrawers).washQueue = s.washQueue ∧
    (s.assignDrawers).belt = s.belt ∧ (s.assignDrawers).beltSpeed = s.beltSpeed ∧ (s.assignDrawers).bath = s.bath ∧
    (s.assignDrawers).counters = s.counters ∧ (s.assignDrawers).pending = s.pending := by
  simp [State.assignDrawers]

@[simp] theorem State.joinDry_frame (s : State) (n : Nat) :
    (s.joinDry n).now = s.now ∧ (s.joinDry n).micro = s.micro ∧
    (s.joinDry n).sstop = s.sstop ∧ (s.joinDry n).rateHigh = s.rateHigh ∧
    (s.joinDry n).tpm = s.tpm ∧ (s.joinDry n).nextNumber = s.nextNumber ∧ (s.joinDry n).nextOrder = s.nextOrder ∧
    (s.joinDry n).exposurePool = s.exposurePool ∧ (s.joinDry n).finishPool = s.finishPool ∧
    (s.joinDry n).working = s.working ∧ (s.joinDry n).store = s.store ∧ (s.joinDry n).channels = s.channels ∧
    (s.joinDry n).units = s.units ∧ (s.joinDry n).finisher = s.finisher ∧ (s.joinDry n).washQueue = s.washQueue ∧
    (s.joinDry n).belt = s.belt ∧ (s.joinDry n).beltSpeed = s.beltSpeed ∧ (s.joinDry n).bath = s.bath ∧
    (s.joinDry n).counters = s.counters ∧ (s.joinDry n).pending = s.pending := by
  simp [State.joinDry]

@[simp] theorem State.backReached_frame (s : State) (u : UnitId) (n : Nat) :
    (s.backReached u n).now = s.now ∧ (s.backReached u n).micro = s.micro ∧
    (s.backReached u n).sstop = s.sstop ∧
    (s.backReached u n).rateHigh = s.rateHigh ∧ (s.backReached u n).tpm = s.tpm ∧
    (s.backReached u n).nextNumber = s.nextNumber ∧ (s.backReached u n).nextOrder = s.nextOrder ∧
    (s.backReached u n).exposurePool = s.exposurePool ∧ (s.backReached u n).finishPool = s.finishPool ∧
    (s.backReached u n).working = s.working ∧ (s.backReached u n).store = s.store ∧
    (s.backReached u n).channels = s.channels ∧ (s.backReached u n).finisher = s.finisher ∧
    (s.backReached u n).washQueue = s.washQueue ∧ (s.backReached u n).belt = s.belt ∧
    (s.backReached u n).beltSpeed = s.beltSpeed ∧ (s.backReached u n).bath = s.bath ∧
    (s.backReached u n).drawers = s.drawers ∧ (s.backReached u n).dryQueue = s.dryQueue ∧
    (s.backReached u n).counters = s.counters ∧ (s.backReached u n).pending = s.pending := by
  simp [State.backReached]

@[simp] theorem State.mainReached_frame (s : State) (u : UnitId) (n : Nat) :
    (s.mainReached u n).now = s.now ∧ (s.mainReached u n).micro = s.micro ∧
    (s.mainReached u n).sstop = s.sstop ∧
    (s.mainReached u n).rateHigh = s.rateHigh ∧ (s.mainReached u n).tpm = s.tpm ∧
    (s.mainReached u n).nextNumber = s.nextNumber ∧ (s.mainReached u n).nextOrder = s.nextOrder ∧
    (s.mainReached u n).exposurePool = s.exposurePool ∧ (s.mainReached u n).finishPool = s.finishPool ∧
    (s.mainReached u n).working = s.working ∧ (s.mainReached u n).store = s.store ∧
    (s.mainReached u n).channels = s.channels ∧ (s.mainReached u n).finisher = s.finisher ∧
    (s.mainReached u n).belt = s.belt ∧ (s.mainReached u n).beltSpeed = s.beltSpeed ∧
    (s.mainReached u n).bath = s.bath ∧ (s.mainReached u n).drawers = s.drawers ∧
    (s.mainReached u n).dryQueue = s.dryQueue ∧ (s.mainReached u n).pending = s.pending := by
  simp [State.mainReached]

@[simp] theorem State.stageReached_frame (s : State) (u : UnitId) (n : Nat) (st : Stage) :
    (s.stageReached u n st).now = s.now ∧ (s.stageReached u n st).micro = s.micro ∧
    (s.stageReached u n st).sstop = s.sstop ∧
    (s.stageReached u n st).rateHigh = s.rateHigh ∧ (s.stageReached u n st).tpm = s.tpm ∧
    (s.stageReached u n st).nextNumber = s.nextNumber ∧ (s.stageReached u n st).nextOrder = s.nextOrder ∧
    (s.stageReached u n st).exposurePool = s.exposurePool ∧ (s.stageReached u n st).finishPool = s.finishPool ∧
    (s.stageReached u n st).working = s.working ∧ (s.stageReached u n st).store = s.store ∧
    (s.stageReached u n st).channels = s.channels ∧ (s.stageReached u n st).finisher = s.finisher ∧
    (s.stageReached u n st).belt = s.belt ∧ (s.stageReached u n st).beltSpeed = s.beltSpeed ∧
    (s.stageReached u n st).bath = s.bath ∧ (s.stageReached u n st).drawers = s.drawers ∧
    (s.stageReached u n st).dryQueue = s.dryQueue ∧ (s.stageReached u n st).pending = s.pending := by
  cases st <;> simp [State.stageReached]

@[simp] theorem State.haltUnit_frame (s : State) (u : UnitId) (n : Nat) (st : Stage) (r : HoldReason) :
    (s.haltUnit u n st r).now = s.now ∧ (s.haltUnit u n st r).micro = s.micro ∧
    (s.haltUnit u n st r).sstop = s.sstop ∧
    (s.haltUnit u n st r).rateHigh = s.rateHigh ∧ (s.haltUnit u n st r).tpm = s.tpm ∧
    (s.haltUnit u n st r).nextNumber = s.nextNumber ∧ (s.haltUnit u n st r).nextOrder = s.nextOrder ∧
    (s.haltUnit u n st r).exposurePool = s.exposurePool ∧ (s.haltUnit u n st r).finishPool = s.finishPool ∧
    (s.haltUnit u n st r).working = s.working ∧ (s.haltUnit u n st r).store = s.store ∧
    (s.haltUnit u n st r).channels = s.channels ∧ (s.haltUnit u n st r).finisher = s.finisher ∧
    (s.haltUnit u n st r).washQueue = s.washQueue ∧ (s.haltUnit u n st r).belt = s.belt ∧
    (s.haltUnit u n st r).beltSpeed = s.beltSpeed ∧ (s.haltUnit u n st r).bath = s.bath ∧
    (s.haltUnit u n st r).drawers = s.drawers ∧ (s.haltUnit u n st r).dryQueue = s.dryQueue ∧
    (s.haltUnit u n st r).pending = s.pending := by
  simp [State.haltUnit]

@[simp] theorem State.finishComplete_frame (s : State) (n : Nat) :
    (s.finishComplete n).now = s.now ∧ (s.finishComplete n).micro = s.micro ∧
    (s.finishComplete n).sstop = s.sstop ∧
    (s.finishComplete n).rateHigh = s.rateHigh ∧ (s.finishComplete n).tpm = s.tpm ∧
    (s.finishComplete n).nextNumber = s.nextNumber ∧ (s.finishComplete n).nextOrder = s.nextOrder ∧
    (s.finishComplete n).exposurePool = s.exposurePool ∧ (s.finishComplete n).finishPool = s.finishPool ∧
    (s.finishComplete n).working = s.working ∧ (s.finishComplete n).store = s.store ∧
    (s.finishComplete n).channels = s.channels ∧ (s.finishComplete n).units = s.units ∧
    (s.finishComplete n).washQueue = s.washQueue ∧ (s.finishComplete n).belt = s.belt ∧
    (s.finishComplete n).beltSpeed = s.beltSpeed ∧ (s.finishComplete n).bath = s.bath ∧
    (s.finishComplete n).drawers = s.drawers ∧ (s.finishComplete n).dryQueue = s.dryQueue ∧
    (s.finishComplete n).pending = s.pending := by
  simp [State.finishComplete]

@[simp] theorem State.recordDose_frame (s : State) (c : ChannelId) (r : RunDocket) (x y : Nat) :
    (s.recordDose c r x y).now = s.now ∧ (s.recordDose c r x y).micro = s.micro ∧
    (s.recordDose c r x y).sstop = s.sstop ∧
    (s.recordDose c r x y).rateHigh = s.rateHigh ∧ (s.recordDose c r x y).tpm = s.tpm ∧
    (s.recordDose c r x y).ports = s.ports ∧ (s.recordDose c r x y).nextNumber = s.nextNumber ∧
    (s.recordDose c r x y).nextOrder = s.nextOrder ∧ (s.recordDose c r x y).exposurePool = s.exposurePool ∧
    (s.recordDose c r x y).finishPool = s.finishPool ∧ (s.recordDose c r x y).working = s.working ∧
    (s.recordDose c r x y).store = s.store ∧ (s.recordDose c r x y).channels = s.channels ∧
    (s.recordDose c r x y).units = s.units ∧ (s.recordDose c r x y).finisher = s.finisher ∧
    (s.recordDose c r x y).washQueue = s.washQueue ∧ (s.recordDose c r x y).belt = s.belt ∧
    (s.recordDose c r x y).beltSpeed = s.beltSpeed ∧ (s.recordDose c r x y).bath = s.bath ∧
    (s.recordDose c r x y).drawers = s.drawers ∧ (s.recordDose c r x y).dryQueue = s.dryQueue ∧
    (s.recordDose c r x y).pending = s.pending := by
  simp [State.recordDose]

@[simp] theorem State.startChannel_frame (s : State) (c : ChannelId) (d : Docket) (x y : Nat) :
    (s.startChannel c d x y).now = s.now ∧ (s.startChannel c d x y).micro = s.micro ∧
    (s.startChannel c d x y).sstop = s.sstop ∧
    (s.startChannel c d x y).rateHigh = s.rateHigh ∧ (s.startChannel c d x y).tpm = s.tpm ∧
    (s.startChannel c d x y).ports = s.ports ∧ (s.startChannel c d x y).nextNumber = s.nextNumber ∧
    (s.startChannel c d x y).nextOrder = s.nextOrder ∧ (s.startChannel c d x y).exposurePool = s.exposurePool ∧
    (s.startChannel c d x y).finishPool = s.finishPool ∧ (s.startChannel c d x y).working = s.working ∧
    (s.startChannel c d x y).store = s.store ∧ (s.startChannel c d x y).units = s.units ∧
    (s.startChannel c d x y).finisher = s.finisher ∧ (s.startChannel c d x y).washQueue = s.washQueue ∧
    (s.startChannel c d x y).belt = s.belt ∧ (s.startChannel c d x y).beltSpeed = s.beltSpeed ∧
    (s.startChannel c d x y).bath = s.bath ∧ (s.startChannel c d x y).drawers = s.drawers ∧
    (s.startChannel c d x y).dryQueue = s.dryQueue ∧ (s.startChannel c d x y).pending = s.pending := by
  unfold State.startChannel; dsimp only; split <;> simp

@[simp] theorem State.chanToTail_frame (s : State) (c : ChannelId) (e : LastEnd) :
    (s.chanToTail c e).now = s.now ∧ (s.chanToTail c e).micro = s.micro ∧
    (s.chanToTail c e).sstop = s.sstop ∧ (s.chanToTail c e).rateHigh = s.rateHigh ∧
    (s.chanToTail c e).tpm = s.tpm ∧ (s.chanToTail c e).ports = s.ports ∧ (s.chanToTail c e).slots = s.slots ∧
    (s.chanToTail c e).nextNumber = s.nextNumber ∧ (s.chanToTail c e).nextOrder = s.nextOrder ∧
    (s.chanToTail c e).exposurePool = s.exposurePool ∧ (s.chanToTail c e).finishPool = s.finishPool ∧
    (s.chanToTail c e).working = s.working ∧ (s.chanToTail c e).store = s.store ∧
    (s.chanToTail c e).units = s.units ∧ (s.chanToTail c e).finisher = s.finisher ∧
    (s.chanToTail c e).washQueue = s.washQueue ∧ (s.chanToTail c e).belt = s.belt ∧
    (s.chanToTail c e).beltSpeed = s.beltSpeed ∧ (s.chanToTail c e).bath = s.bath ∧
    (s.chanToTail c e).drawers = s.drawers ∧ (s.chanToTail c e).dryQueue = s.dryQueue ∧
    (s.chanToTail c e).counters = s.counters ∧ (s.chanToTail c e).pending = s.pending := by
  simp [State.chanToTail]

@[simp] theorem State.endTail_frame (s : State) (c : ChannelId) :
    (s.endTail c).now = s.now ∧ (s.endTail c).micro = s.micro ∧
    (s.endTail c).sstop = s.sstop ∧ (s.endTail c).rateHigh = s.rateHigh ∧
    (s.endTail c).tpm = s.tpm ∧ (s.endTail c).ports = s.ports ∧ (s.endTail c).nextNumber = s.nextNumber ∧
    (s.endTail c).nextOrder = s.nextOrder ∧ (s.endTail c).exposurePool = s.exposurePool ∧
    (s.endTail c).finishPool = s.finishPool ∧ (s.endTail c).working = s.working ∧ (s.endTail c).store = s.store ∧
    (s.endTail c).units = s.units ∧ (s.endTail c).finisher = s.finisher ∧ (s.endTail c).washQueue = s.washQueue ∧
    (s.endTail c).belt = s.belt ∧ (s.endTail c).beltSpeed = s.beltSpeed ∧ (s.endTail c).bath = s.bath ∧
    (s.endTail c).drawers = s.drawers ∧ (s.endTail c).dryQueue = s.dryQueue ∧ (s.endTail c).pending = s.pending := by
  unfold State.endTail; dsimp only; split <;> (try split) <;> simp

@[simp] theorem State.endTailIfZero_frame (s : State) (c : ChannelId) :
    (s.endTailIfZero c).now = s.now ∧ (s.endTailIfZero c).micro = s.micro ∧
    (s.endTailIfZero c).sstop = s.sstop ∧
    (s.endTailIfZero c).rateHigh = s.rateHigh ∧ (s.endTailIfZero c).tpm = s.tpm ∧
    (s.endTailIfZero c).ports = s.ports ∧ (s.endTailIfZero c).nextNumber = s.nextNumber ∧
    (s.endTailIfZero c).nextOrder = s.nextOrder ∧ (s.endTailIfZero c).exposurePool = s.exposurePool ∧
    (s.endTailIfZero c).finishPool = s.finishPool ∧ (s.endTailIfZero c).working = s.working ∧
    (s.endTailIfZero c).store = s.store ∧ (s.endTailIfZero c).units = s.units ∧
    (s.endTailIfZero c).finisher = s.finisher ∧ (s.endTailIfZero c).washQueue = s.washQueue ∧
    (s.endTailIfZero c).belt = s.belt ∧ (s.endTailIfZero c).beltSpeed = s.beltSpeed ∧
    (s.endTailIfZero c).bath = s.bath ∧ (s.endTailIfZero c).drawers = s.drawers ∧
    (s.endTailIfZero c).dryQueue = s.dryQueue ∧ (s.endTailIfZero c).pending = s.pending := by
  unfold State.endTailIfZero; split <;> simp

@[simp] theorem State.finisherReached_frame (s : State) (n : Nat) (x y : Mark) (c : ChannelId) :
    (s.finisherReached n x y c).now = s.now ∧ (s.finisherReached n x y c).micro = s.micro ∧
    (s.finisherReached n x y c).sstop = s.sstop ∧
    (s.finisherReached n x y c).rateHigh = s.rateHigh ∧ (s.finisherReached n x y c).tpm = s.tpm ∧
    (s.finisherReached n x y c).nextNumber = s.nextNumber ∧ (s.finisherReached n x y c).nextOrder = s.nextOrder ∧
    (s.finisherReached n x y c).exposurePool = s.exposurePool ∧
    (s.finisherReached n x y c).finishPool = s.finishPool ∧ (s.finisherReached n x y c).working = s.working ∧
    (s.finisherReached n x y c).store = s.store ∧ (s.finisherReached n x y c).channels = s.channels ∧
    (s.finisherReached n x y c).units = s.units ∧ (s.finisherReached n x y c).washQueue = s.washQueue ∧
    (s.finisherReached n x y c).belt = s.belt ∧ (s.finisherReached n x y c).beltSpeed = s.beltSpeed ∧
    (s.finisherReached n x y c).bath = s.bath ∧ (s.finisherReached n x y c).drawers = s.drawers ∧
    (s.finisherReached n x y c).dryQueue = s.dryQueue ∧ (s.finisherReached n x y c).pending = s.pending := by
  unfold State.finisherReached; dsimp only
  generalize (if c = .FC then Mark.reached else x) = a
  generalize (if c = .FA then Mark.reached else y) = b
  split <;> simp

@[simp] theorem State.haltFinisher_frame (s : State) (n : Nat) (x y : Mark) (c : ChannelId) (r : AbortReason) (h : HoldReason) :
    (s.haltFinisher n x y c r h).now = s.now ∧ (s.haltFinisher n x y c r h).micro = s.micro ∧
    (s.haltFinisher n x y c r h).sstop = s.sstop ∧
    (s.haltFinisher n x y c r h).rateHigh = s.rateHigh ∧ (s.haltFinisher n x y c r h).tpm = s.tpm ∧
    (s.haltFinisher n x y c r h).nextNumber = s.nextNumber ∧ (s.haltFinisher n x y c r h).nextOrder = s.nextOrder ∧
    (s.haltFinisher n x y c r h).exposurePool = s.exposurePool ∧
    (s.haltFinisher n x y c r h).finishPool = s.finishPool ∧ (s.haltFinisher n x y c r h).working = s.working ∧
    (s.haltFinisher n x y c r h).store = s.store ∧ (s.haltFinisher n x y c r h).units = s.units ∧
    (s.haltFinisher n x y c r h).washQueue = s.washQueue ∧ (s.haltFinisher n x y c r h).belt = s.belt ∧
    (s.haltFinisher n x y c r h).beltSpeed = s.beltSpeed ∧ (s.haltFinisher n x y c r h).bath = s.bath ∧
    (s.haltFinisher n x y c r h).drawers = s.drawers ∧ (s.haltFinisher n x y c r h).dryQueue = s.dryQueue ∧
    (s.haltFinisher n x y c r h).pending = s.pending := by
  unfold State.haltFinisher; dsimp only
  generalize (if c = .FC then y else x) = o
  split <;> simp

@[simp] theorem State.reportReached_frame (s : State) (c : ChannelId) (n : Nat) :
    (s.reportReached c n).now = s.now ∧ (s.reportReached c n).micro = s.micro ∧
    (s.reportReached c n).sstop = s.sstop ∧
    (s.reportReached c n).rateHigh = s.rateHigh ∧ (s.reportReached c n).tpm = s.tpm ∧
    (s.reportReached c n).nextNumber = s.nextNumber ∧ (s.reportReached c n).nextOrder = s.nextOrder ∧
    (s.reportReached c n).exposurePool = s.exposurePool ∧ (s.reportReached c n).finishPool = s.finishPool ∧
    (s.reportReached c n).working = s.working ∧ (s.reportReached c n).store = s.store ∧
    (s.reportReached c n).channels = s.channels ∧ (s.reportReached c n).belt = s.belt ∧
    (s.reportReached c n).beltSpeed = s.beltSpeed ∧ (s.reportReached c n).bath = s.bath ∧
    (s.reportReached c n).drawers = s.drawers ∧ (s.reportReached c n).dryQueue = s.dryQueue ∧
    (s.reportReached c n).pending = s.pending := by
  unfold State.reportReached; (repeat' split) <;> simp

@[simp] theorem State.reportAborted_frame (s : State) (c : ChannelId) (n : Nat) (r : AbortReason) :
    (s.reportAborted c n r).now = s.now ∧ (s.reportAborted c n r).micro = s.micro ∧
    (s.reportAborted c n r).sstop = s.sstop ∧
    (s.reportAborted c n r).rateHigh = s.rateHigh ∧ (s.reportAborted c n r).tpm = s.tpm ∧
    (s.reportAborted c n r).nextNumber = s.nextNumber ∧ (s.reportAborted c n r).nextOrder = s.nextOrder ∧
    (s.reportAborted c n r).exposurePool = s.exposurePool ∧ (s.reportAborted c n r).finishPool = s.finishPool ∧
    (s.reportAborted c n r).working = s.working ∧ (s.reportAborted c n r).store = s.store ∧
    (s.reportAborted c n r).washQueue = s.washQueue ∧ (s.reportAborted c n r).belt = s.belt ∧
    (s.reportAborted c n r).beltSpeed = s.beltSpeed ∧ (s.reportAborted c n r).bath = s.bath ∧
    (s.reportAborted c n r).drawers = s.drawers ∧ (s.reportAborted c n r).dryQueue = s.dryQueue ∧
    (s.reportAborted c n r).pending = s.pending := by
  unfold State.reportAborted; (repeat' split) <;> simp

@[simp] theorem State.reachRun_frame (s : State) (c : ChannelId) :
    (s.reachRun c).now = s.now ∧ (s.reachRun c).micro = s.micro ∧
    (s.reachRun c).sstop = s.sstop ∧ (s.reachRun c).rateHigh = s.rateHigh ∧
    (s.reachRun c).tpm = s.tpm ∧ (s.reachRun c).nextNumber = s.nextNumber ∧ (s.reachRun c).nextOrder = s.nextOrder ∧
    (s.reachRun c).exposurePool = s.exposurePool ∧ (s.reachRun c).finishPool = s.finishPool ∧
    (s.reachRun c).working = s.working ∧ (s.reachRun c).store = s.store ∧ (s.reachRun c).belt = s.belt ∧
    (s.reachRun c).beltSpeed = s.beltSpeed ∧ (s.reachRun c).bath = s.bath ∧ (s.reachRun c).drawers = s.drawers ∧
    (s.reachRun c).dryQueue = s.dryQueue ∧ (s.reachRun c).pending = s.pending := by
  simp [State.reachRun]

@[simp] theorem State.abortRun_frame (s : State) (c : ChannelId) (r : AbortReason) :
    (s.abortRun c r).now = s.now ∧ (s.abortRun c r).micro = s.micro ∧
    (s.abortRun c r).sstop = s.sstop ∧ (s.abortRun c r).rateHigh = s.rateHigh ∧
    (s.abortRun c r).tpm = s.tpm ∧ (s.abortRun c r).nextNumber = s.nextNumber ∧
    (s.abortRun c r).nextOrder = s.nextOrder ∧ (s.abortRun c r).exposurePool = s.exposurePool ∧
    (s.abortRun c r).finishPool = s.finishPool ∧ (s.abortRun c r).working = s.working ∧
    (s.abortRun c r).store = s.store ∧ (s.abortRun c r).washQueue = s.washQueue ∧ (s.abortRun c r).belt = s.belt ∧
    (s.abortRun c r).beltSpeed = s.beltSpeed ∧ (s.abortRun c r).bath = s.bath ∧
    (s.abortRun c r).drawers = s.drawers ∧ (s.abortRun c r).dryQueue = s.dryQueue ∧
    (s.abortRun c r).pending = s.pending := by
  unfold State.abortRun; split <;> simp

@[simp] theorem State.abortAll_frame (s : State) (cs : List ChannelId) (r : AbortReason) :
    (s.abortAll cs r).now = s.now ∧ (s.abortAll cs r).micro = s.micro ∧
    (s.abortAll cs r).sstop = s.sstop ∧ (s.abortAll cs r).rateHigh = s.rateHigh ∧
    (s.abortAll cs r).tpm = s.tpm ∧ (s.abortAll cs r).nextNumber = s.nextNumber ∧
    (s.abortAll cs r).nextOrder = s.nextOrder ∧ (s.abortAll cs r).exposurePool = s.exposurePool ∧
    (s.abortAll cs r).finishPool = s.finishPool ∧ (s.abortAll cs r).working = s.working ∧
    (s.abortAll cs r).store = s.store ∧ (s.abortAll cs r).washQueue = s.washQueue ∧ (s.abortAll cs r).belt = s.belt ∧
    (s.abortAll cs r).beltSpeed = s.beltSpeed ∧ (s.abortAll cs r).bath = s.bath ∧
    (s.abortAll cs r).drawers = s.drawers ∧ (s.abortAll cs r).dryQueue = s.dryQueue ∧
    (s.abortAll cs r).pending = s.pending := by
  unfold State.abortAll
  refine ⟨?_, ?_, ?_, ?_, ?_, ?_, ?_, ?_, ?_, ?_, ?_, ?_, ?_, ?_, ?_, ?_, ?_, ?_⟩
  · exact foldl_keeps (fun t : State => t.now) _ (by intro t x; simp) _ _
  · exact foldl_keeps (fun t : State => t.micro) _ (by intro t x; simp) _ _
  · exact foldl_keeps (fun t : State => t.sstop) _ (by intro t x; simp) _ _
  · exact foldl_keeps (fun t : State => t.rateHigh) _ (by intro t x; simp) _ _
  · exact foldl_keeps (fun t : State => t.tpm) _ (by intro t x; simp) _ _
  · exact foldl_keeps (fun t : State => t.nextNumber) _ (by intro t x; simp) _ _
  · exact foldl_keeps (fun t : State => t.nextOrder) _ (by intro t x; simp) _ _
  · exact foldl_keeps (fun t : State => t.exposurePool) _ (by intro t x; simp) _ _
  · exact foldl_keeps (fun t : State => t.finishPool) _ (by intro t x; simp) _ _
  · exact foldl_keeps (fun t : State => t.working) _ (by intro t x; simp) _ _
  · exact foldl_keeps (fun t : State => t.store) _ (by intro t x; simp) _ _
  · exact foldl_keeps (fun t : State => t.washQueue) _ (by intro t x; simp) _ _
  · exact foldl_keeps (fun t : State => t.belt) _ (by intro t x; simp) _ _
  · exact foldl_keeps (fun t : State => t.beltSpeed) _ (by intro t x; simp) _ _
  · exact foldl_keeps (fun t : State => t.bath) _ (by intro t x; simp) _ _
  · exact foldl_keeps (fun t : State => t.drawers) _ (by intro t x; simp) _ _
  · exact foldl_keeps (fun t : State => t.dryQueue) _ (by intro t x; simp) _ _
  · exact foldl_keeps (fun t : State => t.pending) _ (by intro t x; simp) _ _

@[simp] theorem State.abortUnit_frame (s : State) (u : UnitId) (r : AbortReason) :
    (s.abortUnit u r).now = s.now ∧ (s.abortUnit u r).micro = s.micro ∧
    (s.abortUnit u r).sstop = s.sstop ∧ (s.abortUnit u r).rateHigh = s.rateHigh ∧
    (s.abortUnit u r).tpm = s.tpm ∧ (s.abortUnit u r).nextNumber = s.nextNumber ∧
    (s.abortUnit u r).nextOrder = s.nextOrder ∧ (s.abortUnit u r).exposurePool = s.exposurePool ∧
    (s.abortUnit u r).finishPool = s.finishPool ∧ (s.abortUnit u r).working = s.working ∧
    (s.abortUnit u r).store = s.store ∧ (s.abortUnit u r).washQueue = s.washQueue ∧ (s.abortUnit u r).belt = s.belt ∧
    (s.abortUnit u r).beltSpeed = s.beltSpeed ∧ (s.abortUnit u r).bath = s.bath ∧
    (s.abortUnit u r).drawers = s.drawers ∧ (s.abortUnit u r).dryQueue = s.dryQueue ∧
    (s.abortUnit u r).pending = s.pending := by
  unfold State.abortUnit; split <;> simp

@[simp] theorem State.abortFinisher_frame (s : State) (r : AbortReason) :
    (s.abortFinisher r).now = s.now ∧ (s.abortFinisher r).micro = s.micro ∧
    (s.abortFinisher r).sstop = s.sstop ∧
    (s.abortFinisher r).rateHigh = s.rateHigh ∧ (s.abortFinisher r).tpm = s.tpm ∧
    (s.abortFinisher r).nextNumber = s.nextNumber ∧ (s.abortFinisher r).nextOrder = s.nextOrder ∧
    (s.abortFinisher r).exposurePool = s.exposurePool ∧ (s.abortFinisher r).finishPool = s.finishPool ∧
    (s.abortFinisher r).working = s.working ∧ (s.abortFinisher r).store = s.store ∧
    (s.abortFinisher r).washQueue = s.washQueue ∧ (s.abortFinisher r).belt = s.belt ∧
    (s.abortFinisher r).beltSpeed = s.beltSpeed ∧ (s.abortFinisher r).bath = s.bath ∧
    (s.abortFinisher r).drawers = s.drawers ∧ (s.abortFinisher r).dryQueue = s.dryQueue ∧
    (s.abortFinisher r).pending = s.pending := by
  unfold State.abortFinisher; split <;> simp

@[simp] theorem State.raiseSilent_frame (s : State) (p : Port) :
    (s.raiseSilent p).now = s.now ∧ (s.raiseSilent p).micro = s.micro ∧
    (s.raiseSilent p).sstop = s.sstop ∧ (s.raiseSilent p).rateHigh = s.rateHigh ∧
    (s.raiseSilent p).tpm = s.tpm ∧ (s.raiseSilent p).slots = s.slots ∧ (s.raiseSilent p).nextNumber = s.nextNumber ∧
    (s.raiseSilent p).nextOrder = s.nextOrder ∧ (s.raiseSilent p).exposurePool = s.exposurePool ∧
    (s.raiseSilent p).finishPool = s.finishPool ∧ (s.raiseSilent p).working = s.working ∧
    (s.raiseSilent p).store = s.store ∧ (s.raiseSilent p).channels = s.channels ∧ (s.raiseSilent p).units = s.units ∧
    (s.raiseSilent p).finisher = s.finisher ∧ (s.raiseSilent p).washQueue = s.washQueue ∧
    (s.raiseSilent p).belt = s.belt ∧ (s.raiseSilent p).beltSpeed = s.beltSpeed ∧ (s.raiseSilent p).bath = s.bath ∧
    (s.raiseSilent p).drawers = s.drawers ∧ (s.raiseSilent p).dryQueue = s.dryQueue ∧
    (s.raiseSilent p).counters = s.counters ∧ (s.raiseSilent p).pending = s.pending := by
  unfold State.raiseSilent
  refine ⟨?_, ?_, ?_, ?_, ?_, ?_, ?_, ?_, ?_, ?_, ?_, ?_, ?_, ?_, ?_, ?_, ?_, ?_, ?_, ?_, ?_, ?_, ?_⟩
  · exact foldl_keeps (fun t : State => t.now) _ (by intro t x; simp) _ _
  · exact foldl_keeps (fun t : State => t.micro) _ (by intro t x; simp) _ _
  · exact foldl_keeps (fun t : State => t.sstop) _ (by intro t x; simp) _ _
  · exact foldl_keeps (fun t : State => t.rateHigh) _ (by intro t x; simp) _ _
  · exact foldl_keeps (fun t : State => t.tpm) _ (by intro t x; simp) _ _
  · exact foldl_keeps (fun t : State => t.slots) _ (by intro t x; simp) _ _
  · exact foldl_keeps (fun t : State => t.nextNumber) _ (by intro t x; simp) _ _
  · exact foldl_keeps (fun t : State => t.nextOrder) _ (by intro t x; simp) _ _
  · exact foldl_keeps (fun t : State => t.exposurePool) _ (by intro t x; simp) _ _
  · exact foldl_keeps (fun t : State => t.finishPool) _ (by intro t x; simp) _ _
  · exact foldl_keeps (fun t : State => t.working) _ (by intro t x; simp) _ _
  · exact foldl_keeps (fun t : State => t.store) _ (by intro t x; simp) _ _
  · exact foldl_keeps (fun t : State => t.channels) _ (by intro t x; simp) _ _
  · exact foldl_keeps (fun t : State => t.units) _ (by intro t x; simp) _ _
  · exact foldl_keeps (fun t : State => t.finisher) _ (by intro t x; simp) _ _
  · exact foldl_keeps (fun t : State => t.washQueue) _ (by intro t x; simp) _ _
  · exact foldl_keeps (fun t : State => t.belt) _ (by intro t x; simp) _ _
  · exact foldl_keeps (fun t : State => t.beltSpeed) _ (by intro t x; simp) _ _
  · exact foldl_keeps (fun t : State => t.bath) _ (by intro t x; simp) _ _
  · exact foldl_keeps (fun t : State => t.drawers) _ (by intro t x; simp) _ _
  · exact foldl_keeps (fun t : State => t.dryQueue) _ (by intro t x; simp) _ _
  · exact foldl_keeps (fun t : State => t.counters) _ (by intro t x; simp) _ _
  · exact foldl_keeps (fun t : State => t.pending) _ (by intro t x; simp) _ _

@[simp] theorem State.enterLost_frame (s : State) (p : Port) :
    (s.enterLost p).now = s.now ∧ (s.enterLost p).micro = s.micro ∧
    (s.enterLost p).sstop = s.sstop ∧ (s.enterLost p).rateHigh = s.rateHigh ∧
    (s.enterLost p).nextNumber = s.nextNumber ∧ (s.enterLost p).nextOrder = s.nextOrder ∧
    (s.enterLost p).exposurePool = s.exposurePool ∧ (s.enterLost p).finishPool = s.finishPool ∧
    (s.enterLost p).working = s.working ∧ (s.enterLost p).store = s.store ∧ (s.enterLost p).washQueue = s.washQueue ∧
    (s.enterLost p).belt = s.belt ∧ (s.enterLost p).beltSpeed = s.beltSpeed ∧ (s.enterLost p).bath = s.bath ∧
    (s.enterLost p).drawers = s.drawers ∧ (s.enterLost p).dryQueue = s.dryQueue ∧ (s.enterLost p).pending = s.pending := by
  cases p <;> simp [State.enterLost]

@[simp] theorem State.checkSilence_frame (s : State) :
    (s.checkSilence).now = s.now ∧ (s.checkSilence).micro = s.micro ∧
    (s.checkSilence).sstop = s.sstop ∧ (s.checkSilence).rateHigh = s.rateHigh ∧
    (s.checkSilence).nextNumber = s.nextNumber ∧ (s.checkSilence).nextOrder = s.nextOrder ∧
    (s.checkSilence).exposurePool = s.exposurePool ∧ (s.checkSilence).finishPool = s.finishPool ∧
    (s.checkSilence).working = s.working ∧ (s.checkSilence).store = s.store ∧
    (s.checkSilence).washQueue = s.washQueue ∧ (s.checkSilence).belt = s.belt ∧
    (s.checkSilence).beltSpeed = s.beltSpeed ∧ (s.checkSilence).bath = s.bath ∧
    (s.checkSilence).drawers = s.drawers ∧ (s.checkSilence).dryQueue = s.dryQueue ∧
    (s.checkSilence).pending = s.pending := by
  unfold State.checkSilence
  refine ⟨?_, ?_, ?_, ?_, ?_, ?_, ?_, ?_, ?_, ?_, ?_, ?_, ?_, ?_, ?_, ?_, ?_⟩
  · exact foldl_keeps (fun t : State => t.now) _ (by intro t x; split <;> (try split) <;> simp) _ _
  · exact foldl_keeps (fun t : State => t.micro) _ (by intro t x; split <;> (try split) <;> simp) _ _
  · exact foldl_keeps (fun t : State => t.sstop) _ (by intro t x; split <;> (try split) <;> simp) _ _
  · exact foldl_keeps (fun t : State => t.rateHigh) _ (by intro t x; split <;> (try split) <;> simp) _ _
  · exact foldl_keeps (fun t : State => t.nextNumber) _ (by intro t x; split <;> (try split) <;> simp) _ _
  · exact foldl_keeps (fun t : State => t.nextOrder) _ (by intro t x; split <;> (try split) <;> simp) _ _
  · exact foldl_keeps (fun t : State => t.exposurePool) _ (by intro t x; split <;> (try split) <;> simp) _ _
  · exact foldl_keeps (fun t : State => t.finishPool) _ (by intro t x; split <;> (try split) <;> simp) _ _
  · exact foldl_keeps (fun t : State => t.working) _ (by intro t x; split <;> (try split) <;> simp) _ _
  · exact foldl_keeps (fun t : State => t.store) _ (by intro t x; split <;> (try split) <;> simp) _ _
  · exact foldl_keeps (fun t : State => t.washQueue) _ (by intro t x; split <;> (try split) <;> simp) _ _
  · exact foldl_keeps (fun t : State => t.belt) _ (by intro t x; split <;> (try split) <;> simp) _ _
  · exact foldl_keeps (fun t : State => t.beltSpeed) _ (by intro t x; split <;> (try split) <;> simp) _ _
  · exact foldl_keeps (fun t : State => t.bath) _ (by intro t x; split <;> (try split) <;> simp) _ _
  · exact foldl_keeps (fun t : State => t.drawers) _ (by intro t x; split <;> (try split) <;> simp) _ _
  · exact foldl_keeps (fun t : State => t.dryQueue) _ (by intro t x; split <;> (try split) <;> simp) _ _
  · exact foldl_keeps (fun t : State => t.pending) _ (by intro t x; split <;> (try split) <;> simp) _ _

@[simp] theorem State.countOverrun_frame (s : State) (p : Port) :
    (s.countOverrun p).now = s.now ∧ (s.countOverrun p).micro = s.micro ∧
    (s.countOverrun p).sstop = s.sstop ∧ (s.countOverrun p).rateHigh = s.rateHigh ∧
    (s.countOverrun p).tpm = s.tpm ∧ (s.countOverrun p).slots = s.slots ∧
    (s.countOverrun p).nextNumber = s.nextNumber ∧ (s.countOverrun p).nextOrder = s.nextOrder ∧
    (s.countOverrun p).exposurePool = s.exposurePool ∧ (s.countOverrun p).finishPool = s.finishPool ∧
    (s.countOverrun p).working = s.working ∧ (s.countOverrun p).store = s.store ∧
    (s.countOverrun p).channels = s.channels ∧ (s.countOverrun p).units = s.units ∧
    (s.countOverrun p).finisher = s.finisher ∧ (s.countOverrun p).washQueue = s.washQueue ∧
    (s.countOverrun p).belt = s.belt ∧ (s.countOverrun p).beltSpeed = s.beltSpeed ∧
    (s.countOverrun p).bath = s.bath ∧ (s.countOverrun p).drawers = s.drawers ∧
    (s.countOverrun p).dryQueue = s.dryQueue ∧ (s.countOverrun p).counters = s.counters ∧
    (s.countOverrun p).pending = s.pending := by
  simp [State.countOverrun]

@[simp] theorem State.onlineEntry_frame (s : State) (p : Port) :
    (s.onlineEntry p).now = s.now ∧ (s.onlineEntry p).micro = s.micro ∧
    (s.onlineEntry p).sstop = s.sstop ∧ (s.onlineEntry p).rateHigh = s.rateHigh ∧
    (s.onlineEntry p).nextNumber = s.nextNumber ∧ (s.onlineEntry p).nextOrder = s.nextOrder ∧
    (s.onlineEntry p).exposurePool = s.exposurePool ∧ (s.onlineEntry p).finishPool = s.finishPool ∧
    (s.onlineEntry p).working = s.working ∧ (s.onlineEntry p).store = s.store ∧
    (s.onlineEntry p).channels = s.channels ∧ (s.onlineEntry p).units = s.units ∧
    (s.onlineEntry p).finisher = s.finisher ∧ (s.onlineEntry p).washQueue = s.washQueue ∧
    (s.onlineEntry p).belt = s.belt ∧ (s.onlineEntry p).beltSpeed = s.beltSpeed ∧ (s.onlineEntry p).bath = s.bath ∧
    (s.onlineEntry p).drawers = s.drawers ∧ (s.onlineEntry p).dryQueue = s.dryQueue ∧
    (s.onlineEntry p).counters = s.counters ∧ (s.onlineEntry p).pending = s.pending := by
  unfold State.onlineEntry; dsimp only; split <;> simp

@[simp] theorem State.answer_frame (s : State) (p : Port) (k : Nat) (c : ResultCode) (fs : List Field) :
    (s.answer p k c fs).now = s.now ∧ (s.answer p k c fs).micro = s.micro ∧
    (s.answer p k c fs).sstop = s.sstop ∧
    (s.answer p k c fs).rateHigh = s.rateHigh ∧ (s.answer p k c fs).tpm = s.tpm ∧
    (s.answer p k c fs).slots = s.slots ∧ (s.answer p k c fs).nextNumber = s.nextNumber ∧
    (s.answer p k c fs).nextOrder = s.nextOrder ∧ (s.answer p k c fs).exposurePool = s.exposurePool ∧
    (s.answer p k c fs).finishPool = s.finishPool ∧ (s.answer p k c fs).working = s.working ∧
    (s.answer p k c fs).store = s.store ∧ (s.answer p k c fs).channels = s.channels ∧
    (s.answer p k c fs).units = s.units ∧ (s.answer p k c fs).finisher = s.finisher ∧
    (s.answer p k c fs).washQueue = s.washQueue ∧ (s.answer p k c fs).belt = s.belt ∧
    (s.answer p k c fs).beltSpeed = s.beltSpeed ∧ (s.answer p k c fs).bath = s.bath ∧
    (s.answer p k c fs).drawers = s.drawers ∧ (s.answer p k c fs).dryQueue = s.dryQueue ∧
    (s.answer p k c fs).counters = s.counters ∧ (s.answer p k c fs).pending = s.pending := by
  simp [State.answer]

@[simp] theorem State.receiveByte_frame (s : State) (p : Port) (b : Byte) :
    (s.receiveByte p b).now = s.now ∧ (s.receiveByte p b).micro = s.micro ∧
    (s.receiveByte p b).sstop = s.sstop ∧
    (s.receiveByte p b).rateHigh = s.rateHigh ∧ (s.receiveByte p b).tpm = s.tpm ∧
    (s.receiveByte p b).slots = s.slots ∧ (s.receiveByte p b).nextNumber = s.nextNumber ∧
    (s.receiveByte p b).nextOrder = s.nextOrder ∧ (s.receiveByte p b).exposurePool = s.exposurePool ∧
    (s.receiveByte p b).finishPool = s.finishPool ∧ (s.receiveByte p b).working = s.working ∧
    (s.receiveByte p b).store = s.store ∧ (s.receiveByte p b).channels = s.channels ∧
    (s.receiveByte p b).units = s.units ∧ (s.receiveByte p b).finisher = s.finisher ∧
    (s.receiveByte p b).washQueue = s.washQueue ∧ (s.receiveByte p b).belt = s.belt ∧
    (s.receiveByte p b).beltSpeed = s.beltSpeed ∧ (s.receiveByte p b).bath = s.bath ∧
    (s.receiveByte p b).drawers = s.drawers ∧ (s.receiveByte p b).dryQueue = s.dryQueue ∧
    (s.receiveByte p b).counters = s.counters ∧ (s.receiveByte p b).pending = s.pending := by
  simp [State.receiveByte]

end Sys2Proof.Machine
end

