-- ==== Sys2Proof/Laws/Bath.lean ====
section
/-! SUPPORT. What the judging of the bath condition leaves (R122, R123, R127). -/

namespace Sys2Proof.Machine

/-- R122: the account after its condition was judged. -/
theorem State.judgeBath_bath (s : State) (b : Bath) :
    (s.judgeBath b).bath = { b with condition := b.judged s.working.line } := by
  unfold State.judgeBath; dsimp only
  split
  · simp
  · split <;> simp

/-- The condition does not enter its own judging. -/
@[simp] theorem Bath.judged_condition (b : Bath) (c : BathCondition) (l : LineSettings) :
    ({ b with condition := c } : Bath).judged l = b.judged l := rfl

theorem State.judgeBath_agrees (s : State) (b : Bath) : BathAgrees (s.judgeBath b) := by
  refine .inr ?_
  rw [s.judgeBath_bath, show (s.judgeBath b).working = s.working by simp]
  rfl

/-- R122: a recomputation leaves an UNKNOWN bath UNKNOWN and judges every other. -/
theorem State.recomputeBath_bath (s : State) (b : Bath) :
    (s.recomputeBath b).bath =
      if s.bath.condition = .unknown then b else { b with condition := b.judged s.working.line } := by
  unfold State.recomputeBath
  split
  · rfl
  · exact s.judgeBath_bath b

theorem State.recomputeBath_agrees (s : State) (b : Bath) (h : b.condition = s.bath.condition) :
    BathAgrees (s.recomputeBath b) := by
  unfold BathAgrees
  rw [s.recomputeBath_bath, show (s.recomputeBath b).working = s.working by simp]
  split
  · rename_i g; exact .inl (h.trans g)
  · exact .inr rfl

end Sys2Proof.Machine
end

