-- ==== Sys2Proof/Laws/Channels.lean ====
section
/-! SUPPORT. What the shared operations do to the lamp permits: reports, aborts and tails light no lamp. -/

namespace Sys2Proof.Machine

/-! ## Channel records -/

@[simp] theorem Channel.toTail_lamp (c : Channel) (e : LastEnd) (t : Nat) :
    (c.toTail e t).state = .tail ∧ (c.toTail e t).permit = false ∧ (c.toTail e t).run = c.run ∧
    (c.toTail e t).accumulator = c.accumulator ∧ (c.toTail e t).lastEnd = e ∧ (c.toTail e t).latched = c.latched :=
  ⟨rfl, rfl, rfl, rfl, rfl, rfl⟩

@[simp] theorem Channel.toIdle_lamp (c : Channel) :
    c.toIdle.state = .idle ∧ c.toIdle.permit = c.permit ∧ c.toIdle.accumulator = c.accumulator ∧
    c.toIdle.target = c.target ∧ c.toIdle.idleCount = 0 := ⟨rfl, rfl, rfl, rfl, rfl⟩

@[simp] theorem Channel.endGrace_lamp (c : Channel) (t us : Nat) :
    (c.endGrace t us).state = c.state ∧ (c.endGrace t us).permit = c.permit := ⟨rfl, rfl⟩

@[simp] theorem Channel.completed_lamp (c : Channel) (x : ChanSettings) (d : Docket) (t i : Nat) :
    (c.completed x d t i).state = c.state ∧ (c.completed x d t i).permit = c.permit := ⟨rfl, rfl⟩

/-- R51: a taken start lights the lamp, whatever the grace. -/
@[simp] theorem Channel.started_lamp (c : Channel) (x : ChanSettings) (d : Docket) (t i now us : Nat) :
    (c.started x d t i now us).state = .exposing ∧ (c.started x d t i now us).permit = true := by
  unfold Channel.started; dsimp only
  split <;> exact ⟨rfl, rfl⟩

/-! ## Operations that light no lamp -/

/-- From `s` to `t` the lamp lines stay in agreement and no channel enters EXPOSING. -/
structure LampsFall (s t : State) : Prop where
  agree : LampLinesAgree s → LampLinesAgree t
  lit   : ∀ c, (t.chan c).state = .exposing → (s.chan c).state = .exposing

theorem LampsFall.same {s t : State} (h : t.channels = s.channels) : LampsFall s t := by
  have hc : ∀ c, t.chan c = s.chan c := fun c => by simp [State.chan, h]
  exact ⟨fun g c => by rw [hc]; exact g c, fun c g => by rw [← hc]; exact g⟩

theorem LampsFall.refl (s : State) : LampsFall s s := .same rfl

theorem LampsFall.trans {s t u : State} (h : LampsFall s t) (g : LampsFall t u) : LampsFall s u :=
  ⟨fun x => g.agree (h.agree x), fun c x => h.lit c (g.lit c x)⟩

theorem LampsFall.thenSame {s t u : State} (h : LampsFall s t) (g : u.channels = t.channels) : LampsFall s u :=
  h.trans (.same g)

/-- A channel record replaced by one that is dark, or that is lit as it was. -/
theorem State.setChan_lampsFall (s : State) (c : ChannelId) (r : Channel)
    (h : (r.permit = false ∧ r.state ≠ .exposing) ∨ (r.permit = (s.chan c).permit ∧ r.state = (s.chan c).state)) :
    LampsFall s (s.setChan c r) where
  agree g x := by
    rw [State.setChan_chan]
    split
    · rename_i e; subst e
      obtain h | h := h
      · simp [h]
      · rw [h.1, h.2]; exact g x
    · exact g x
  lit x g := by
    rw [State.setChan_chan] at g
    split at g
    · rename_i e; subst e
      obtain h | h := h
      · exact absurd g h.2
      · rw [← h.2]; exact g
    · exact g

theorem State.chanToTail_lampsFall (s : State) (c : ChannelId) (e : LastEnd) : LampsFall s (s.chanToTail c e) :=
  s.setChan_lampsFall c _ (.inl ⟨rfl, by simp⟩)

/-- A tail's end: the channel, dark in TAIL, is dark in IDLE. -/
theorem State.endTail_lampsFall (s : State) (c : ChannelId) (h : (s.chan c).state = .tail) :
    LampsFall s (s.endTail c) := by
  have key (t : State) (ht : t.channels = s.channels) : LampsFall s (t.setChan c (t.chan c).toIdle) := by
    have hc : ∀ x, t.chan x = s.chan x := fun x => by simp [State.chan, ht]
    refine ⟨fun g x => ?_, fun x g => ?_⟩
    · rw [State.setChan_chan]
      split
      · rename_i e; subst e
        have := g x
        simp only [Channel.toIdle_lamp, hc]
        simp [h] at this
        simp [this]
      · rw [hc]; exact g x
    · rw [State.setChan_chan] at g
      split at g
      · simp at g
      · rw [← hc]; exact g
  unfold State.endTail; dsimp only
  split
  · split <;> exact key _ (by simp)
  · exact key s rfl

theorem State.endTailIfZero_lampsFall (s : State) (c : ChannelId) : LampsFall s (s.endTailIfZero c) := by
  unfold State.endTailIfZero
  split
  · rename_i h; exact s.endTail_lampsFall c h.1
  · exact .refl s

theorem State.haltFinisher_lampsFall (s : State) (n : Nat) (x y : Mark) (c : ChannelId) (r : AbortReason)
    (h : HoldReason) : LampsFall s (s.haltFinisher n x y c r h) := by
  unfold State.haltFinisher; dsimp only
  generalize (if c = .FC then y else x) = o
  split
  · refine LampsFall.trans (LampsFall.thenSame (s.chanToTail_lampsFall (sister c) (.aborted r)) ?_)
      (State.endTailIfZero_lampsFall _ _)
    simp
  · exact .same (by simp)

theorem State.reportAborted_lampsFall (s : State) (c : ChannelId) (n : Nat) (r : AbortReason) :
    LampsFall s (s.reportAborted c n r) := by
  unfold State.reportAborted
  split
  · exact .refl s
  · split
    · split
      · exact .same (by simp)
      · exact .refl s
    · split
      · split
        · exact s.haltFinisher_lampsFall ..
        · exact .refl s
      · exact .refl s

theorem State.reachRun_lampsFall (s : State) (c : ChannelId) : LampsFall s (s.reachRun c) := by
  unfold State.reachRun
  refine LampsFall.trans (LampsFall.thenSame (s.chanToTail_lampsFall c .reached) ?_) (State.endTailIfZero_lampsFall _ _)
  simp

theorem State.abortRun_lampsFall (s : State) (c : ChannelId) (r : AbortReason) : LampsFall s (s.abortRun c r) := by
  unfold State.abortRun
  split
  · exact ((s.chanToTail_lampsFall c _).trans (State.reportAborted_lampsFall _ ..)).trans
      (State.endTailIfZero_lampsFall _ _)
  · exact .refl s

/-- R66: an aborted channel is not EXPOSING. -/
theorem State.abortRun_dark (s : State) (c : ChannelId) (r : AbortReason) : ((s.abortRun c r).chan c).state ≠ .exposing := by
  unfold State.abortRun
  split
  · intro h
    have := (State.reportAborted_lampsFall _ c _ r).lit c ((State.endTailIfZero_lampsFall _ c).lit c h)
    simp [State.chanToTail] at this
  · assumption

theorem foldl_lampsFall {β : Type} (f : State → β → State) (h : ∀ t x, LampsFall t (f t x)) (l : List β) (s : State) :
    LampsFall s (l.foldl f s) := by
  induction l generalizing s with
  | nil => exact .refl s
  | cons x l ih => exact (h s x).trans (ih _)

/-- Whatever its number, an order holds exactly the members of the list. -/
theorem arrange_perm {α : Type} (l : List α) : ∀ k, (arrange k l).Perm l := by
  induction l with
  | nil => exact fun _ => .refl _
  | cons x l ih =>
    intro k
    refine (List.perm_insertIdx x _ ?_).trans ((ih _).cons x)
    rw [(ih _).length_eq]
    exact Nat.le_of_lt_succ (Nat.mod_lt _ (Nat.succ_pos _))

theorem mem_arrange {α : Type} {k : Nat} {l : List α} {x : α} : x ∈ arrange k l ↔ x ∈ l := (arrange_perm l k).mem_iff

theorem State.abortAll_lampsFall (s : State) (cs : List ChannelId) (r : AbortReason) : LampsFall s (s.abortAll cs r) :=
  foldl_lampsFall _ (fun t c => t.abortRun_lampsFall c r) cs s

/-- R70: after an abort asked of them, none of a list of channels is EXPOSING. -/
theorem State.abortAll_dark (s : State) (cs : List ChannelId) (r : AbortReason) (c : ChannelId) (h : c ∈ cs) :
    ((s.abortAll cs r).chan c).state ≠ .exposing := by
  induction cs generalizing s with
  | nil => simp at h
  | cons x cs ih =>
    rw [State.abortAll, List.foldl_cons]
    obtain rfl | h := List.mem_cons.mp h
    · exact fun g => s.abortRun_dark c r ((State.abortAll_lampsFall _ cs r).lit c g)
    · exact ih (s.abortRun x r) h

theorem State.abortUnit_lampsFall (s : State) (u : UnitId) (r : AbortReason) : LampsFall s (s.abortUnit u r) := by
  unfold State.abortUnit
  split
  · exact s.abortRun_lampsFall ..
  · exact .refl s

theorem State.abortFinisher_lampsFall (s : State) (r : AbortReason) : LampsFall s (s.abortFinisher r) := by
  unfold State.abortFinisher
  split
  · exact s.abortAll_lampsFall ..
  · exact .refl s

/-- The start of line seconds sets idle counts and nothing else of a channel (R62). -/
theorem State.lineSeconds_chan (s : State) (k : Nat) (c : ChannelId) :
    (s.lineSeconds k).chan c = if k = 0 then s.chan c else { s.chan c with idleCount := 0 } := by
  unfold State.lineSeconds
  split <;> simp [State.chan]

theorem State.pass_lampsFall (s : State) (ms : Nat) : LampsFall s (s.pass ms) := by
  have hc : ∀ c, ((s.pass ms).chan c).permit = (s.chan c).permit ∧ ((s.pass ms).chan c).state = (s.chan c).state := by
    intro c
    show (((s.lineSeconds _).chan c).permit = _ ∧ ((s.lineSeconds _).chan c).state = _)
    rw [State.lineSeconds_chan]
    split <;> exact ⟨rfl, rfl⟩
  exact ⟨fun g c => by rw [(hc c).1, (hc c).2]; exact g c, fun c g => by rw [← (hc c).2]; exact g⟩

theorem State.passMicros_lampsFall (s : State) (us : Nat) : LampsFall s (s.passMicros us) :=
  (s.pass_lampsFall _).thenSame rfl

theorem State.enterLost_lampsFall (s : State) (p : Port) : LampsFall s (s.enterLost p) := by
  have base : LampsFall s ((s.setPort p { s.port p with state := .lost }).raiseSilent p) := .same (by simp)
  cases p
  · exact base
  · exact base.trans (State.abortUnit_lampsFall ..)
  · exact base.trans (State.abortUnit_lampsFall ..)
  · show LampsFall s (State.updatePermit _)
    exact base.trans (.same (by simp))
  · exact base.trans (State.abortFinisher_lampsFall ..)

theorem State.checkSilence_lampsFall (s : State) : LampsFall s s.checkSilence := by
  refine foldl_lampsFall _ (fun t p => ?_) _ s
  split
  · split
    · exact t.enterLost_lampsFall p
    · exact .refl t
  · exact .refl t

/-- R50: a start that is not refused finds every channel IDLE and SSTOP released. -/
theorem State.startRefusal_none {s : State} {cs : List ChannelId} (h : s.startRefusal cs = none) :
    s.sstop = false ∧ ∀ c ∈ cs, (s.chan c).state = .idle := by
  unfold State.startRefusal at h
  split at h
  · simp at h
  · split at h
    · simp at h
    · split at h
      · simp at h
      · rename_i _ h2 h3
        exact ⟨by simpa using h3, by simpa using h2⟩

end Sys2Proof.Machine
end

