-- ==== Sys2Proof/Laws/Dockets.lean ====
section
/-! SUPPORT. Looking a docket up after the docket table was updated, and what the updates do to the numbers it holds. -/

namespace Sys2Proof.Machine

@[simp] theorem toList_mapAll {α β : Type} {n : Nat} (f : α → β) (v : Vector α n) :
    (mapAll f v).toList = v.toList.map f := by
  apply List.ext_getElem
  · simp
  · intro i h1 h2; simp [mapAll]

/-- The look-up of R1, on a list of slots. -/
def findNumber (n : Nat) (l : List (Option Docket)) : Option Docket :=
  l.findSome? fun o => o.filter fun d => d.number == n

theorem State.docket_eq (s : State) (n : Nat) : s.docket n = findNumber n s.slots.toList := rfl

theorem findNumber_map (n m : Nat) (f : Docket → Docket) (hf : ∀ d, (f d).number = d.number)
    (l : List (Option Docket)) :
    findNumber n (l.map fun o => o.map fun d => if d.number = m then f d else d) =
      (findNumber n l).map fun d => if d.number = m then f d else d := by
  induction l with
  | nil => rfl
  | cons o l ih =>
    simp only [findNumber, List.map_cons, List.findSome?_cons] at *
    cases o with
    | none => simpa using ih
    | some d =>
      have hn : ((if d.number = m then f d else d).number == n) = (d.number == n) := by split <;> simp [hf]
      simp only [Option.map_some, Option.filter_some, hn]
      split
      · rename_i h; split at h <;> simp_all
      · rename_i h; split at h <;> simp_all

/-- A docket found carries the number it was looked for by. -/
theorem State.docket_number {s : State} {n : Nat} {d : Docket} (h : s.docket n = some d) : d.number = n := by
  obtain ⟨o, _, ho⟩ := List.exists_of_findSome?_eq_some h
  cases o with
  | none => simp at ho
  | some e => simp [Option.filter_some] at ho; obtain ⟨h1, rfl⟩ := ho; exact h1

/-- The docket updated is found with the update. -/
theorem State.updateDocket_docket_self (s : State) (n : Nat) (f : Docket → Docket)
    (hf : ∀ d, (f d).number = d.number) : (s.updateDocket n f).docket n = (s.docket n).map f := by
  rw [State.docket_eq, State.docket_eq, State.updateDocket, State.setSlots_slots, toList_mapAll,
    findNumber_map n n f hf]
  cases h : findNumber n s.slots.toList with
  | none => rfl
  | some d => simp [State.docket_number (s := s) (h : s.docket n = some d)]

/-- Every other docket is found as it was. -/
theorem State.updateDocket_docket_ne (s : State) {n m : Nat} (f : Docket → Docket) (hf : ∀ d, (f d).number = d.number)
    (h : m ≠ n) : (s.updateDocket n f).docket m = s.docket m := by
  rw [State.docket_eq, State.docket_eq, State.updateDocket, State.setSlots_slots, toList_mapAll,
    findNumber_map m n f hf]
  cases g : findNumber m s.slots.toList with
  | none => rfl
  | some d =>
    have hd := State.docket_number (s := s) (g : s.docket m = some d)
    have : d.number ≠ n := fun e => h (hd ▸ e)
    simp [this]

/-! ## Numbers (R1) -/

/-- `t` has, slot by slot, dockets of the numbers `s` has, or fewer. -/
def NumbersKept (s t : State) : Prop :=
  ∀ (i : Fin 48) (e : Docket), t.slots[i] = some e → ∃ d, s.slots[i] = some d ∧ d.number = e.number

theorem NumbersKept.unique {s t : State} (h : NumbersKept s t) (hu : NumbersUnique s) : NumbersUnique t := by
  intro i j d e hi hj hn
  obtain ⟨d', hd, h1⟩ := h i d hi
  obtain ⟨e', he, h2⟩ := h j e hj
  exact hu i j d' e' hd he (by omega)

theorem NumbersKept.same {s t : State} (h : t.slots = s.slots) : NumbersKept s t :=
  fun i e he => ⟨e, by rw [← h]; exact he, rfl⟩

theorem NumbersKept.trans {s t u : State} (h : NumbersKept s t) (g : NumbersKept t u) : NumbersKept s u := by
  intro i e he
  obtain ⟨d, hd, h1⟩ := g i e he
  obtain ⟨d', hd', h2⟩ := h i d hd
  exact ⟨d', hd', by omega⟩

theorem State.updateDocket_numbersKept (s : State) (n : Nat) (f : Docket → Docket)
    (hf : ∀ d, (f d).number = d.number) : NumbersKept s (s.updateDocket n f) := by
  intro i e he
  simp only [State.updateDocket, State.setSlots_slots, Fin.getElem_fin, getElem_mapAll, Option.map_eq_some_iff] at he
  obtain ⟨d, hd, rfl⟩ := he
  exact ⟨d, hd, by split <;> simp [hf]⟩

theorem State.freeSlotOf_numbersKept (s : State) (n : Nat) : NumbersKept s (s.freeSlotOf n) := by
  intro i e he
  simp only [State.freeSlotOf, State.setSlots_slots, Fin.getElem_fin, getElem_mapAll, Option.filter_eq_some_iff] at he
  exact ⟨e, he.1, rfl⟩

/-- A run docket updated is the docket updated, or nothing. -/
theorem State.updateRunDocket_cases (s : State) (r : RunDocket) (f : Docket → Docket) :
    (s.updateRunDocket r f = s.updateDocket r.number f ∧ ∃ d, s.docket r.number = some d ∧ d.regOrder = r.order) ∨
    (s.updateRunDocket r f = s ∧ ∀ d, s.docket r.number = some d → d.regOrder ≠ r.order) := by
  unfold State.updateRunDocket State.runDocket
  cases h : s.docket r.number with
  | none => simp
  | some d =>
    by_cases g : d.regOrder = r.order <;> simp [Option.filter_some, g]

end Sys2Proof.Machine
end

