-- ==== Sys2Proof/Laws/Dryer.lean ====
section
/-! SUPPORT. The drawer assignment (R141) leaves no docket waiting while a drawer in service is EMPTY. -/

namespace Sys2Proof.Machine

/-- A drawer that can be given (R137). -/
def State.giveable (s : State) (d : Fin 8) : Bool := s.inService d && decide (s.drawers[d] = .empty)

/-- How many drawers can be given. -/
def State.giveableCount (s : State) : Nat := (List.finRange 8).countP s.giveable

theorem State.freeDrawer_none_iff (s : State) : s.freeDrawer = none ↔ s.giveableCount = 0 := by
  rw [State.freeDrawer, List.find?_eq_none, State.giveableCount, List.countP_eq_zero]
  rfl

theorem State.freeDrawer_some {s : State} {d : Fin 8} (h : s.freeDrawer = some d) : s.giveable d = true :=
  List.find?_some (p := s.giveable) h

/-- A drawer given is RESERVED, the others are as they were. -/
theorem State.giveDrawer_drawers (s : State) (d : Fin 8) (n : Nat) :
    (s.giveDrawer d n).drawers = s.drawers.set d (.reserved n) := by simp [State.giveDrawer]

theorem State.giveDrawer_dryQueue (s : State) (d : Fin 8) (n : Nat) :
    (s.giveDrawer d n).dryQueue = s.dryQueue.drop 1 := by simp [State.giveDrawer]

theorem State.giveDrawer_giveable (s : State) (d e : Fin 8) (n : Nat) :
    (s.giveDrawer d n).giveable e = (s.giveable e && decide (e ≠ d)) := by
  have hw : (s.giveDrawer d n).working = s.working := by simp
  unfold State.giveable State.inService
  rw [State.giveDrawer_drawers, hw]
  by_cases h : e = d
  · subst h; simp
  · have : d.val ≠ e.val := fun g => h (Fin.ext g).symm
    simp [h, this]

theorem countP_erase_one {l : List (Fin 8)} (hl : l.Nodup) (p : Fin 8 → Bool) {d : Fin 8} (hd : d ∈ l) (hp : p d = true) :
    l.countP (fun e => p e && decide (e ≠ d)) + 1 = l.countP p := by
  induction l with
  | nil => simp at hd
  | cons a l ih =>
    obtain ⟨ha, hl⟩ := List.nodup_cons.mp hl
    by_cases e : a = d
    · subst e
      have : l.countP (fun e => p e && decide (e ≠ a)) = l.countP p := by
        apply List.countP_congr
        intro x hx
        have : x ≠ a := fun g => ha (g ▸ hx)
        simp [this]
      rw [List.countP_cons, List.countP_cons, this]
      simp [hp]
    · have hd : d ∈ l := by simpa [Ne.symm e] using hd
      have := ih hl hd
      simp only [List.countP_cons, ne_eq, e, not_false_eq_true, decide_true, Bool.and_true] at *
      omega

theorem State.giveDrawer_count {s : State} {d : Fin 8} (n : Nat) (h : s.giveable d = true) :
    (s.giveDrawer d n).giveableCount + 1 = s.giveableCount := by
  unfold State.giveableCount
  rw [show (s.giveDrawer d n).giveable = fun e => s.giveable e && decide (e ≠ d) from
    funext fun e => s.giveDrawer_giveable d e n]
  exact countP_erase_one (List.nodup_finRange 8) _ (List.mem_finRange d) h

theorem State.assignUpTo_given (k : Nat) (s : State) (h : s.giveableCount ≤ k) :
    DrawersGiven (State.assignUpTo k s) := by
  induction k generalizing s with
  | zero => exact .inr ((State.freeDrawer_none_iff s).mpr (by omega))
  | succ k ih =>
    unfold State.assignUpTo
    split
    · rename_i d n q hd hq
      refine ih _ ?_
      have := State.giveDrawer_count n (State.freeDrawer_some hd)
      omega
    · rename_i hno
      unfold DrawersGiven
      cases hf : s.freeDrawer with
      | none => exact .inr rfl
      | some d =>
        cases hq : s.dryQueue with
        | nil => exact .inl rfl
        | cons n q => exact absurd hq (hno d n q hf)

/-- R141: "Each application ends when either the queue is empty, or no drawer in service is EMPTY." -/
theorem State.assignDrawers_given (s : State) : DrawersGiven s.assignDrawers := by
  refine State.assignUpTo_given 8 s ?_
  exact Nat.le_trans List.countP_le_length (by simp)

theorem State.joinDry_given (s : State) (n : Nat) : DrawersGiven (s.joinDry n) := State.assignDrawers_given _

/-- What the assignment depends on: the drawers, DRAWERS and the queue. -/
theorem DrawersGiven.congr {s t : State} (h : DrawersGiven s) (hd : t.drawers = s.drawers)
    (hw : t.working.line.drawers = s.working.line.drawers) (hq : t.dryQueue = s.dryQueue) : DrawersGiven t := by
  have : t.freeDrawer = s.freeDrawer := by
    unfold State.freeDrawer State.inService
    rw [hd, hw]
  unfold DrawersGiven
  rw [this, hq]
  exact h

end Sys2Proof.Machine
end

