-- ==== Sys2Proof/Laws/Ports.lean ====
section
/-! SUPPORT. What raising a notice does to the port records, and which shared operations change them by raises only. -/

namespace Sys2Proof.Machine

/-! ## A raise (R166) -/

@[simp] theorem PortRecord.evaluate_frame (r : PortRecord) (l : Vector Nat 17) :
    (r.evaluate l).state = r.state ∧ (r.evaluate l).lastHeard = r.lastHeard ∧ (r.evaluate l).answer = r.answer ∧
    (r.evaluate l).framing = r.framing ∧ (r.evaluate l).crc = r.crc ∧ (r.evaluate l).overrun = r.overrun ∧
    (r.evaluate l).receiver = r.receiver ∧ (r.evaluate l).notices = r.notices ∧ (r.evaluate l).snapshot = r.snapshot ∧
    (r.evaluate l).threshold = r.threshold ∧ (r.evaluate l).attention = r.called l := by simp [PortRecord.evaluate]

@[simp] theorem PortRecord.raise_frame (r : PortRecord) (k : NoticeKind) (n : Option Nat) (t : Nat) (l : Vector Nat 17) :
    (r.raise k n t l).state = r.state ∧ (r.raise k n t l).lastHeard = r.lastHeard ∧
    (r.raise k n t l).answer = r.answer ∧ (r.raise k n t l).framing = r.framing ∧ (r.raise k n t l).crc = r.crc ∧
    (r.raise k n t l).overrun = r.overrun ∧ (r.raise k n t l).receiver = r.receiver ∧
    (r.raise k n t l).snapshot = r.snapshot ∧ (r.raise k n t l).threshold = r.threshold := by simp [PortRecord.raise]

/-- The notice table after a raise: the record of the kind raised, and no other, is the raised one. -/
@[simp] theorem PortRecord.raise_notices (r : PortRecord) (k : NoticeKind) (n : Option Nat) (t : Nat)
    (l : Vector Nat 17) :
    (r.raise k n t l).notices = r.notices.set k.idx (some (raisedNotice r.notices[k.idx] n t)) := by
  simp [PortRecord.raise]

/-- The attention line depends on the notices, the threshold and the levels only. -/
theorem PortRecord.called_congr {r q : PortRecord} (l : Vector Nat 17) (hn : r.notices = q.notices)
    (ht : r.threshold = q.threshold) : r.called l = q.called l := by simp [PortRecord.called, hn, ht]

@[simp] theorem PortRecord.called_evaluate (r : PortRecord) (l m : Vector Nat 17) :
    (r.evaluate l).called m = r.called m := PortRecord.called_congr m (by simp) (by simp)

theorem PortRecord.raise_attention (r : PortRecord) (k : NoticeKind) (n : Option Nat) (t : Nat) (l : Vector Nat 17) :
    (r.raise k n t l).attention = (r.raise k n t l).called l := by
  unfold PortRecord.raise; simp

/-- R166: everything a raise does to the ports. -/
theorem State.raise_port (s : State) (p q : Port) (k : NoticeKind) (n : Option Nat) :
    (s.raise p k n).port q =
      if q = p ∧ routed p k = true then (s.port p).raise k n s.seconds s.working.levels else s.port q := by
  unfold State.raise
  split <;> rename_i h
  · simp [h]
  · simp [h]

theorem NoticeKind.idx_inj {k j : NoticeKind} (h : k.idx = j.idx) : k = j := by
  cases k <;> cases j <;> first | rfl | (exact absurd h (by decide))

/-! ## Operations that change the ports by raises only -/

/-- From `s` to `t` the working copy is the same and every port differs at most in its notices and attention line, as
raises leave them. -/
structure RaisedOnly (s t : State) : Prop where
  working   : t.working = s.working
  kept      : ∀ q, t.port q = { s.port q with notices := (t.port q).notices, attention := (t.port q).attention }
  attention : AttentionAgrees s → AttentionAgrees t
  routed    : NoticesRouted s → NoticesRouted t

theorem RaisedOnly.portState {s t : State} (h : RaisedOnly s t) (q : Port) : (t.port q).state = (s.port q).state := by
  rw [h.kept q]

theorem RaisedOnly.same {s t : State} (hp : t.ports = s.ports) (hw : t.working = s.working) : RaisedOnly s t := by
  have hq : ∀ q, t.port q = s.port q := fun q => by simp [State.port, hp]
  exact ⟨hw, fun q => by rw [hq], fun h q => by rw [hq, hw]; exact h q, fun h q k => by rw [hq]; exact h q k⟩

theorem RaisedOnly.refl (s : State) : RaisedOnly s s := .same rfl rfl

theorem RaisedOnly.trans {s t u : State} (h : RaisedOnly s t) (g : RaisedOnly t u) : RaisedOnly s u where
  working := by rw [g.working, h.working]
  kept q := by rw [g.kept q, h.kept q]
  attention x := g.attention (h.attention x)
  routed x := g.routed (h.routed x)

theorem RaisedOnly.thenSame {s t u : State} (h : RaisedOnly s t) (hp : u.ports = t.ports) (hw : u.working = t.working) :
    RaisedOnly s u := h.trans (.same hp hw)

theorem State.raise_working (s : State) (p : Port) (k : NoticeKind) (n : Option Nat) :
    (s.raise p k n).working = s.working := by simp

theorem State.raise_raisedOnly (s : State) (p : Port) (k : NoticeKind) (n : Option Nat) :
    RaisedOnly s (s.raise p k n) where
  working := by simp
  kept q := by
    rw [State.raise_port]
    split
    · rename_i h; simp [h.1, PortRecord.raise, PortRecord.evaluate]
    · rfl
  attention h q := by
    rw [State.raise_port, State.raise_working]
    split
    · exact PortRecord.raise_attention ..
    · exact h q
  routed h q j hj := by
    rw [State.raise_port] at hj
    split at hj
    · rename_i hq
      rw [hq.1]
      by_cases hk : j = k
      · rw [hk]; exact hq.2
      · refine h p j ?_
        have : k.idx.val ≠ j.idx.val := fun e => hk (NoticeKind.idx_inj (Fin.ext e)).symm
        simpa [Vector.getElem_set, this] using hj
    · exact h q j hj

theorem foldl_raisedOnly {β : Type} (f : State → β → State) (h : ∀ t x, RaisedOnly t (f t x)) (l : List β) (s : State) :
    RaisedOnly s (l.foldl f s) := by
  induction l generalizing s with
  | nil => exact .refl s
  | cons x l ih => exact (h s x).trans (ih _)

/-- A raise on a state whose ports and working copy are those of `s`. -/
theorem RaisedOnly.raise {s t : State} (h : RaisedOnly s t) (p : Port) (k : NoticeKind) (n : Option Nat) :
    RaisedOnly s (t.raise p k n) := h.trans (t.raise_raisedOnly p k n)

theorem RaisedOnly.offerFor {s t : State} (h : RaisedOnly s t) (e : CounterEvent) (a n : Nat) (w : Bool) :
    RaisedOnly s (t.offerFor e a n w) := h.thenSame (by simp) (by simp)

theorem RaisedOnly.endTailIfZero {s t : State} (h : RaisedOnly s t) (c : ChannelId) :
    RaisedOnly s (t.endTailIfZero c) := h.thenSame (by simp) (by simp)

theorem State.joinWash_raisedOnly (s : State) (n : Nat) : RaisedOnly s (s.joinWash n) := by
  unfold State.joinWash; dsimp only
  split
  · exact RaisedOnly.raise (.same (by simp) (by simp)) ..
  · exact .same (by simp) (by simp)

theorem State.enterHeld_raisedOnly (s : State) (n : Nat) (r : HoldReason) (st : HoldStage) (l : HoldLocation) :
    RaisedOnly s (s.enterHeld n r st l) := by
  unfold State.enterHeld
  exact RaisedOnly.offerFor (RaisedOnly.raise (.same (by simp) (by simp)) ..) ..

theorem State.judgeBath_raisedOnly (s : State) (b : Bath) : RaisedOnly s (s.judgeBath b) := by
  unfold State.judgeBath; dsimp only
  split
  · exact .same (by simp) (by simp)
  · split
    · exact RaisedOnly.raise (RaisedOnly.raise (.same (by simp) (by simp)) ..) ..
    · exact .same (by simp) (by simp)

theorem State.recomputeBath_raisedOnly (s : State) (b : Bath) : RaisedOnly s (s.recomputeBath b) := by
  unfold State.recomputeBath
  split
  · exact .same (by simp) (by simp)
  · exact s.judgeBath_raisedOnly b

theorem State.giveDrawer_raisedOnly (s : State) (d : Fin 8) (n : Nat) : RaisedOnly s (s.giveDrawer d n) := by
  unfold State.giveDrawer
  exact RaisedOnly.raise (.same (by simp) (by simp)) ..

theorem State.assignUpTo_raisedOnly (k : Nat) (s : State) : RaisedOnly s (State.assignUpTo k s) := by
  induction k generalizing s with
  | zero => exact .refl s
  | succ k ih =>
    unfold State.assignUpTo
    split
    · exact (s.giveDrawer_raisedOnly ..).trans (ih _)
    · exact .refl s

theorem State.assignDrawers_raisedOnly (s : State) : RaisedOnly s s.assignDrawers := State.assignUpTo_raisedOnly 8 s

theorem State.joinDry_raisedOnly (s : State) (n : Nat) : RaisedOnly s (s.joinDry n) := by
  unfold State.joinDry
  exact RaisedOnly.trans (.same (by simp) (by simp)) (State.assignDrawers_raisedOnly _)

theorem State.stageReached_raisedOnly (s : State) (u : UnitId) (n : Nat) (st : Stage) :
    RaisedOnly s (s.stageReached u n st) := by
  cases st with
  | back =>
    show RaisedOnly s (s.backReached u n)
    unfold State.backReached
    exact RaisedOnly.raise (.same (by simp) (by simp)) ..
  | main =>
    show RaisedOnly s (s.mainReached u n)
    unfold State.mainReached
    exact RaisedOnly.offerFor (RaisedOnly.raise (RaisedOnly.trans (.same (by simp) (by simp))
      (State.joinWash_raisedOnly _ n)) ..) ..

theorem State.haltUnit_raisedOnly (s : State) (u : UnitId) (n : Nat) (st : Stage) (r : HoldReason) :
    RaisedOnly s (s.haltUnit u n st r) := by
  unfold State.haltUnit
  exact RaisedOnly.raise (RaisedOnly.trans (.same (by simp) (by simp)) (State.enterHeld_raisedOnly _ ..)) ..

theorem State.finishComplete_raisedOnly (s : State) (n : Nat) : RaisedOnly s (s.finishComplete n) := by
  unfold State.finishComplete
  exact RaisedOnly.offerFor (RaisedOnly.raise (RaisedOnly.raise (.same (by simp) (by simp)) ..) ..) ..

theorem State.finisherReached_raisedOnly (s : State) (n : Nat) (x y : Mark) (c : ChannelId) :
    RaisedOnly s (s.finisherReached n x y c) := by
  unfold State.finisherReached; dsimp only
  generalize (if c = .FC then Mark.reached else x) = a
  generalize (if c = .FA then Mark.reached else y) = b
  split
  · exact s.finishComplete_raisedOnly n
  · exact .same (by simp) (by simp)

theorem State.haltFinisher_raisedOnly (s : State) (n : Nat) (x y : Mark) (c : ChannelId) (r : AbortReason)
    (h : HoldReason) : RaisedOnly s (s.haltFinisher n x y c r h) := by
  have halt (t : State) (g : RaisedOnly s t) : RaisedOnly s
      (((t.setFinisher (.halted n x y h)).enterHeld n h .finish .finisher).raise .F .exposureHalted (some n)) :=
    RaisedOnly.raise (RaisedOnly.trans (g.thenSame (by simp) (by simp)) (State.enterHeld_raisedOnly _ ..)) ..
  unfold State.haltFinisher; dsimp only
  generalize (if c = .FC then y else x) = o
  split
  · exact (halt _ (.same (by simp) (by simp))).endTailIfZero _
  · exact halt _ (.refl s)

theorem State.reportReached_raisedOnly (s : State) (c : ChannelId) (n : Nat) : RaisedOnly s (s.reportReached c n) := by
  unfold State.reportReached
  split
  · split
    · exact s.stageReached_raisedOnly ..
    · exact .refl s
  · split
    · split
      · exact s.finisherReached_raisedOnly ..
      · exact .refl s
    · exact .refl s

theorem State.reportAborted_raisedOnly (s : State) (c : ChannelId) (n : Nat) (r : AbortReason) :
    RaisedOnly s (s.reportAborted c n r) := by
  unfold State.reportAborted
  split
  · exact .refl s
  · split
    · split
      · exact s.haltUnit_raisedOnly ..
      · exact .refl s
    · split
      · split
        · exact s.haltFinisher_raisedOnly ..
        · exact .refl s
      · exact .refl s

theorem State.reachRun_raisedOnly (s : State) (c : ChannelId) : RaisedOnly s (s.reachRun c) := by
  unfold State.reachRun
  exact RaisedOnly.endTailIfZero (RaisedOnly.trans (.same (by simp) (by simp)) (State.reportReached_raisedOnly _ ..)) _

theorem State.abortRun_raisedOnly (s : State) (c : ChannelId) (r : AbortReason) : RaisedOnly s (s.abortRun c r) := by
  unfold State.abortRun
  split
  · exact RaisedOnly.endTailIfZero (RaisedOnly.trans (.same (by simp) (by simp)) (State.reportAborted_raisedOnly _ ..)) _
  · exact .refl s

theorem State.abortAll_raisedOnly (s : State) (cs : List ChannelId) (r : AbortReason) : RaisedOnly s (s.abortAll cs r) :=
  foldl_raisedOnly _ (fun t c => t.abortRun_raisedOnly c r) cs s

theorem State.abortUnit_raisedOnly (s : State) (u : UnitId) (r : AbortReason) : RaisedOnly s (s.abortUnit u r) := by
  unfold State.abortUnit
  split
  · exact s.abortRun_raisedOnly ..
  · exact .refl s

theorem State.abortFinisher_raisedOnly (s : State) (r : AbortReason) : RaisedOnly s (s.abortFinisher r) := by
  unfold State.abortFinisher
  split
  · exact s.abortAll_raisedOnly ..
  · exact .refl s

theorem State.raiseSilent_raisedOnly (s : State) (p : Port) : RaisedOnly s (s.raiseSilent p) :=
  foldl_raisedOnly _ (fun t q => t.raise_raisedOnly q .stationSilent _) _ s

end Sys2Proof.Machine
end

