-- ==== Sys2Proof/Laws/Requests.lean ====
section
/-! SUPPORT. Everything the taking of a request can do (R179, R180, R182): overrun, refusal by the port or the length, or
the owning rule's reply. -/

namespace Sys2Proof.Machine

@[simp] theorem answerKind_kind (r : Request) : answerKind r.kind = r.kind + 0x80 := by cases r <;> rfl

/-- R178: the table holds every request under its own KIND. -/
theorem requestOfKind_kind (r : Request) : requestOfKind r.kind = some r := by cases r <;> decide

/-- R179: a valid frame while an answer is pending. -/
theorem takeNamed_overrun {r : Request} {k : Nat} {h : Hdr} {owner : State → Reply} {s : State}
    (ha : (s.port h.port).answer.isSome = true) : takeNamed r k h owner s = s.countOverrun h.port := by
  simp [takeNamed, ha]

/-- R180, check 2. -/
theorem takeNamed_notPermitted {r : Request} {k : Nat} {h : Hdr} {owner : State → Reply} {s : State}
    (ha : (s.port h.port).answer = none) (hp : h.port ∉ r.ports) :
    takeNamed r k h owner s = (s.onlineEntry h.port).answer h.port r.kind .notPermitted [] := by
  simp [takeNamed, ha, decideRequest, hp, refuse]

/-- R180, check 3. -/
theorem takeNamed_range {r : Request} {k : Nat} {h : Hdr} {owner : State → Reply} {s : State}
    (ha : (s.port h.port).answer = none) (hp : h.port ∈ r.ports) (hl : h.len ≠ r.fieldBytes k + 1) :
    takeNamed r k h owner s = (s.onlineEntry h.port).answer h.port r.kind .range [] := by
  simp [takeNamed, ha, decideRequest, hp, hl, refuse]

/-- R180, check 4: the owning rule decides on the state after the ONLINE entry, and its reply is answered. -/
theorem takeNamed_reaches {r : Request} {k : Nat} {h : Hdr} {owner : State → Reply} {s : State}
    (hr : Reaches r k h s) :
    takeNamed r k h owner s =
      answeredWith (owner (s.onlineEntry h.port)).1 h.port r (owner (s.onlineEntry h.port)).2.1
        (owner (s.onlineEntry h.port)).2.2 := by
  simp [takeNamed, hr.1, decideRequest, hr.2.1, hr.2.2, State.answer, answeredWith]

theorem takeRequest_reaches {r : Request} {h : Hdr} {owner : State → Reply} {s : State} (hr : Reaches r 0 h s) :
    takeRequest r h owner s =
      answeredWith (owner (s.onlineEntry h.port)).1 h.port r (owner (s.onlineEntry h.port)).2.1
        (owner (s.onlineEntry h.port)).2.2 := takeNamed_reaches hr

/-- The four outcomes of a request's frame. -/
theorem takeNamed_cases (r : Request) (k : Nat) (h : Hdr) (owner : State → Reply) (s : State) :
    ((s.port h.port).answer.isSome = true ∧ takeNamed r k h owner s = s.countOverrun h.port) ∨
    ((s.port h.port).answer = none ∧
      (takeNamed r k h owner s = (s.onlineEntry h.port).answer h.port r.kind .notPermitted [] ∨
       takeNamed r k h owner s = (s.onlineEntry h.port).answer h.port r.kind .range [] ∨
       (Reaches r k h s ∧ ∃ t c fs, owner (s.onlineEntry h.port) = (t, c, fs) ∧
          takeNamed r k h owner s = answeredWith t h.port r c fs))) := by
  by_cases ha : (s.port h.port).answer = none
  · refine .inr ⟨ha, ?_⟩
    by_cases hp : h.port ∈ r.ports
    · by_cases hl : h.len = r.fieldBytes k + 1
      · exact .inr (.inr ⟨⟨ha, hp, hl⟩, _, _, _, rfl, takeNamed_reaches ⟨ha, hp, hl⟩⟩)
      · exact .inr (.inl (takeNamed_range ha hp hl))
    · exact .inl (takeNamed_notPermitted ha hp)
  · have : (s.port h.port).answer.isSome = true := Option.isSome_iff_ne_none.mpr ha
    exact .inl ⟨this, takeNamed_overrun this⟩

/-- A property that the overrun count, the ONLINE entry, the composing of an answer and the owning rule keep is kept by
the whole request. -/
theorem takeNamed_keeps (P : State → Prop) (ho : ∀ s p, P s → P (s.countOverrun p))
    (hn : ∀ s p, P s → P (s.onlineEntry p)) (ha : ∀ s p k c fs, P s → P (s.answer p k c fs)) (r : Request) (k : Nat)
    (h : Hdr) (owner : State → Reply) (hr : ∀ t, P t → P (owner t).1) (s : State) (hs : P s) :
    P (takeNamed r k h owner s) := by
  unfold takeNamed
  split
  · exact ho _ _ hs
  · refine ha _ _ _ _ _ ?_
    unfold decideRequest
    split
    · exact hn _ _ hs
    · split
      · exact hn _ _ hs
      · exact hr _ (hn _ _ hs)

/-! ## The ONLINE entry and the answer -/

/-- R182: a port after the ONLINE entry of `p`. -/
theorem State.onlineEntry_port (s : State) (p q : Port) :
    (s.onlineEntry p).port q =
      if q = p then { s.port p with state := .online, lastHeard := some s.now, receiver := .hunting } else s.port q := by
  unfold State.onlineEntry; dsimp only
  split
  · rw [State.port, (State.updatePermit_frame _).2.2.2.2.1]
    exact State.setPort_port s p q _
  · exact State.setPort_port s p q _

/-- R180: a port after an answer was composed at `p`. -/
theorem answeredWith_port (t : State) (p q : Port) (r : Request) (c : ResultCode) (fs : List Field) :
    (answeredWith t p r c fs).port q =
      if q = p then { t.port p with answer := some { kind := r.kind + 0x80, result := c, fields := fs } }
      else t.port q := State.setPort_port t p q _

@[simp] theorem answeredWith_frame (t : State) (p : Port) (r : Request) (c : ResultCode) (fs : List Field) :
    (answeredWith t p r c fs).now = t.now ∧ (answeredWith t p r c fs).sstop = t.sstop ∧
    (answeredWith t p r c fs).tpm = t.tpm ∧ (answeredWith t p r c fs).slots = t.slots ∧
    (answeredWith t p r c fs).working = t.working ∧ (answeredWith t p r c fs).store = t.store ∧
    (answeredWith t p r c fs).channels = t.channels ∧ (answeredWith t p r c fs).bath = t.bath ∧
    (answeredWith t p r c fs).drawers = t.drawers ∧ (answeredWith t p r c fs).dryQueue = t.dryQueue ∧
    (answeredWith t p r c fs).belt = t.belt ∧ (answeredWith t p r c fs).beltSpeed = t.beltSpeed := by
  simp [answeredWith]

end Sys2Proof.Machine
end

