-- ==== Sys2Proof/Laws/Lines.lean ====
section
/-! SUPPORT. The output lines stay in agreement with the records through the shared operations. -/

namespace Sys2Proof.Machine

theorem State.permitted_congr {s t : State} (h1 : t.sstop = s.sstop) (h2 : (t.port .W).state = (s.port .W).state)
    (h3 : t.working = s.working) : t.permitted = s.permitted := by
  unfold State.permitted; rw [h1, h2, h3]

/-- R116: the permit after it was set to follow its condition. -/
theorem State.updatePermit_tpm (s : State) : s.updatePermit.tpm = s.permitted := by
  unfold State.updatePermit
  split
  · rename_i h; simp [h]
  · rename_i h
    split <;> simp [h]

theorem State.updatePermit_transport (s : State) : TransportAgrees s.updatePermit := by
  unfold TransportAgrees
  rw [s.updatePermit_tpm]
  exact (State.permitted_congr (by simp) (by simp [State.port]) (by simp)).symm

/-- R182, R116: the state after the ONLINE entry, where the permit agreed with its condition before. -/
theorem State.onlineEntry_eq {s : State} (h : TransportAgrees s) (p : Port) :
    s.onlineEntry p = { s with
      ports := s.ports.set p { s.port p with state := .online, lastHeard := some s.now, receiver := .hunting }
      tpm := if p = .W then !s.sstop else s.tpm } := by
  unfold State.onlineEntry; dsimp only
  by_cases hp : p = .W
  · subst hp
    rw [if_pos rfl, if_pos rfl]
    cases hs : s.sstop with
    | false =>
      rw [State.updatePermit, if_pos (by simp [State.permitted, State.port, hs])]
      simp [State.setTpm, State.setPort, hs]
    | true =>
      have ht : s.tpm = false := by rw [h]; simp [State.permitted, hs]
      rw [State.updatePermit, if_neg (by simp [State.permitted, hs]), if_neg (by simp [ht])]
      simp [State.setTpm, State.setPort, hs]
  · rw [if_neg hp, if_neg hp]; rfl

/-- The same at a port that is not W, whatever the permit. -/
theorem State.onlineEntry_eq_of_ne (s : State) {p : Port} (hp : p ≠ .W) :
    s.onlineEntry p = { s with
      ports := s.ports.set p { s.port p with state := .online, lastHeard := some s.now, receiver := .hunting } } := by
  unfold State.onlineEntry; dsimp only
  rw [if_neg hp]; rfl

/-- R167: every line evaluated anew agrees. -/
theorem State.evaluateAll_attention (s : State) : AttentionAgrees s.evaluateAll := by
  intro p
  show ((s.ports.map fun r : PortRecord => r.evaluate s.working.levels).get p).attention =
    ((s.ports.map fun r : PortRecord => r.evaluate s.working.levels).get p).called s.working.levels
  rw [PerPort.get_map]
  simp

/-- An operation that raises notices and lights no lamp keeps the lines in agreement. -/
theorem LinesAgree.keep {s t : State} (h : LinesAgree s) (hr : RaisedOnly s t) (hl : LampsFall s t)
    (hs : t.sstop = s.sstop) (ht : t.tpm = s.tpm) : LinesAgree t where
  lamps := hl.agree h.lamps
  dark hst c g := h.dark (hs ▸ hst) c (hl.lit c g)
  transport := by
    unfold TransportAgrees
    rw [ht, h.transport]
    exact (State.permitted_congr hs (hr.portState .W) hr.working).symm
  attention := hr.attention h.attention

/-- R182: the entry into ONLINE keeps the lines in agreement. -/
theorem State.onlineEntry_lines (s : State) (p : Port) (h : LinesAgree s) : LinesAgree (s.onlineEntry p) := by
  have hc : ∀ c, (s.onlineEntry p).chan c = s.chan c := fun c => by simp [State.chan]
  have hw : (s.onlineEntry p).working = s.working := by simp
  refine ⟨fun c => by rw [hc]; exact h.lamps c, fun g c => ?_, ?_, fun q => ?_⟩
  · rw [hc]; exact h.dark (by simpa using g) c
  · unfold State.onlineEntry; dsimp only
    split
    · exact State.updatePermit_transport _
    · rename_i hp
      unfold TransportAgrees
      rw [State.setPort_tpm, h.transport]
      refine (State.permitted_congr (s := s) (t := s.setPort p _) rfl ?_ rfl).symm
      rw [State.setPort_port, if_neg (fun e => hp e.symm)]
  · rw [State.onlineEntry_port, hw]
    split
    · rename_i e; subst e
      exact h.attention q
    · exact h.attention q

/-- A port record replaced by one of the same state whose attention line agrees. -/
theorem State.setPort_lines (s : State) (p : Port) (r : PortRecord) (h : LinesAgree s)
    (hs : r.state = (s.port p).state) (ha : r.attention = r.called s.working.levels) : LinesAgree (s.setPort p r) where
  lamps := h.lamps
  dark := h.dark
  transport := by
    unfold TransportAgrees
    rw [State.setPort_tpm, h.transport]
    refine (State.permitted_congr (s := s) (t := s.setPort p r) rfl ?_ rfl).symm
    rw [State.setPort_port]
    split
    · rename_i e; subst e; exact hs
    · rfl
  attention q := by
    rw [State.setPort_port]
    split
    · exact ha
    · exact h.attention q

theorem State.countOverrun_lines (s : State) (p : Port) (h : LinesAgree s) : LinesAgree (s.countOverrun p) :=
  s.setPort_lines p _ h rfl (h.attention p)

theorem State.answer_lines (s : State) (p : Port) (k : Nat) (c : ResultCode) (fs : List Field) (h : LinesAgree s) :
    LinesAgree (s.answer p k c fs) := s.setPort_lines p _ h rfl (h.attention p)

/-- A request keeps the lines in agreement when its owning rule does. -/
theorem takeNamed_lines (r : Request) (k : Nat) (hd : Hdr) (owner : State → Reply)
    (hr : ∀ t, LinesAgree t → LinesAgree (owner t).1) (s : State) (hs : LinesAgree s) :
    LinesAgree (takeNamed r k hd owner s) :=
  takeNamed_keeps LinesAgree State.countOverrun_lines State.onlineEntry_lines State.answer_lines r k hd owner hr s hs

theorem LinesAgree.abortUnit {s : State} (h : LinesAgree s) (u : UnitId) (r : AbortReason) :
    LinesAgree (s.abortUnit u r) :=
  h.keep (State.abortUnit_raisedOnly ..) (State.abortUnit_lampsFall ..) (by simp) (by simp)

theorem LinesAgree.abortFinisher {s : State} (h : LinesAgree s) (r : AbortReason) : LinesAgree (s.abortFinisher r) :=
  h.keep (State.abortFinisher_raisedOnly ..) (State.abortFinisher_lampsFall ..) (by simp) (by simp)

/-- R182: the entry into LOST keeps the lines in agreement. -/
theorem State.enterLost_lines (s : State) (p : Port) (h : LinesAgree s) : LinesAgree (s.enterLost p) := by
  have base : LampsFall s ((s.setPort p { s.port p with state := .lost }).raiseSilent p) := .same (by simp)
  have att : AttentionAgrees ((s.setPort p { s.port p with state := .lost }).raiseSilent p) := by
    refine (State.raiseSilent_raisedOnly _ p).attention fun q => ?_
    rw [State.setPort_port]
    split
    · rename_i e; subst e; exact h.attention q
    · exact h.attention q
  have rest (hp : p ≠ .W) : LinesAgree ((s.setPort p { s.port p with state := .lost }).raiseSilent p) := by
    refine ⟨base.agree h.lamps, fun g c x => h.dark (by simpa using g) c (base.lit c x), ?_, att⟩
    unfold TransportAgrees
    rw [show ((s.setPort p { s.port p with state := .lost }).raiseSilent p).tpm = s.tpm by simp, h.transport]
    refine (State.permitted_congr (by simp) ?_ (by simp)).symm
    rw [(State.raiseSilent_raisedOnly _ p).portState, State.setPort_port, if_neg (Ne.symm hp)]
  cases p
  · exact rest (by decide)
  · exact (rest (by decide)).abortUnit ..
  · exact (rest (by decide)).abortUnit ..
  · show LinesAgree (State.updatePermit _)
    refine ⟨fun c => ?_, fun g c => ?_, State.updatePermit_transport _, fun q => ?_⟩
    · have := base.agree h.lamps c
      simpa [State.chan] using this
    · intro x
      exact h.dark (by simpa using g) c (base.lit c (by simpa [State.chan] using x))
    · have := att q
      simpa [State.port] using this
  · exact (rest (by decide)).abortFinisher ..

theorem State.checkSilence_lines (s : State) (h : LinesAgree s) : LinesAgree s.checkSilence := by
  suffices ∀ (l : List Port) (t : State), LinesAgree t → LinesAgree (l.foldl (fun t p =>
      match (t.port p).state, (t.port p).lastHeard with
      | .online, some h => if t.working.line.silenceLimit * 1000 ≤ since h t.now then t.enterLost p else t
      | _, _ => t) t) from this _ _ h
  intro l
  induction l with
  | nil => exact fun t ht => ht
  | cons p l ih =>
    intro t ht
    refine ih _ ?_
    dsimp only
    split
    · split
      · exact t.enterLost_lines p ht
      · exact ht
    · exact ht

end Sys2Proof.Machine
end

