-- ==== Sys2Proof/Tests/Slice0.lean ====
section
/-! SUPPORT. The WellFormed smoke test, worked examples of the spec one command at a time, and for each obligation with
hypotheses the states and operands that meet them. -/

namespace Sys2Proof.Tests

open Sys2Proof Sys2Proof.Machine

/-! ## Small states -/

def hdr (p : Port) (len : Nat) : Hdr := { port := p, len }

/-- The next state, where there is one. -/
def nextOf : Res → Option State
  | .next t => some t
  | .fault _ => none
  | .refused _ => none

/-- The state after a command, `s` itself where it has none. -/
def after (c : Instr) (s : State) : State := (nextOf (exec c s)).getD s

/-- The result code and fields of the pending answer at port `p`. -/
def said (p : Port) (s : State) : Option (ResultCode × List Field) :=
  (s.port p).answer.map fun a => (a.result, a.fields)

/-- The recipe of docket 701 in example 5.1, with doses of examples 4.1 and 8.1. -/
def figures : Snapshot :=
  { thickness := 2840, relief := 1800, back := 90, main := 900, w0 := 180, margin := 1100, dryTime := 30, uvc := 1200,
    uva := 800 }

def plate (n : Nat) (st : DocketState) (sub : SubStage) : Docket :=
  { number := n, state := st, sub, recipe := 3, cls := .normal, pref := none, area := 4000, coverage := 25
    registeredAt := 0, snapshot := some figures, unit := some .A, backDelivered := none, mainDelivered := none
    dimSeen := false, agedSeen := false, passOver := 0, passes := [], removed := 0, drawer := none, dryStart := none
    dryEnd := none, shortDry := false, overdry := false, finishC := none, finishA := none, hold := none
    scrapMark := none, doneAt := none, regOrder := 0, unloadOrder := 0 }

def put (i : Fin 48) (d : Docket) (s : State) : State := { s with slots := s.slots.set i (some d) }

/-- A channel that runs docket `n` to the target `target`, after grace. -/
def exposing (n target : Nat) : Channel :=
  { Channel.fresh with
    state := .exposing, permit := true, latched := some .factory
    run := some { number := n, order := 0, recipe := 3, cls := .normal, unit := some .A }
    target := some target, overtime := some 150, window := some { openedAt := 0, pulses := 0 }, dimFrom := some 0
    deadFrom := some 0 }

def held (r : HoldReason) (st : HoldStage) (l : HoldLocation) (p q : Option Nat) : HoldRecord :=
  { reason := r, stage := st, location := l, timeHeld := 0, first := p, second := q }

/-- Unit A runs the stage `st` of docket 1, 10 s after the reset, with one pulse still to come. -/
def unitRuns (st : Stage) : State :=
  { put 0 (plate 1 .atExposure (stageRunning st)) State.reset with
    now := 10000
    units := ⟨.running 1 st, .vacant⟩
    channels := State.reset.channels.set (stageChannel .A st) { exposing 1 90000 with accumulator := 89950 } }

/-- The finisher runs docket 1 with the marks `c` and `a`. -/
def finisherRuns (c a : Mark) : State :=
  { put 0 (plate 1 .atFinisher .run) State.reset with
    now := 10000
    finisher := .running 1 c a
    channels := { State.reset.channels with
      fc := if c = .openMark then { exposing 1 1200000 with accumulator := 1199950 } else .fresh
      fa := if a = .openMark then { exposing 1 800000 with accumulator := 799950 } else .fresh } }

/-- `s` with a TAIL of 0 latched at a channel. -/
def noTail (ch : ChannelId) (s : State) : State :=
  s.setChan ch { s.chan ch with latched := some { ChanSettings.factory with tail := 0 } }

/-- The bath and the line of example 5.1: port W is ONLINE and the docket 701 waits. -/
def washLine : State :=
  { put 0 (plate 701 .washQueued .none) State.reset with
    now := 1000000
    tpm := true
    ports := { State.reset.ports with w := { PortRecord.fresh with state := .online, lastHeard := some 999000 } }
    washQueue := [701]
    bath := { mass := 8400000, volume := 2000, condition := .normal, correction := none, reportedAt := some 0 } }

/-- The pass of example 5.1. -/
def pass701 : WashPass :=
  { feedTime := 1000, w := 157, vReq := 126, vBelt := 126, expectedExit := 1822, exitTime := none, depth := none
    underwash := false, overwash := false, overdue := false, beltStopped := false }

def belt701 : BeltRecord := { docket := 701, feedTime := 1000, expectedExit := 1822, overdueRaised := false }

/-- Docket 701 alone on the belt. -/
def onBelt : State :=
  { put 0 { plate 701 .onBelt .none with passes := [pass701] } washLine with
    washQueue := [], belt := [belt701], beltSpeed := some 126 }

/-! ## WellFormed: each check refuses an ill-formed command -/

theorem test_wellFormed_takes_ping : wellFormed (.ping (hdr .E 1)) = true := by decide
theorem test_wellFormed_len_zero : wellFormed (.ping (hdr .E 0)) = false := by decide
theorem test_wellFormed_len_121 : wellFormed (.ping (hdr .E 121)) = false := by decide
theorem test_wellFormed_badLen_good_len : wellFormed (.badLen .E 120) = false := by decide
theorem test_wellFormed_unknown_of_table : wellFormed (.unknownRequest .E 0x48) = false := by decide
theorem test_wellFormed_overdue_number : wellFormed (.overdueExpiry 10000) = false := by decide
theorem test_wellFormed_release_form :
    wellFormed (.releasePass (hdr .E 4) 1 1) = false ∧ wellFormed (.releaseRewash (hdr .E 4) 1 0) = false := by decide
theorem test_wellFormed_lampRef_form :
    wellFormed (.setLampRefValue (hdr .A 6) 0 1 0) = false ∧ wellFormed (.setLampRefMeasured (hdr .A 6) 0 0 0) = false := by
  decide
theorem test_wellFormed_service_direction :
    wellFormed (.drawerServiceOut (hdr .F 3) 1 1) = false ∧ wellFormed (.drawerServiceIn (hdr .F 3) 1 0) = false := by
  decide
theorem test_wellFormed_finisher_rows :
    wellFormed (.stop (hdr .F 3) 1) = false ∧ wellFormed (.resume (hdr .F 3) 1) = false ∧
      wellFormed (.returnDocket (hdr .F 3) 1) = false := by decide
theorem test_wellFormed_name_in_frame :
    wellFormed (.setRecipe (hdr .E 4) 0 0 [0x41] 0 0 0 0 0 0 0 0 0) = false := by decide
theorem test_wholeFrame_short : wholeFrame (.cancel (hdr .E 2) 1) = false := by decide

/-! ## Frames (R178) -/

set_option maxRecDepth 4000 in
/-- The example of R178: a PING. -/
theorem test_ping_frame : encodeFrame (.ping (hdr .E 1)) = some [0xD9, 0x01, 0x48, 0xEA] := by decide
set_option maxRecDepth 4000 in
theorem test_ping_frame_read : commandOfFrame .E false [0xD9, 0x01, 0x48, 0xEA] = some (.ping (hdr .E 1)) := by decide
set_option maxRecDepth 4000 in
theorem test_crc_error_read : commandOfFrame .E false [0xD9, 0x01, 0x48, 0xEB] = some (.frameCrcError .E) := by decide
set_option maxRecDepth 4000 in
theorem test_stop_from_F_read :
    (encodeFrame (.finisherStop 3 0x0102)).map (commandOfFrame .F false) = some (some (.finisherStop 3 0x0102)) := by
  decide

/-! ## Reset and line time -/

theorem test_reset_of_an_unwritten_part : nextOf (exec (.reset false) State.reset) = some State.reset := by decide
theorem test_queue_front_runs :
    nextOf (step { State.reset with pending := [.lineSecond, .feed (hdr .W 1)] }) =
      some { State.reset with now := 1000, pending := [.feed (hdr .W 1)] } := by decide
theorem test_tick : nextOf (step State.reset) = some { State.reset with micro := 1 } := by decide
theorem test_tick_into_a_second :
    nextOf (step { State.reset with now := 999, micro := 999 }) = some { State.reset with now := 1000 } := by decide
/-- R44: the second copy of the wear record passes, with the old count, while the first is being written. -/
theorem test_torn_first_copy :
    (({ body := none, wear1 := some 137, wear2 := none } : StoredImage).torn .factory 137 138 .firstCopy).wear2 =
      some 137 := by decide
/-- R184: line time wraps from 4,294,967,295 to 0. -/
theorem test_time_wraps : (after .lineSecond { State.reset with now := 4294967295999 }).now = 0 := by decide
/-- R174: WASH_QUEUE_OCCUPANCY samples the queue at the line second. -/
theorem test_occupancy :
    (after .lineSecond { washLine with
      counters := washLine.counters.set 1 { LineCounter.fresh with event := .washQueueOccupancy } }).counters[1].value = 1 := by
  decide

/-! ## The shop stop -/

/-- Example 4.2: the main stage on BM is HALTED with STOPPED, docket 611 HELD at unit B. -/
theorem test_sstop_halts :
    let s : State := { put 0 (plate 611 .atExposure .mainRun) State.reset with
      units := ⟨.vacant, .running 611 .main⟩
      channels := { State.reset.channels with bm := { exposing 611 700000 with accumulator := 699400 } } }
    let t := s.stopShop allChannels
    t.unit .B = .halted 611 .main .stopped ∧ (t.chan .BM).state = .tail ∧ (t.chan .BM).permit = false ∧
      (t.docket 611).bind Docket.hold = some (held .stopped .main .unitB none none) ∧
      (t.port .B).notices[1].isSome = true ∧ (t.port .E).notices[12].isSome = true := by decide
theorem test_release_restarts_nothing :
    after .sstopReleased { State.reset with sstop := true } = { State.reset with sstop := false } := by decide

/-! ## Dose channels -/

/-- Example 3.1: the crossing pulse; the unit is VACANT and the docket queued. -/
theorem test_crossing_pulse :
    let t := after (.sensorPulse .AM) (unitRuns .main)
    (t.chan .AM).state = .tail ∧ (t.chan .AM).accumulator = 90000 ∧ (t.chan .AM).elapsed = 100 ∧ t.unit .A = .vacant ∧
      t.washQueue = [1] := by decide
/-- Example 3.3: the 17th pulse of a line second. -/
theorem test_stuck_channel :
    let t := after (.sensorPulse .BB) { State.reset with
      channels := { State.reset.channels with bb := { Channel.fresh with idleCount := 16 } } }
    (t.chan .BB).state = .fault ∧ (t.chan .BB).stray = 17 ∧ (t.port .B).notices[4].isSome = true ∧
      (t.port .E).notices[4].isSome = true := by decide
theorem test_grace_end :
    ((after (.graceEnd .AB) { State.reset with channels := { State.reset.channels with
      ab := { exposing 1 90000 with inGrace := true, window := none } } }).chan .AB).window =
        some { openedAt := 1500, pulses := 0 } := by decide
/-- Example 4.1: 260 pulses of 50 give E 13,000 and a health of 650 per mille, below AGED. -/
theorem test_window_end :
    let t := after (.windowEnd .AM) { put 0 (plate 1 .atExposure .mainRun) State.reset with
      channels := { State.reset.channels with am := { exposing 1 900000 with
        latched := some { ChanSettings.factory with eRef := 20000 }, window := some { openedAt := 0, pulses := 260 } } } }
    (t.chan .AM).irradiance = some 13000 ∧ (t.chan .AM).health = some 650 ∧
      (t.docket 1).map Docket.agedSeen = some true ∧ t.now = 1000 := by decide
theorem test_dim_watch :
    let t := after (.dimWatchExpiry .AB) { unitRuns .back with now := 0 }
    (t.docket 1).map Docket.dimSeen = some true ∧ (t.port .A).notices[2].isSome = true ∧ t.now = 4 := by decide
/-- R59: 4,000 µs after a pulse 700 µs into a millisecond. -/
theorem test_dim_watch_to_the_microsecond :
    let s := { unitRuns .back with now := 20, micro := 700, channels := { (unitRuns .back).channels with
      ab := exposing 1 90000 } }
    let t := after (.dimWatchExpiry .AB) (after (.sensorPulse .AB) s)
    (t.now, t.micro) = (24, 700) := by decide
/-- Example 3.2: the dead watch aborts the run as LAMP_OUT. -/
theorem test_dead_watch :
    let t := after (.deadWatchExpiry .AB) { unitRuns .back with now := 0 }
    t.now = 500 ∧ (t.chan .AB).lastEnd = .aborted .lampOut ∧ t.unit .A = .halted 1 .back .lampOut := by decide
theorem test_overtime :
    (after (.overtimeExpiry .AB) (unitRuns .back)).now = 15000 ∧
      (after (.overtimeExpiry .AB) (unitRuns .back)).unit .A = .halted 1 .back .overtime := by decide
/-- Example 3.1: the tail's end writes 1,201,500 and offers an overshoot of 1,500. -/
theorem test_tail_end :
    let t := after (.tailExpiry .AM) { put 0 (plate 1 .washQueued .none) State.reset with
      counters := State.reset.counters.set 0 { LineCounter.fresh with event := .doseOvershoot }
      channels := { State.reset.channels with am := { exposing 1 1200000 with
        state := .tail, accumulator := 1201500, lastEnd := .reached, tailFrom := some 0 } } }
    (t.docket 1).bind Docket.mainDelivered = some 1201500 ∧ t.counters[0].value = 1500 ∧ (t.chan .AM).state = .idle ∧
      t.now = 2000 := by decide
/-- Example 3.3: CLEAR_CHANNEL 2.2 s after the last pulse is refused, 5.5 s after it is taken. -/
theorem test_clear_channel :
    let s : State := { State.reset with
      now := 816200
      channels := { State.reset.channels with bb := { Channel.fresh with
        state := .fault, stray := 57, lastPulse := some 814000 } } }
    said .B (after (.clearChannel (hdr .B 2) 2) s) = some (.channelFault, []) ∧
      said .B (after (.clearChannel (hdr .B 2) 2) { s with now := 819500 }) =
        some (.ok, [.num .code 2, .num .figure 57]) := by decide

/-! ## Exposure units -/

/-- Example 4.1: CLAIM 603 answers BACK_READY, 90, 900. -/
theorem test_claim :
    let s : State := { put 0 { plate 603 .registered .none with snapshot := none, unit := none } State.reset with
      exposurePool := [600, 603, 605]
      working := { WorkingCopy.factory with
        recipes := WorkingCopy.factory.recipes.set 3 { valid := true, name := [], figures := figures } } }
    let t := after (.claim (hdr .A 3) 603) s
    said .A t = some (.ok, [.num .docket 603, .num .code 1, .num .dose 90, .num .dose 900]) ∧
      t.exposurePool = [600, 605] ∧ t.unit .A = .loaded 603 := by decide
/-- Example 4.1: the prediction of START_BACK is 100, with the last E of 9,000. -/
theorem test_start_back :
    let t := after (.startBack (hdr .A 3) 1) { put 0 (plate 1 .atExposure .backReady) State.reset with
      units := ⟨.loaded 1, .vacant⟩
      channels := { State.reset.channels with ab := { Channel.fresh with irradiance := some 9000 } } }
    said .A t = some (.ok, [.num .docket 1, .num .code 1, .num .dose 90000, .num .figure 100]) ∧
      (t.chan .AB).overtime = some 150 ∧ (t.chan .AB).permit = true := by decide
/-- Example 3.1: a dose of 1,200 at a last E of 18,500 is predicted at 649, with an overtime limit of 973. -/
theorem test_start_main :
    let t := after (.startMain (hdr .A 3) 1) { put 0
        { plate 1 .atExposure .mainReady with snapshot := some { figures with main := 1200 } } State.reset with
      units := ⟨.loaded 1, .vacant⟩
      channels := { State.reset.channels with am := { Channel.fresh with irradiance := some 18500 } } }
    (t.chan .AM).target = some 1200000 ∧ (t.chan .AM).prediction = 649 ∧ (t.chan .AM).overtime = some 973 := by decide
theorem test_stop :
    said .A (after (.stop (hdr .A 3) 1) (unitRuns .main)) =
      some (.ok, [.num .docket 1, .num .code 2, .num .code 3]) := by decide
/-- R67, R68 with a TAIL of 0 (assumption 17). -/
theorem test_stop_without_a_tail :
    let t := after (.stop (hdr .A 3) 1) (noTail .AM (unitRuns .main))
    (t.chan .AM).state = .idle ∧ ((t.docket 1).bind Docket.hold).bind HoldRecord.first = some 89950 := by decide
/-- Example 4.2: a partial dose that meets the target completes the stage at once. -/
theorem test_resume_completes :
    let s : State := { put 0 { plate 1 .held .none with
        snapshot := some { figures with main := 700 }
        hold := some (held .stopped .main .unitB (some 700100) none) } State.reset with
      units := ⟨.vacant, .halted 1 .main .stopped⟩ }
    let t := after (.resume (hdr .B 3) 1) s
    said .B t = some (.ok, [.num .docket 1, .num .code 2, .num .code 2, .num .dose 700100, .num .dose 700000,
        .num .figure 0]) ∧
      t.washQueue = [1] ∧ (t.port .W).notices[5].isSome = true ∧ (t.chan .BM).lastEnd = .reached ∧
      (t.docket 1).bind Docket.mainDelivered = some 700100 := by decide
theorem test_return :
    let s : State := { put 0 (plate 1 .atExposure .backReady) State.reset with units := ⟨.loaded 1, .vacant⟩ }
    said .A (after (.returnDocket (hdr .A 3) 1) s) = some (.ok, [.num .docket 1, .num .code 0]) := by decide

/-! ## Dockets -/

/-- Example 1.1: with 9998, 9999 and 1 live, the counter at 9998 gives 2 and stands at 3. -/
theorem test_register_wraps :
    let s : State := { put 0 (plate 9998 .done .none) (put 1 (plate 9999 .done .none) (put 2 (plate 1 .done .none)
        State.reset)) with
      nextNumber := 9998
      working := { WorkingCopy.factory with
        recipes := WorkingCopy.factory.recipes.set 5 { valid := true, name := [], figures := figures } } }
    let t := after (.register (hdr .E 7) 5 4000 25 0 0) s
    said .E t = some (.ok, [.num .docket 2, .num .code 25, .num .code 44]) ∧ t.nextNumber = 3 := by decide
/-- Example 1.2: CANCEL on the belt marks the docket. -/
theorem test_cancel_on_belt :
    said .E (after (.cancel (hdr .E 3) 701) onBelt) =
      some (.ok, [.num .docket 701, .num .code 4, .num .code 1]) := by decide
/-- Example 1.2: RELEASE of a docket that is not HELD. -/
theorem test_release_wrong_state :
    said .E (after (.releasePass (hdr .E 4) 701 0) onBelt) = some (.wrongState, []) := by decide
theorem test_retire :
    said .E (after (.retire (hdr .E 3) 412) (put 6 (plate 412 .scrapped .none) State.reset)) =
      some (.ok, [.num .code 48]) := by decide
theorem test_list_scrapped :
    said .A (after (.list (hdr .A 3) 7 0) (put 6 (plate 412 .scrapped .none) State.reset)) =
      some (.ok, [.num .code 7, .num .code 1, .num .code 0, .num .code 1, .num .docket 412]) := by decide
theorem test_line_clear : (after (.lineClear (hdr .E 1)) onBelt).belt = [] := by decide

/-! ## Recipes and settings -/

/-- Example 2.1. -/
theorem test_set_recipe_clamps :
    said .E (after (.setRecipe (hdr .E 41) 5 1
        [0x43, 0x4F, 0x52, 0x52, 0x55, 0x47, 0x2D, 0x36, 0x37, 0x2D, 0x44, 0x45, 0x45, 0x50, 0x31]
        700 900 12000 0 35 1600 5 4000 2500) State.reset) =
      some (.ok, [.num .code 5, .num .code 1,
        .name [0x43, 0x4F, 0x52, 0x52, 0x55, 0x47, 0x2D, 0x36, 0x37, 0x2D, 0x44, 0x45],
        .num .depth 760, .num .depth 660, .num .dose 9999, .num .dose 1, .num .speed 40, .num .figure 1500,
        .num .figure 10, .num .dose 4000, .num .dose 2500]) := by decide
/-- R35: SPEED_MIN stays 10 below SPEED_MAX. -/
theorem test_set_setting_gap :
    said .E (after (.setSetting (hdr .E 7) 2 0 500) { State.reset with
      working := { WorkingCopy.factory with line := { LineSettings.factory with speedMax := 100 } } }) =
        some (.ok, [.num .code 2, .num .code 0, .num .value 90]) := by decide
theorem test_set_level_clamps :
    said .E (after (.setLevel (hdr .E 3) 1 9) State.reset) = some (.ok, [.num .code 1, .num .code 7]) := by decide
theorem test_store_needs_key :
    said .E (after (.store (hdr .E 1) false) State.reset) = some (.keyOff, []) := by decide
theorem test_store_answers_the_wear :
    said .E (after (.store (hdr .E 1) true) { State.reset with store := { State.reset.store with wear := 137 } }) =
      some (.ok, [.num .figure 138]) := by decide
theorem test_recall_of_a_bad_image :
    said .E (after (.recall (hdr .E 1)) State.reset) = some (.ok, [.num .code 2]) := by decide

/-! ## Washout and bath -/

/-- Example 5.1: the FEED of docket 701. -/
theorem test_feed :
    said .W (after (.feed (hdr .W 1)) washLine) =
      some (.ok, [.num .docket 701, .num .speed 126, .num .time 762, .num .flags 0, .num .code 1]) ∧
    (after (.feed (hdr .W 1)) washLine).belt = [belt701] := by decide
/-- Example 5.1: the EXIT gives d 1993, removed 1800 and 567,000 mg. -/
theorem test_exit :
    let t := after (.exit (hdr .W 3) 701) onBelt
    said .W t = some (.ok, [.num .docket 701, .num .depth 1993, .num .depth 1800, .num .code 6, .num .code 0,
        .num .flags 0]) ∧ t.bath.mass = 8967000 ∧ t.beltSpeed = none := by decide
/-- Example 5.2: at 1030 the scan passes over 702 and takes 703. -/
theorem test_feed_passes_over :
    let p702 := { plate 702 .washQueued .none with snapshot := some { figures with relief := 3000, margin := 1200 } }
    let p703 := { plate 703 .washQueued .none with snapshot := some { figures with relief := 800, w0 := 80, margin := 1050 } }
    let t := after (.feed (hdr .W 1)) { put 1 p702 (put 2 p703 onBelt) with now := 1030000, washQueue := [702, 703] }
    said .W t = some (.ok, [.num .docket 703, .num .speed 126, .num .time 762, .num .flags 0, .num .code 1]) ∧
      (t.docket 702).map Docket.passOver = some 1 ∧ t.washQueue = [702] := by decide
theorem test_overdue :
    let t := after (.overdueExpiry 701) onBelt
    t.now = 1822000 ∧ (t.port .W).notices[6].isSome = true ∧ (t.port .E).notices[6].isSome = true := by decide
/-- Example 6.2: REPORT_BATH 620, 1980 stays WARN with a correction of 18. -/
theorem test_report_bath :
    let t := after (.reportBath (hdr .W 5) 620 1980) { washLine with
      bath := { washLine.bath with mass := 12778600, condition := .warn } }
    t.bath.mass = 12276000 ∧ t.bath.correction = some 18 ∧ t.bath.condition = .warn ∧
      (t.port .W).notices[7].isSome = false := by decide
/-- Example 6.1, second line. -/
theorem test_replenish_overflows :
    let t := after (.replenish (hdr .W 5) 0 800) { washLine with bath := { washLine.bath with mass := 8967000 } }
    said .W t = some (.ok, [.num .volume 0, .num .volume 800, .num .mass 8006250, .num .volume 2500, .num .load 320,
      .num .mass 960750, .num .code 1]) := by decide

/-! ## Dryer and finisher -/

/-- Example 7.1: DRAWER_LOADED 1, 801 answers 1800. -/
theorem test_drawer_loaded :
    said .F (after (.drawerLoaded (hdr .F 4) 1 801) { put 0 { plate 801 .atDryer .reserved with drawer := some 0 } State.reset with
      drawers := State.reset.drawers.set 0 (.reserved 801) }) =
        some (.ok, [.num .code 1, .num .docket 801, .num .time 1800]) := by decide
/-- Example 7.1: the drying expiry of drawer 2. -/
theorem test_drying_expiry :
    let t := after (.dryingExpiry 1) { put 0 { plate 802 .atDryer .drying with drawer := some 1 } State.reset with
      now := 2050000
      drawers := State.reset.drawers.set 1 (.drying 802 { startedAt := 2050000, seconds := 1200 }) }
    t.now = 3250000 ∧ t.drawers[1] = .dry 802 (some { startedAt := 3250000, seconds := 1800 }) false ∧
      (t.port .F).notices[10].isSome = true := by decide
theorem test_drawer_unloaded :
    said .F (after (.drawerUnloaded (hdr .F 3) 2 0) { put 0 { plate 802 .atDryer .dry with drawer := some 1 } State.reset with
      drawers := State.reset.drawers.set 1 (.dry 802 none false) }) =
        some (.ok, [.num .code 2, .num .docket 802, .num .code 7, .num .code 0, .num .time 0, .num .flags 0]) := by decide
theorem test_drawer_service_out_busy :
    said .F (after (.drawerServiceOut (hdr .F 3) 2 0) { State.reset with
      drawers := State.reset.drawers.set 1 (.dry 802 none false) }) = some (.busy, []) := by decide
theorem test_claim_finish :
    said .F (after (.claimFinish (hdr .F 3) 830) (put 0 (plate 830 .finishQueued .none) State.reset)) =
      some (.ok, [.num .docket 830, .opt .dose (some 1200), .opt .dose (some 800)]) := by decide
/-- Example 8.1: the predictions at the start are 300 and 800. -/
theorem test_start_finish :
    said .F (after (.startFinish (hdr .F 3) 830) { put 0 (plate 830 .atFinisher .ready) State.reset with
      finisher := .loaded 830
      channels := { State.reset.channels with
        fc := { Channel.fresh with irradiance := some 40000 }, fa := { Channel.fresh with irradiance := some 10000 } } }) =
      some (.ok, [.num .docket 830, .num .code 1, .num .code 0, .num .dose 1200000, .num .figure 300, .num .code 0,
        .num .dose 800000, .num .figure 800]) := by decide
/-- Example 8.1: the RESUME asks FA alone for the rest, predicted at 350. -/
theorem test_finisher_resume :
    said .F (after (.finisherResume 3 830) { put 0 { plate 830 .held .none with
          hold := some (held .lampOut .finish .finisher none (some 450200)) } State.reset with
      finisher := .halted 830 .reached .openMark .lampOut
      channels := { State.reset.channels with fa := { Channel.fresh with irradiance := some 10000 } } }) =
      some (.ok, [.num .docket 830, .num .code 1, .num .code 1, .opt .dose none, .num .dose 1200000, .opt .figure none,
        .num .code 0, .opt .dose (some 450200), .num .dose 800000, .opt .figure (some 350)]) := by decide
theorem test_finisher_stop :
    said .F (after (.finisherStop 3 1) (finisherRuns .openMark .openMark)) =
      some (.ok, [.num .docket 1, .num .code 3]) := by decide
theorem test_finisher_return :
    said .F (after (.finisherReturn 3 830) { put 0 (plate 830 .atFinisher .ready) State.reset with
      finisher := .loaded 830 }) = some (.ok, [.num .docket 830, .num .code 0]) := by decide

/-! ## Notices, counters and ports -/

/-- Example 9.1: port W at 4205, with the snapshot of 4200. -/
def notices91 : State :=
  { washLine with
    ports := { washLine.ports with w := { washLine.ports.w with
      notices := ((washLine.ports.w.notices.set 5 (some { count := 1, latest := some 740, firstRaised := 4150 })).set 6
          (some { count := 3, latest := some 735, firstRaised := 4000 })).set 7
            (some { count := 1, latest := none, firstRaised := 4100 })
      snapshot := some ((((Vector.replicate 17 0).set 5 1).set 6 2).set 7 1)
      attention := true } } }

theorem test_status :
    said .W (after (.status (hdr .W 1)) notices91) =
      some (.ok, [.num .code 1, .num .bitmap 0xE0, .num .code 7, .opt .code (some 6), .opt .code (some 3),
        .opt .docket (some 735), .opt .time (some 4000)]) := by decide
theorem test_ack :
    said .W (after (.ack (hdr .W 1)) notices91) = some (.ok, [.num .code 2, .num .code 1]) ∧
      (after (.ack (hdr .W 1)) notices91).ports.w.notices[6] =
        some { count := 1, latest := some 735, firstRaised := 4000 } := by decide
theorem test_read_notice_not_routed :
    said .W (after (.readNotice (hdr .W 2) 1) State.reset) = some (.range, []) := by decide
theorem test_threshold_7_darkens_attention :
    (after (.setThreshold (hdr .W 2) 7) notices91).ports.w.attention = false := by decide
theorem test_set_counter :
    said .E (after (.setCounter (hdr .E 6) 3 14 255 2 1) State.reset) =
      some (.ok, [.num .code 3, .num .code 14, .num .code 255, .num .code 2, .num .code 1, .num .time 0]) := by decide
theorem test_clear_counters :
    said .E (after (.clearCounters (hdr .E 1)) washLine) = some (.ok, [.num .time 1000]) := by decide
/-- Example 10.1: the silence of port A expires 10 s after it was last heard. -/
theorem test_port_lost :
    let s : State := { unitRuns .main with
      ports := { State.reset.ports with a := { PortRecord.fresh with state := .online, lastHeard := some 5000 } } }
    let t := after (.portLost .A) s
    t.now = 15000 ∧ (t.port .A).state = .lost ∧ t.unit .A = .halted 1 .main .stationLost ∧
      (t.port .F).notices[14] = some { count := 1, latest := some 2, firstRaised := 15 } ∧
      (t.port .A).notices[14] = none := by decide
/-- Example 10.1: PORT_INFO shows the state before the frame. -/
theorem test_port_info :
    said .A (after (.portInfo (hdr .A 1)) { State.reset with
      ports := { State.reset.ports with a := { PortRecord.fresh with state := .lost, framing := 1 } } }) =
        some (.ok, [.num .code 2, .num .code 2, .num .figure 1, .num .figure 0, .num .figure 0]) := by decide
theorem test_ping : said .F (after (.ping (hdr .F 1)) washLine) = some (.ok, [.num .time 1000]) := by decide
theorem test_not_permitted : said .W (after (.register (hdr .W 7) 0 0 0 0 0) State.reset) = some (.notPermitted, []) := by
  decide
theorem test_wrong_length : said .E (after (.cancel (hdr .E 9) 1) State.reset) = some (.range, []) := by decide
theorem test_unknown_request :
    ((after (.unknownRequest .B 0x7F) State.reset).port .B).answer =
      some { kind := 0xFF, result := .unknownRequest, fields := [] } := by decide
theorem test_frame_gap :
    (((after (.byteGapTimeout .A 0xD9) { State.reset with ports := { State.reset.ports with
      a := { PortRecord.fresh with receiver := .lenExpected 0 } } }).port .A).framing) = 1 := by decide
theorem test_bad_len :
    ((after (.badLen .A 121) (after (.frameBegins .A) State.reset)).port .A).framing = 1 := by decide
theorem test_frame_byte :
    ((after (.frameByte .A 2) (after (.frameBegins .A) State.reset)).port .A).receiver = .inFrame [2] 3 0 := by decide

/-! ## Witnesses

For each obligation that has hypotheses, states and operands that meet them, clause by clause. A hypothesis that only
names a value (`t = …`) is met by that value and not repeated here. -/

/-- Docket `d` in slot 1 and unit A as given. -/
def atUnit (u : UnitRecord) (d : Docket) : State := { put 0 d State.reset with units := ⟨u, .vacant⟩ }

/-- Docket `d` in slot 1 and the finisher as given. -/
def atFinisher (f : FinisherRecord) (d : Docket) : State := { put 0 d State.reset with finisher := f }

/-- Docket 1 in drawer 1. -/
def inDrawer (x : Drawer) (sub : SubStage) : State :=
  { put 0 { plate 1 .atDryer sub with drawer := some 0 } State.reset with drawers := State.reset.drawers.set 0 x }

def withChan (ch : ChannelId) (c : Channel) (s : State) : State := { s with channels := s.channels.set ch c }

/-- `s` after 10 s with port `p` ONLINE and last heard at 0. -/
def online (p : Port) (s : State) : State :=
  { s with
    now := 10000
    ports := s.ports.set p { s.port p with state := .online, lastHeard := some 0 }
    tpm := decide (p = .W) }

def answering (p : Port) (s : State) : State :=
  let a : Answer := { kind := 0xC8, result := .ok, fields := [.num .time 0] }
  s.setPort p { s.port p with answer := some a }

/-- A store of the working copy in flight since 0. -/
def storing (s : State) : State :=
  { s with store := { s.store with job := some { contents := s.working, takenAt := 0 } } }

/-- A good image with the factory contents and a wear count of 137. -/
def goodImage (s : State) : State :=
  { s with store :=
      { image := { body := some (.written .factory), wear1 := some 137, wear2 := some 137 }
        job := none, wear := 137, lastResult := .none, resultTime := none } }

def dropOnSilence (s : State) : State :=
  { s with working := { s.working with line := { s.working.line with transportHold := 0 } } }

/-- Recipe 3 holds `figures`. -/
def withRecipe (s : State) : State :=
  { s with working := { s.working with recipes := s.working.recipes.set 3 { valid := true, name := [], figures := figures } } }

theorem witness_StepRunsTheFrontCommand :
    ({ State.reset with pending := [.lineSecond] } : State).pending = .lineSecond :: [] := by decide

theorem witness_LineTimePasses :
    (State.reset.pending = [] ∧ ClockInRange State.reset ∧ State.reset.micro ≠ 999) ∧
    (ClockInRange { State.reset with micro := 999 } ∧ State.reset.now % 1000 ≠ 999) ∧
    (ClockInRange { State.reset with now := 4294967295999, micro := 999 } ∧ 4294967295999 % 1000 = 999) ∧
    (since 4294967295000 0 ≤ 1000 ∧ since 4294967295000 0 = 1000 ∧ since 4294967295001 0 < 1000) ∧
    sinceMicro 4294967295999999 ({ State.reset with micro := 1 } : State).microNow ≤ 100 :=
  ⟨⟨rfl, ⟨by decide, by decide⟩, by decide⟩, ⟨⟨by decide, by decide⟩, by decide⟩, ⟨⟨by decide, by decide⟩, by decide⟩,
    by decide, by decide⟩

theorem goodBody_of_written (w : WorkingCopy) (a b : Option Nat) :
    ({ body := some (.written w), wear1 := a, wear2 := b } : StoredImage).goodBody = some w := by
  simp [StoredImage.goodBody, ImageBody.written]

theorem afterReset_image (i : StoredImage) (rate sstop : Bool) (q : List Instr) :
    (State.afterReset i rate sstop q).store.image = i := by
  unfold State.afterReset
  cases i.goodBody <;> simp [State.raise, routed]

theorem witness_ResetReadsTheImage :
    (State.afterReset (goodImage State.reset).imageAtReset false false []).store.image.wear1 = some 137 ∧
    (State.afterReset { (goodImage State.reset).store.image with wear1 := none } false false []).store.image.wear2 =
      some 137 ∧
    (State.afterReset .unwritten false false []).store.image.goodBody = none ∧
    (goodImage State.reset).store.image.goodBody = some .factory ∧ (goodImage State.reset).store.job = none ∧
    (storing (goodImage State.reset)).store.job = some { contents := .factory, takenAt := 0 } :=
  ⟨by rw [afterReset_image]; rfl, by rw [afterReset_image]; rfl, by decide, goodBody_of_written _ _ _, rfl, rfl⟩

theorem unitRuns_runs (st : Stage) : RunsStage (unitRuns st) .A 1 st := by
  cases st <;> exact ⟨by decide, by decide, by decide⟩

theorem unitRuns_agree (st : Stage) : OwnersAgree (unitRuns st) where
  units u n x h := by
    cases u
    · cases h; exact unitRuns_runs st
    · cases h
  finisher n c a h := by cases h
  stages u x h := by
    cases st <;> cases u <;> cases x <;> first | exact ⟨1, rfl⟩ | exact absurd h (by decide)
  uvc h := by cases st <;> exact absurd h (by decide)
  uva h := by cases st <;> exact absurd h (by decide)

theorem finisherRuns_runs (c a : Mark) (h : c = .openMark ∨ a = .openMark) : RunsFinish (finisherRuns c a) 1 c a :=
  ⟨rfl, h, by cases c <;> cases a <;> decide, by cases c <;> cases a <;> decide⟩

theorem finisherRuns_agree : OwnersAgree (finisherRuns .openMark .reached) where
  units u n x h := by cases u <;> cases h
  finisher n c a h := by cases h; exact finisherRuns_runs _ _ (by decide)
  stages u x h := by cases u <;> cases x <;> exact absurd h (by decide)
  uvc _ := ⟨1, .reached, rfl⟩
  uva h := absurd h (by decide)

theorem witness_ShopStopStopsTheLine :
    LampLinesAgree (unitRuns .back) ∧ ((unitRuns .back).chan .AM).state ≠ .exposing ∧
    ((unitRuns .back).chan .AB).state = .exposing ∧ ((noTail .AB (unitRuns .back)).chan .AB).state = .exposing ∧
    OwnersAgree (unitRuns .main) ∧ (unitRuns .main).unit .A = .running 1 .main ∧
    OwnersAgree (finisherRuns .openMark .reached) ∧ TransportAgrees { State.reset with sstop := true } := by
  refine ⟨fun c => ?_, by decide, by decide, by decide, unitRuns_agree _, rfl, finisherRuns_agree,
    by unfold TransportAgrees; decide⟩
  cases c <;> decide

/-- `s` with port W LOST. -/
def lostW (s : State) : State := s.setPort .W { s.port .W with state := .lost }

/-- A good image that holds DROP. -/
def dropImage (s : State) : State :=
  { s with store :=
      { image := { body := some (.written (dropOnSilence State.reset).working), wear1 := some 137, wear2 := some 137 }
        job := none, wear := 137, lastResult := .none, resultTime := none } }

theorem test_drop_by_setting :
    (after (.setSetting (hdr .E 7) 15 0 0) (lostW onBelt)).tpm = false ∧ (lostW onBelt).tpm = true := by decide

theorem witness_PermitDropFlagsTheBelt :
    (dropOnSilence onBelt).tpm = true ∧ belt701 ∈ (dropOnSilence onBelt).belt ∧
    (dropOnSilence onBelt).docket 701 = some { plate 701 .onBelt .none with passes := [pass701] } ∧
    ((dropOnSilence onBelt).docket 701).bind Docket.newest = some pass701 ∧
    ((dropOnSilence onBelt).port .W).state = .online ∧ ((dropOnSilence onBelt).port .W).lastHeard = some 999000 ∧
    (dropOnSilence onBelt).working.line.transportHold = 0 ∧ Reaches .setSetting 0 (hdr .E 7) (lostW onBelt) ∧
    (lostW onBelt).store.job = none ∧ ((lostW onBelt).port .W).state = .lost ∧ (lostW onBelt).tpm = true ∧
    Reaches .recall 0 (hdr .E 1) (dropImage (lostW onBelt)) ∧ (dropImage (lostW onBelt)).store.job = none ∧
    (dropImage (lostW onBelt)).store.image.goodBody = some (dropOnSilence State.reset).working ∧
    (dropOnSilence State.reset).working.line.transportHold = 0 ∧
    (dropImage (lostW onBelt)).working.line.transportHold ≠ 0 := by
  unfold Reaches
  exact ⟨by decide, by decide, by decide, by decide, by decide, by decide, by decide, by decide, by decide, by decide,
    by decide, by decide, by decide, goodBody_of_written _ _ _, by decide, by decide⟩

theorem witness_PulsesCount :
    ((exposing 1 90000).state = .exposing ∧ min 16777215 (89949 + (exposing 1 90000).settings.quantum) < 90000) ∧
    ({ exposing 1 90000 with state := .tail } : Channel).state = .tail ∧
    (({ Channel.fresh with idleCount := 15 } : Channel).state = .idle ∧ 15 < 16) ∧
    (({ Channel.fresh with idleCount := 16 } : Channel).state = .idle ∧ 16 ≤ 16) ∧
    ({ Channel.fresh with state := .fault, stray := 65535 } : Channel).state = .fault := by decide

theorem witness_CrossingPulseEndsTheRun :
    ((unitRuns .back).chan .AB).state = .exposing ∧ ((unitRuns .back).chan .AB).target = some 90000 ∧
    90000 ≤ min 16777215 (((unitRuns .back).chan .AB).accumulator + ((unitRuns .back).chan .AB).settings.quantum) := by
  decide

/-- The run of docket 1 on a unit's channel. -/
def run1 : RunDocket := { number := 1, order := 0, recipe := 3, cls := .normal, unit := some .A }

theorem noTail_runs : RunsStage (noTail .AM (unitRuns .main)) .A 1 .main := ⟨by decide, by decide, by decide⟩

theorem witness_ReachedBackStageReadiesTheMain :
    RunsStage (unitRuns .back) .A 1 .back ∧
    (unitRuns .back).docket 1 = some (plate 1 .atExposure .backRun) ∧
    ((unitRuns .back).chan .AB).run = some run1 ∧ ((unitRuns .back).chan .AB).target = some 90000 ∧
    90000 ≤ min 16777215 (((unitRuns .back).chan .AB).accumulator + ((unitRuns .back).chan .AB).settings.quantum) ∧
    ((unitRuns .back).chan .AB).settings.tail ≠ 0 ∧ ((noTail .AB (unitRuns .back)).chan .AB).settings.tail = 0 :=
  ⟨unitRuns_runs .back, by decide⟩

theorem witness_ReachedMainStageJoinsTheQueue :
    RunsStage (unitRuns .main) .A 1 .main ∧
    (unitRuns .main).docket 1 = some (plate 1 .atExposure .mainRun) ∧
    ((unitRuns .main).chan .AM).run = some run1 ∧ ((unitRuns .main).chan .AM).target = some 90000 ∧
    90000 ≤ min 16777215 (((unitRuns .main).chan .AM).accumulator + ((unitRuns .main).chan .AM).settings.quantum) ∧
    RunsStage (noTail .AM (unitRuns .main)) .A 1 .main ∧ ((noTail .AM (unitRuns .main)).chan .AM).settings.tail = 0 :=
  ⟨unitRuns_runs .main, by decide, by decide, by decide, by decide, noTail_runs, by decide⟩

theorem put_unique (i : Fin 48) (d : Docket) : NumbersUnique (put i d State.reset) := by
  have key (c : Fin 48) (z : Docket) (h : (put i d State.reset).slots[c] = some z) : c = i := by
    simp only [put, State.reset, Fin.getElem_fin, Vector.getElem_set, Vector.getElem_replicate] at h
    split at h
    · rename_i e; exact (Fin.ext e).symm
    · cases h
  intro a b x y hx hy _
  rw [key a x hx, key b y hy]

theorem witness_ReachedFinisherChannel :
    RunsFinish (finisherRuns .openMark .openMark) 1 .openMark .openMark ∧
    RunsFinish (finisherRuns .openMark .reached) 1 .openMark .reached ∧
    NumbersUnique (finisherRuns .openMark .openMark) ∧
    ((finisherRuns .openMark .openMark).chan .FC).settings.tail ≠ 0 ∧
    (finisherRuns .openMark .openMark).docket 1 = some (plate 1 .atFinisher .run) ∧
    ((finisherRuns .openMark .openMark).chan .FC).run = some run1 ∧
    ((finisherRuns .openMark .openMark).chan .FC).target = some 1200000 ∧
    ((noTail .FC (finisherRuns .openMark .openMark)).chan .FC).settings.tail = 0 ∧
    1200000 ≤ min 16777215 (((finisherRuns .openMark .openMark).chan .FC).accumulator +
      ((finisherRuns .openMark .openMark).chan .FC).settings.quantum) :=
  ⟨finisherRuns_runs _ _ (by decide), finisherRuns_runs _ _ (by decide), put_unique 0 _, by decide⟩

theorem witness_JoinsTheTailOfItsClass :
    let s := put 0 { plate 1 .washQueued .none with cls := .rush } (put 1 { plate 2 .washQueued .none with cls := .rush }
      (put 2 (plate 3 .washQueued .none) State.reset))
    s.classOf 3 = .normal ∧ s.classOf 1 = .rush ∧ (∀ m ∈ [2], s.classOf m = .rush) ∧
      (∀ m ∈ [3], s.classOf m = .normal) := by decide

theorem witness_WindowEndMeasuresTheLamp :
    (exposing 1 90000).state = .exposing ∧ (exposing 1 90000).window = some { openedAt := 0, pulses := 0 } ∧
    (exposing 1 90000).run = some { number := 1, order := 0, recipe := 3, cls := .normal, unit := some .A } ∧
    (exposing 1 90000).agedRaised = false ∧ (exposing 1 90000).health = none ∧ (exposing 1 90000).settings.eRef = 0 ∧
    ({ exposing 1 90000 with latched := some { ChanSettings.factory with eRef := 20000 } } : Channel).settings.eRef ≠ 0 ∧
    min 1999 (14000 * 1000 / 20000) = 700 ∧ min 1999 (13980 * 1000 / 20000) < 700 := by decide

theorem witness_GraceEndsAndTheDimWatchRaisesOnce :
    (({ exposing 1 90000 with inGrace := true } : Channel).state = .exposing) ∧
    ((exposing 1 90000).state = .exposing ∧ (exposing 1 90000).dimFrom = some 0 ∧ (exposing 1 90000).dimRaised = false) ∧
    (({ exposing 1 90000 with dimRaised := true } : Channel).dimRaised = true) ∧
    (ClockInRange (unitRuns .back) ∧ (exposing 1 90000).settings.dimInterval < 4294967296000000 ∧
      sinceMicro 0 ({ unitRuns .back with now := 4, micro := 0 } : State).microNow ≤ 4000) :=
  ⟨by decide, by decide, by decide, ⟨by decide, by decide⟩, by decide, by decide⟩

theorem witness_LampWatchHaltsTheOwner :
    RunsStage (unitRuns .main) .A 1 .main ∧ ((unitRuns .main).chan .AM).deadFrom = some 0 ∧
    ((unitRuns .main).chan .AM).overtime = some 150 ∧
    RunsFinish (finisherRuns .reached .openMark) 1 .reached .openMark ∧
    ((finisherRuns .reached .openMark).chan .FA).deadFrom = some 0 ∧
    ((finisherRuns .reached .openMark).chan .FA).overtime = some 150 :=
  ⟨unitRuns_runs .main, by decide, by decide, finisherRuns_runs _ _ (by decide), by decide, by decide⟩

/-- Channel AM in the tail of a reached run of docket 1. -/
def tailReached : Channel :=
  { exposing 1 1200000 with state := .tail, accumulator := 1201500, lastEnd := .reached, tailFrom := some 0 }

theorem witness_TailEndWritesTheDeliveredDose :
    let s := withChan .AM tailReached (put 0 (plate 1 .washQueued .none) State.reset)
    let u := withChan .AM tailReached (put 0 { plate 1 .registered .none with regOrder := 1 } State.reset)
    (s.chan .AM).state = .tail ∧ (s.chan .AM).tailFrom = some 0 ∧ (s.chan .AM).target = some 1200000 ∧
    (s.chan .AM).lastEnd = .reached ∧ ((s.chan .AM).run.map RunDocket.order) = some 0 ∧
    (s.docket 1).map Docket.regOrder = some 0 ∧ (u.docket 1).map Docket.regOrder = some 1 := by decide

theorem witness_TailEndWritesThePartialDose :
    let c := { tailReached with lastEnd := .aborted .lampOut }
    let d := { plate 1 .held .none with hold := some (held .lampOut .main .unitA none none) }
    let s := withChan .AM c (put 0 d State.reset)
    (s.chan .AM).state = .tail ∧ (s.chan .AM).tailFrom = some 0 ∧ (s.chan .AM).lastEnd = .aborted .lampOut ∧
    ((s.chan .AM).run.map RunDocket.order) = some d.regOrder ∧ s.docket 1 = some d ∧ d.state = .held ∧
    (held .lampOut .main .unitA none none).stage = channelHoldStage .AM ∧ (plate 1 .scrapped .none).state ≠ .held := by
  decide

theorem witness_LineSecondSamples :
    let v := ((State.reset.counters.set 0 { LineCounter.fresh with event := .washQueueOccupancy }).set 1
      { LineCounter.fresh with event := .dryQueueOccupancy }).set 2 { LineCounter.fresh with event := .drawersBusy }
    v[0].event = .washQueueOccupancy ∧ v[1].event = .dryQueueOccupancy ∧ v[2].event = .drawersBusy ∧
      v[3].event = .none := by decide

theorem reset_transport : TransportAgrees State.reset := by unfold TransportAgrees; decide

theorem witness_ChecksBeforeTheOwningRule :
    TransportAgrees State.reset ∧ (∀ p ∈ allPorts, (State.reset.port p).answer = none) ∧
    (fieldsOf (.retire (hdr .W 3) 1) = some (.retire, .W, [0, 1]) ∧ lenOf (.retire (hdr .W 3) 1) = some 3 ∧
      Port.W ∉ Request.retire.ports) ∧
    (fieldsOf (.retire (hdr .E 4) 1) = some (.retire, .E, [0, 1]) ∧ lenOf (.retire (hdr .E 4) 1) = some 4 ∧
      Port.E ∈ Request.retire.ports) ∧
    requestOfKind 0x7F = none ∧ requestOfKind 0x80 = none ∧ State.reset.docket 1 = none ∧
    (∀ x ∈ [(Request.cancel, hdr .E 3), (.release, hdr .E 4), (.retire, hdr .E 3), (.exit, hdr .W 3),
        (.startFinish, hdr .F 3), (.startBack, hdr .A 3), (.startMain, hdr .B 3), (.stop, hdr .A 3), (.resume, hdr .A 3),
        (.returnDocket, hdr .A 3), (.stop, hdr .F 3), (.resume, hdr .F 3), (.returnDocket, hdr .F 3), (.claim, hdr .A 3),
        (.claimFinish, hdr .F 3), (.drawerLoaded, hdr .F 4)], Reaches x.1 0 x.2 State.reset) ∧
    State.reset.unit .A = .vacant ∧ State.reset.unit .B = .vacant ∧ State.reset.finisher = .vacant := by
  refine ⟨reset_transport, ?_⟩
  unfold Reaches
  decide

theorem witness_FramesDuringAnAnswerAreOverruns :
    ((answering .A State.reset).port .A).answer.isSome = true ∧
    fieldsOf (.ping (hdr .A 1)) = some (.ping, .A, []) ∧ requestOfKind 0x7F = none := by decide

theorem witness_ReceiverReadsFrames :
    let at_ (r : Receiver) : State := { State.reset with
      now := 20, ports := { State.reset.ports with a := { PortRecord.fresh with receiver := r } } }
    (at_ .hunting).now < 4294967296000 ∧ ((at_ .hunting).port .A).receiver = .hunting ∧
    ((at_ (.lenExpected 0)).port .A).receiver = .lenExpected 0 ∧ since 0 (at_ (.lenExpected 0)).now ≤ 20 ∧
    ((at_ (.inFrame [3] 4 0)).port .A).receiver = .inFrame [3] (2 + 2) 0 ∧
    (1 ≤ (120 : Byte).toNat ∧ (120 : Byte).toNat ≤ 120 ∧ 120 < (121 : Byte).toNat ∧ (0xD8 : Byte) ≠ 0xD9) ∧
    20 < since 0 21 := by decide

theorem witness_SilenceOfAUnitsPort :
    ((online .A (unitRuns .main)).port (unitPort .A)).state = .online ∧
    ((online .A (unitRuns .main)).port (unitPort .A)).lastHeard = some 0 ∧
    RunsStage (online .A (unitRuns .main)) .A 1 .main ∧ (online .B State.reset).unit .B = .vacant ∧
    ((online .B State.reset).port (unitPort .B)).state = .online :=
  ⟨by decide, by decide, ⟨by decide, by decide, by decide⟩, by decide, by decide⟩

theorem witness_SilenceOfTheOtherPorts :
    (∀ p ∈ [Port.E, .F, .W], ((online p State.reset).port p).state = .online ∧
      ((online p State.reset).port p).lastHeard = some 0 ∧
      (online p State.reset).tpm = (online p State.reset).permitted) ∧ (online .F State.reset).finisher = .vacant ∧
    RunsFinish (online .F (finisherRuns .openMark .openMark)) 1 .openMark .openMark ∧
    (online .W State.reset).working.line.transportHold ≠ 0 ∧
    (online .W (dropOnSilence State.reset)).working.line.transportHold = 0 ∧
    TransportAgrees (online .W (dropOnSilence State.reset)) :=
  ⟨by decide, by decide, ⟨by decide, by decide, by decide, by decide⟩, by decide, by decide,
    by unfold TransportAgrees; decide⟩

theorem witness_RaiseCountsANotice :
    routed .E .storeResult = true ∧ (State.reset.port .E).notices[NoticeKind.storeResult.idx].isSome = true ∧
    (State.reset.port .E).notices[NoticeKind.plateHeld.idx] = none := by decide

theorem witness_StatusShowsAndStores :
    Reaches .status 0 (hdr .W 1) notices91 ∧ TransportAgrees notices91 ∧
    (∀ i : Fin 17, (State.reset.port .W).notices[i] = none) ∧ Reaches .status 0 (hdr .W 1) State.reset ∧
    (notices91.port .W).notices[NoticeKind.washOverdue.idx] =
      some { count := 3, latest := some 735, firstRaised := 4000 } ∧
    (∀ j : NoticeKind, (notices91.port .W).notices[j.idx].isSome = true → j ≠ .washOverdue →
      notices91.working.levels[j.idx] < notices91.working.levels[NoticeKind.washOverdue.idx]) := by
  refine ⟨by unfold Reaches; decide, by unfold TransportAgrees; decide, by decide, by unfold Reaches; decide, by decide,
    fun j => ?_⟩
  cases j <;> decide

theorem witness_AckSubtractsTheSnapshot :
    Reaches .ack 0 (hdr .W 1) notices91 ∧ TransportAgrees notices91 ∧ (notices91.port .W).snapshot.isSome = true ∧
    Reaches .ack 0 (hdr .W 1) State.reset ∧ (State.reset.port .W).snapshot = none := by
  unfold Reaches TransportAgrees; decide

theorem witness_NoticeThresholdsAndLevels :
    TransportAgrees State.reset ∧ Reaches .readNotice 0 (hdr .W 2) State.reset ∧
    (17 : BitVec 8).toNat = NoticeKind.docketsLow.idx.val + 1 ∧ routed .E .docketsLow = true ∧
    routed .W .docketsLow = false ∧ 17 < (18 : BitVec 8).toNat ∧ Reaches .setThreshold 0 (hdr .A 2) State.reset ∧
    Reaches .setLevel 0 (hdr .E 3) State.reset ∧ State.reset.store.job = none ∧
    Reaches .setLevel 0 (hdr .E 3) (storing State.reset) ∧ (storing State.reset).store.job ≠ none ∧
    Reaches .readLevel 0 (hdr .F 2) State.reset := by
  unfold Reaches TransportAgrees; decide

theorem witness_CounterRequests :
    TransportAgrees State.reset ∧ Reaches .setCounter 0 (hdr .E 6) State.reset ∧
    (3 : BitVec 8).toNat = (3 : Fin 4).val ∧ eventOfCode 15 = some .massAdded ∧
    recipePartOfCode 15 = some (some 15) ∧ recipePartOfCode 255 = some none ∧ classPartOfCode 2 = some none ∧
    prefOfCode 2 = some (some .B) ∧ (3 < (4 : BitVec 8).toNat ∧ 15 < (16 : BitVec 8).toNat ∧ 2 < (3 : BitVec 8).toNat) ∧
    Reaches .clearCounters 0 (hdr .E 1) State.reset ∧ Reaches .readCounters 0 (hdr .B 1) State.reset := by
  unfold Reaches TransportAgrees; decide

theorem witness_PingAndPortInfo :
    TransportAgrees State.reset ∧ Reaches .ping 0 (hdr .E 1) State.reset ∧ Reaches .portInfo 0 (hdr .W 1) State.reset := by
  unfold Reaches TransportAgrees; decide

theorem witness_RegisterWritesADocket :
    let s := withRecipe State.reset
    let full : State := { s with slots := Vector.replicate 48 (some (plate 1 .done .none)) }
    Reaches .register 0 (hdr .E 7) s ∧ Reaches .register 0 (hdr .E 7) full ∧
    (3 : BitVec 8).toNat = (3 : Fin 16).val ∧ prefOfCode 2 = some (some .B) ∧ classOfCode 1 = some .rush ∧
    (100 ≤ (100 : BitVec 16).toNat ∧ (20000 : BitVec 16).toNat ≤ 20000) ∧ s.working.recipes[4].valid = false ∧
    s.working.recipes[3].valid = true ∧ (∀ i : Fin 48, full.slots[i] ≠ none) ∧
    s.slots[(0 : Fin 48)] = none ∧ s.slots.toList.countP Option.isNone = 47 + 1 ∧ s.nextNumber = 1 ∧
    (16 ≤ (16 : BitVec 8).toNat ∧ 2 < (3 : BitVec 8).toNat ∧ 1 < (2 : BitVec 8).toNat ∧ (99 : BitVec 16).toNat < 100 ∧
      20000 < (20001 : BitVec 16).toNat) := by
  unfold Reaches; decide

theorem witness_CancelOfAPlateOnTheLine :
    (∀ st, NumbersUnique (put 0 (plate 1 st .none) State.reset)) ∧
    (∀ x sub, NumbersUnique (inDrawer x sub)) ∧
    (∀ st ∈ [DocketState.registered, .washQueued, .dryQueued, .finishQueued, .held, .done, .scrapped, .onBelt],
      Reaches .cancel 0 (hdr .E 3) (put 0 (plate 1 st .none) State.reset) ∧
      (put 0 (plate 1 st .none) State.reset).docket (1 : BitVec 16).toNat = some (plate 1 st .none)) ∧
    (State.reset.unit .A).docket ≠ some 1 ∧ (State.reset.unit .B).docket ≠ some 1 ∧ State.reset.finisher.docket ≠ some 1 ∧
    Reaches .cancel 0 (hdr .E 3) (inDrawer (.reserved 1) .reserved) ∧
    (inDrawer (.drying 1 { startedAt := 0, seconds := 1800 }) .drying).drawers[(0 : Fin 8)] =
      .drying 1 { startedAt := 0, seconds := 1800 } ∧
    (inDrawer (.dry 1 none true) .dry).drawers[(0 : Fin 8)] = .dry 1 none true ∧
    (inDrawer (.reserved 1) .reserved).drawers[(0 : Fin 8)] = .reserved 1 ∧
    (inDrawer (.reserved 1) .reserved).docket 1 = some { plate 1 .atDryer .reserved with drawer := some 0 } ∧
    1 ∉ (inDrawer (.reserved 1) .reserved).dryQueue := by
  unfold Reaches; exact ⟨fun _ => put_unique 0 _, fun _ _ => put_unique 0 _, by decide⟩

theorem witness_CancelVacatesTheHolder :
    Reaches .cancel 0 (hdr .E 3) (unitRuns .main) ∧ RunsStage (unitRuns .main) .A 1 .main ∧
    RunsStage (noTail .AM (unitRuns .main)) .A 1 .main ∧
    ((unitRuns .main).unit .B).docket ≠ some 1 ∧
    (unitRuns .main).docket 1 = some (plate 1 .atExposure .mainRun) ∧
    (atUnit (.loaded 1) (plate 1 .atExposure .backReady)).unit .A = .loaded 1 ∧
    (atUnit (.halted 1 .back .stopped) (plate 1 .held .none)).unit .A = .halted 1 .back .stopped ∧
    Reaches .cancel 0 (hdr .E 3) (finisherRuns .reached .openMark) ∧
    RunsFinish (finisherRuns .reached .openMark) 1 .reached .openMark ∧
    ((finisherRuns .reached .openMark).unit .A).docket ≠ some 1 ∧
    (atFinisher (.loaded 1) (plate 1 .atFinisher .ready)).finisher = .loaded 1 ∧
    (atFinisher (.halted 1 .openMark .reached .stopped) (plate 1 .held .none)).finisher =
      .halted 1 .openMark .reached .stopped :=
  ⟨by unfold Reaches; decide, unitRuns_runs .main, noTail_runs, by decide, by decide, by decide, by decide,
    by unfold Reaches; decide, finisherRuns_runs _ _ (by decide), by decide, by decide, by decide⟩

/-- Docket 1, HELD at the washout exit as under-washed after two passes. -/
def underwashed : Docket :=
  { plate 1 .held .none with passes := [pass701, pass701], hold := some (held .underwash .wash .washExit none none) }

theorem witness_ReleaseAndRetire :
    Reaches .release 0 (hdr .E 4) (put 0 underwashed State.reset) ∧
    (put 0 underwashed State.reset).docket 1 = some underwashed ∧ underwashed.passes.length < 3 ∧
    3 ≤ ({ underwashed with passes := [pass701, pass701, pass701] } : Docket).passes.length ∧
    (held .overdue .wash .washExit none none).reason ≠ .underwash ∧ (plate 1 .done .none).state ≠ .held ∧
    (held .stopped .back .unitA none none).location ≠ .washExit ∧ (2 : BitVec 8) ≠ 0 ∧ (2 : BitVec 8) ≠ 1 ∧
    Reaches .retire 0 (hdr .E 3) (put 0 (plate 1 .done .none) State.reset) ∧
    (put 0 (plate 1 .done .none) State.reset).docket 1 = some (plate 1 .done .none) := by
  unfold Reaches; decide

theorem witness_ReadDocketAndList :
    let s := put 47 (plate 9999 .onBelt .none) State.reset
    TransportAgrees s ∧ Reaches .readDocket 0 (hdr .W 4) s ∧ s.slots[(47 : Fin 48)] = some (plate 9999 .onBelt .none) ∧
    (∀ j : Fin 48, j < 47 → s.slots[j] = none) ∧ 2 < (3 : BitVec 8).toNat ∧ s.docket 1 = none ∧
    Reaches .list 0 (hdr .W 3) s ∧ (47 : BitVec 8).toNat ≤ 47 ∧ 47 < (48 : BitVec 8).toNat ∧ 7 < (8 : BitVec 8).toNat := by
  unfold Reaches TransportAgrees; decide

theorem witness_LineClearEmptiesTheLine : Reaches .lineClear 0 (hdr .E 1) onBelt := by unfold Reaches; decide

theorem witness_RecipeRequests :
    TransportAgrees State.reset ∧ Reaches .setRecipe 1 (hdr .E 27) State.reset ∧
    Reaches .setRecipe 1 (hdr .E 27) (storing State.reset) ∧ (storing State.reset).store.job ≠ none ∧
    (15 : BitVec 8).toNat = (15 : Fin 16).val ∧ State.reset.store.job = none ∧ 15 < (16 : BitVec 8).toNat ∧
    1 < (2 : BitVec 8).toNat ∧ ([0x3F] : List Byte).length = min 12 ([0x7F] : List Byte).length ∧
    ([0x3F] : List Byte)[0] = (if 0x20 ≤ (0x7F : Byte).toNat ∧ (0x7F : Byte).toNat ≤ 0x7E then 0x7F else 0x3F) ∧
    Reaches .readRecipe 0 (hdr .A 2) State.reset := by
  unfold Reaches TransportAgrees; decide

theorem witness_LineSettingRequests :
    TransportAgrees State.reset ∧ lineItemOfCode 0 = some .beltPlaces ∧ lineItemOfCode 16 = some .silenceLimit ∧
    Reaches .setSetting 0 (hdr .E 7) State.reset ∧ State.reset.store.job = none ∧
    Reaches .setSetting 0 (hdr .E 7) (storing State.reset) ∧ (storing State.reset).store.job ≠ none ∧
    Reaches .readSetting 0 (hdr .B 3) State.reset := by
  unfold Reaches TransportAgrees; decide

theorem witness_ChannelSettingRequests :
    TransportAgrees State.reset ∧ chanItemOfCode 32 = some .quantum ∧ chanItemOfCode 39 = some .eRef ∧
    channelOfCode 0 = some .AB ∧ channelOfCode 5 = some .FA ∧ lineItemOfCode 17 = none ∧ chanItemOfCode 17 = none ∧
    chanItemOfCode 40 = none ∧ lineItemOfCode 39 = none ∧ 5 < (6 : BitVec 8).toNat ∧
    Reaches .setSetting 0 (hdr .E 7) State.reset ∧ State.reset.store.job = none ∧
    Reaches .setSetting 0 (hdr .E 7) (storing State.reset) ∧ (storing State.reset).store.job ≠ none ∧
    Reaches .readSetting 0 (hdr .B 3) State.reset := by
  unfold Reaches TransportAgrees; decide

theorem witness_StoreWritesTheWorkingCopy :
    TransportAgrees State.reset ∧ Reaches .store 0 (hdr .E 1) State.reset ∧
    Reaches .store 0 (hdr .E 1) (storing State.reset) ∧
    (storing State.reset).store.job = some { contents := .factory, takenAt := 0 } ∧
    ({ State.reset.store with wear := 20000 } : Store).job = none ∧
    ({ State.reset.store with wear := 19999 } : Store).wear < 20000 ∧ Reaches .storeInfo 0 (hdr .A 1) State.reset := by
  unfold Reaches TransportAgrees; decide

/-- A good image whose settings differ from the working copy in every item that is handed on. -/
def otherImage : State :=
  { goodImage State.reset with working := { WorkingCopy.factory with
      line := { LineSettings.factory with drawers := 3, loadWarn := 100, transportHold := 0, silenceLimit := 60 }
      levels := Vector.replicate 17 0 } }

theorem witness_RecallReadsTheImage :
    Reaches .recall 0 (hdr .E 1) (storing State.reset) ∧ (storing State.reset).store.job ≠ none ∧
    Reaches .recall 0 (hdr .E 1) State.reset ∧ State.reset.store.image.goodBody = none ∧
    Reaches .recall 0 (hdr .E 1) (goodImage State.reset) ∧ (goodImage State.reset).store.image.goodBody ≠ none ∧
    (goodImage State.reset).working = .factory ∧
    Reaches .recall 0 (hdr .E 1) (online .A otherImage) ∧
    otherImage.working.line.drawers ≠ WorkingCopy.factory.line.drawers ∧
    otherImage.working.line.loadWarn ≠ WorkingCopy.factory.line.loadWarn ∧
    otherImage.working.line.transportHold ≠ WorkingCopy.factory.line.transportHold ∧
    otherImage.working.line.silenceLimit ≠ WorkingCopy.factory.line.silenceLimit ∧
    otherImage.working.levels ≠ WorkingCopy.factory.levels ∧
    ((online .A otherImage).port .A).state = .online ∧
    WorkingCopy.factory.line.silenceLimit * 1000 ≤ since 0 (online .A otherImage).now := by
  unfold Reaches
  exact ⟨by decide, by decide, by decide, by decide, by decide,
    fun h => Option.some_ne_none _ ((goodBody_of_written _ _ _).symm.trans h), by decide⟩

theorem witness_ChannelRequests :
    let fault : State := withChan .BB { Channel.fresh with state := .fault, lastPulse := some 0 } State.reset
    TransportAgrees State.reset ∧ Reaches .clearChannel 0 (hdr .B 2) State.reset ∧ channelOfCode 2 = some .BB ∧
    channelPort .AB ≠ .B ∧ channelPort .BB = .B ∧ (State.reset.chan .BB).state ≠ .fault ∧
    (fault.chan .BB).state = .fault ∧ (fault.chan .BB).lastPulse = some 0 ∧ since 0 4999 < 5000 ∧ 5000 ≤ since 0 5000 ∧
    Reaches .clearChannel 0 (hdr .B 2) fault ∧ Reaches .setLampRef 0 (hdr .F 6) State.reset ∧
    channelOfCode 5 = some .FA ∧ channelPort .FA = .F ∧ State.reset.store.job = none ∧
    (storing State.reset).store.job ≠ none ∧ Reaches .setLampRef 0 (hdr .F 6) (storing State.reset) ∧
    (State.reset.chan .FA).irradiance = none ∧
    ({ Channel.fresh with irradiance := some 16777215 } : Channel).irradiance = some 16777215 ∧
    Reaches .readChannel 0 (hdr .W 2) State.reset ∧ 5 < (6 : BitVec 8).toNat ∧ (2 : BitVec 8) ≠ 0 ∧ (2 : BitVec 8) ≠ 1 := by
  unfold Reaches TransportAgrees; decide

theorem witness_ClaimAndReturn :
    let d := { plate 1 .registered .none with snapshot := none, unit := none }
    let s := withRecipe (put 0 d State.reset)
    let l := { atUnit (.loaded 1) (plate 1 .atExposure .backReady) with exposurePool := [2] }
    Reaches .claim 0 (hdr .A 3) s ∧ s.docket 1 = some d ∧ s.unit .A = .vacant ∧ d.pref = none ∧
    s.working.recipes[(3 : Fin 16)].valid = true ∧ s.working.recipes[(3 : Fin 16)].figures = figures ∧
    (put 0 d State.reset).working.recipes[(3 : Fin 16)].valid = false ∧
    ({ d with pref := some .B } : Docket).pref = some .B ∧ (plate 1 .done .none).state ≠ .registered ∧
    (unitRuns .main).unit .A ≠ .vacant ∧ Reaches .claim 0 (hdr .A 3) (unitRuns .main) ∧
    Reaches .returnDocket 0 (hdr .A 3) l ∧ l.unit .A = .loaded 1 ∧ (l.unit .B).docket ≠ some 1 ∧
    l.docket 1 = some (plate 1 .atExposure .backReady) ∧ (plate 1 .atExposure .backReady).sub ≠ .mainReady ∧
    l.exposurePool = [2] ++ [] ∧ 1 ∉ l.exposurePool ∧ (∀ m ∈ [2], l.regOrderOf m ≤ (plate 1 .atExposure .backReady).regOrder) ∧
    ((unitRuns .main).unit .A).docket = some 1 ∧ figures.back ≠ 0 := by
  unfold Reaches; decide

theorem witness_StartRunsTheStage :
    let s := atUnit (.loaded 1) (plate 1 .atExposure .backReady)
    let m := atUnit (.loaded 1) (plate 1 .atExposure .mainReady)
    Reaches .startBack 0 (hdr .A 3) s ∧ Reaches .startMain 0 (hdr .A 3) m ∧
    s.docket 1 = some (plate 1 .atExposure .backReady) ∧ s.unit .A = .loaded 1 ∧
    (plate 1 .atExposure .backReady).sub = stageReady .back ∧ (plate 1 .atExposure .mainReady).sub = stageReady .main ∧
    (s.chan .AB).state = .idle ∧ s.sstop = false ∧ figures.back * 1000 ≠ 0 ∧ figures.main * 1000 ≠ 0 ∧
    (s.unit .B).docket ≠ some 1 ∧ (plate 1 .atExposure .backReady).sub ≠ stageReady .main ∧
    ((withChan .AB { Channel.fresh with state := .fault } s).chan .AB).state = .fault ∧
    ((withChan .AB tailReached s).chan .AB).state = .tail ∧ ({ s with sstop := true } : State).sstop = true := by
  unfold Reaches; decide

theorem witness_StopAndResume :
    let d := { plate 1 .held .none with hold := some (held .stopped .main .unitA (some 899999) none) }
    let s := atUnit (.halted 1 .main .stopped) d
    Reaches .stop 0 (hdr .A 3) (unitRuns .main) ∧ RunsStage (unitRuns .main) .A 1 .main ∧
    ((unitRuns .main).unit .B).docket ≠ some 1 ∧ Reaches .resume 0 (hdr .A 3) s ∧
    s.docket 1 = some d ∧ s.unit .A = .halted 1 .main .stopped ∧ (s.chan .AM).state = .idle ∧ s.sstop = false ∧
    d.snapshot = some figures ∧ 899999 < figures.main * 1000 ∧ figures.main * 1000 ≤ 900000 ∧
    (held .stopped .main .unitA (some 900000) none).first = some 900000 ∧
    ((withChan .AM tailReached s).chan .AM).state = .tail ∧
    ((withChan .AM { Channel.fresh with state := .fault } s).chan .AM).state = .fault ∧
    ({ s with sstop := true } : State).sstop = true ∧
    (atUnit (.loaded 1) (plate 1 .atExposure .backReady)).unit .A = .loaded 1 :=
  ⟨by unfold Reaches; decide, unitRuns_runs .main, by decide, by unfold Reaches; decide, by decide⟩

theorem witness_FinisherClaimsStartsAndReturns :
    let q := plate 1 .finishQueued .none
    let r := plate 1 .atFinisher .ready
    let s := { atFinisher (.loaded 1) r with finishPool := [2] }
    Reaches .claimFinish 0 (hdr .F 3) (put 0 q State.reset) ∧ (put 0 q State.reset).docket 1 = some q ∧
    q.snapshot = some figures ∧ (put 0 q State.reset).finisher = .vacant ∧ s.finisher ≠ .vacant ∧
    Reaches .startFinish 0 (hdr .F 3) s ∧ s.docket 1 = some r ∧ s.finisher = .loaded 1 ∧
    (s.chan .FC).state = .idle ∧ (s.chan .FA).state = .idle ∧ s.sstop = false ∧
    ((withChan .FC { Channel.fresh with state := .fault } s).chan .FC).state = .fault ∧
    ((withChan .FA tailReached s).chan .FA).state ≠ .idle ∧
    (finisherRuns .openMark .openMark).finisher.docket = some 1 ∧
    (finisherRuns .openMark .openMark).finisher ≠ .loaded 1 ∧ State.reset.finisher.docket ≠ some 1 ∧
    Reaches .returnDocket 0 (hdr .F 3) s ∧ s.finishPool = [2] ++ [] ∧ 1 ∉ s.finishPool ∧
    (∀ m ∈ [2], s.unloadOrderOf m ≤ r.unloadOrder) := by
  unfold Reaches; decide

theorem witness_FinisherStopsAndResumes :
    let d := { plate 1 .held .none with
      hold := some (held .stopped .finish .finisher (some 1200000) (some 799999)) }
    let s := atFinisher (.halted 1 .openMark .openMark .stopped) d
    Reaches .stop 0 (hdr .F 3) (finisherRuns .openMark .reached) ∧
    RunsFinish (finisherRuns .openMark .reached) 1 .openMark .reached ∧
    Reaches .resume 0 (hdr .F 3) s ∧ s.docket 1 = some d ∧ s.finisher = .halted 1 .openMark .openMark .stopped ∧
    (s.chan .FC).state = .idle ∧ (s.chan .FA).state = .idle ∧ s.sstop = false ∧ d.snapshot = some figures ∧
    (d.hold.bind HoldRecord.first) = some 1200000 ∧ (d.hold.bind HoldRecord.second) = some 799999 ∧
    figures.uvc * 1000 ≤ 1200000 ∧ 799999 < figures.uva * 1000 ∧
    ((withChan .FC { Channel.fresh with state := .fault } s).chan .FC).state = .fault ∧
    ((withChan .FA tailReached s).chan .FA).state ≠ .idle ∧ ({ s with sstop := true } : State).sstop = true ∧
    State.reset.finisher.docket ≠ some 1 ∧ (atFinisher (.loaded 1) d).finisher = .loaded 1 :=
  ⟨by unfold Reaches; decide, finisherRuns_runs _ _ (by decide), by unfold Reaches; decide, by decide⟩

/-- Example 5.2 at 1030: 702 and 703 wait behind 701 on the belt. -/
def feed52 : State :=
  { put 1 { plate 702 .washQueued .none with snapshot := some { figures with relief := 3000, margin := 1200 } }
      (put 2 { plate 703 .washQueued .none with snapshot := some { figures with relief := 800, w0 := 80, margin := 1050 } }
        onBelt) with
    now := 1030000, washQueue := [702, 703] }

theorem witness_FeedPutsAPlateOnTheBelt :
    (Reaches .feed 0 (hdr .W 1) washLine ∧ TransportAgrees washLine ∧ washLine.sstop = false ∧
      washLine.bath.condition = .normal ∧ washLine.belt = [] ∧ washLine.washQueue = [] ++ 701 :: [] ∧
      washLine.washQueue.Nodup ∧ washLine.docket 701 = some (plate 701 .washQueued .none)) ∧
    (Reaches .feed 0 (hdr .W 1) feed52 ∧ TransportAgrees feed52 ∧ feed52.belt.length < feed52.working.line.beltPlaces ∧
      feed52.washQueue = [702] ++ 703 :: [] ∧ feed52.washQueue.Nodup ∧ feed52.beltSpeed = some 126 ∧ 126 ≤ 131 ∧
      131 * (1000 - feed52.working.line.speedBand) ≤ 126 * 1000 ∧
      ((feed52.docket 702).map fun e => (e.passOver, e.vReq feed52.bath feed52.working.line)) = some (0, 69) ∧
      ((feed52.docket 703).map fun e => e.vReq feed52.bath feed52.working.line) = some 131) := by
  unfold Reaches TransportAgrees; decide

theorem witness_FeedRefusals :
    let no702 : State := { feed52 with washQueue := [702] }
    let blocked : State := put 1 { plate 702 .washQueued .none with
      snapshot := some { figures with relief := 3000, margin := 1200 }, passOver := 3 } feed52
    let fullBelt : State := { feed52 with belt := [belt701, belt701, belt701] }
    Reaches .feed 0 (hdr .W 1) State.reset ∧ State.reset.bath.condition = .unknown ∧ TransportAgrees State.reset ∧
    ({ washLine.bath with condition := .low } : Bath).condition = .low ∧
    ({ washLine.bath with condition := .spent } : Bath).condition = .spent ∧
    (({ washLine with sstop := true, tpm := false } : State).tpm =
      ({ washLine with sstop := true, tpm := false } : State).permitted) ∧
    Reaches .feed 0 (hdr .W 1) fullBelt ∧ fullBelt.working.line.beltPlaces ≤ fullBelt.belt.length ∧
    ({ washLine with washQueue := [] } : State).washQueue = [] ∧
    Reaches .feed 0 (hdr .W 1) no702 ∧ no702.washQueue = [702] ++ [] ∧ (no702.docket 702).isSome = true ∧
    ((no702.docket 702).map fun e => (e.passOver, e.vReq no702.bath no702.working.line)) = some (0, 69) ∧
    Reaches .feed 0 (hdr .W 1) blocked ∧ blocked.washQueue = [] ++ 702 :: [703] ∧
    ((blocked.docket 702).map fun e => (e.passOver, e.vReq blocked.bath blocked.working.line)) = some (3, 69) ∧
    (∀ m ∈ blocked.washQueue, (blocked.docket m).isSome = true) := by
  unfold Reaches TransportAgrees; decide

theorem witness_ExitCompletesThePass :
    Reaches .exit 0 (hdr .W 3) onBelt ∧ TransportAgrees onBelt ∧
    onBelt.docket 701 = some { plate 701 .onBelt .none with passes := [pass701] } ∧ onBelt.belt = belt701 :: [] ∧
    belt701.docket = 701 ∧ [pass701] = [] ++ [pass701] ∧ (plate 701 .onBelt .none).snapshot = some figures ∧
    (plate 1 .done .none).state ≠ .onBelt ∧
    (∀ x ∈ ({ onBelt with belt := { belt701 with docket := 409 } :: [belt701] } : State).belt.take 1, x.docket ≠ 701) := by
  unfold Reaches TransportAgrees; decide

theorem witness_BathRequests :
    TransportAgrees washLine ∧ Reaches .reportBath 0 (hdr .W 5) washLine ∧ Reaches .replenish 0 (hdr .W 5) State.reset ∧
    State.reset.bath.condition = .unknown ∧ Reaches .replenish 0 (hdr .W 5) washLine ∧
    washLine.bath.condition ≠ .unknown := by
  unfold Reaches TransportAgrees; decide

/-- Fed 296 s before the wrap of line time with a dwell of 822 s (R184): the expected exit is 526. -/
def wrappedBelt (now : Nat) : State :=
  { onBelt with now, belt := [{ belt701 with feedTime := 4294967000, expectedExit := 526 }] }

theorem test_overdue_across_the_wrap :
    (after (.overdueExpiry 701) (wrappedBelt 4294967200250)).now = 526000 ∧
    (after (.overdueExpiry 701) (wrappedBelt 100250)).now = 526000 ∧
    (after (.overdueExpiry 701) (wrappedBelt 526250)).now = 526250 := by decide

theorem witness_WashAndDryerTimersExpire :
    (onBelt.belt = [] ++ belt701 :: [] ∧ belt701.docket = 701 ∧ belt701.overdueRaised = false ∧
      onBelt.docket 701 = some { plate 701 .onBelt .none with passes := [pass701] } ∧ [pass701] = [] ++ [pass701] ∧
      onBelt.now < 4294967296000 ∧ belt701.expectedExit < 4294967296 ∧ belt701.feedTime < 4294967296 ∧
      (1822 + 4294967296 - 1000) % 4294967296 = 822 ∧ (onBelt.now / 1000 + 4294967296 - 1000) % 4294967296 = 0) ∧
    (∀ now ∈ [4294967000250, 4294967295999, 100250, 525999, 526250, 600000],
      (wrappedBelt now).belt = [] ++ { belt701 with feedTime := 4294967000, expectedExit := 526 } :: [] ∧
      (wrappedBelt now).docket 701 = onBelt.docket 701 ∧ (wrappedBelt now).now < 4294967296000) ∧
    ((526 + 4294967296 - 4294967000) % 4294967296 = 822 ∧
      [4294967000250, 4294967295999, 100250, 525999, 526250, 600000].map
        (fun now => ((wrappedBelt now).now / 1000 + 4294967296 - 4294967000) % 4294967296) =
          [0, 295, 396, 821, 822, 896]) ∧
    ((inDrawer (.drying 1 { startedAt := 0, seconds := 600 }) .drying).drawers[(0 : Fin 8)] =
        .drying 1 { startedAt := 0, seconds := 600 } ∧
      (inDrawer (.drying 1 { startedAt := 0, seconds := 600 }) .drying).docket 1 =
        some { plate 1 .atDryer .drying with drawer := some 0 }) ∧
    ((inDrawer (.dry 1 (some { startedAt := 0, seconds := 60 }) false) .dry).drawers[(0 : Fin 8)] =
        .dry 1 (some { startedAt := 0, seconds := 60 }) false ∧
      (inDrawer (.dry 1 (some { startedAt := 0, seconds := 60 }) false) .dry).docket 1 =
        some { plate 1 .atDryer .dry with drawer := some 0 }) := by decide

theorem witness_DrawerRequests :
    let reserved := inDrawer (.reserved 1) .reserved
    let drying := inDrawer (.drying 1 { startedAt := 0, seconds := 600 }) .drying
    let dry := inDrawer (.dry 1 none true) .dry
    (1 : BitVec 8).toNat = (0 : Fin 8).val + 1 ∧ Reaches .drawerLoaded 0 (hdr .F 4) reserved ∧
    reserved.docket 1 = some { plate 1 .atDryer .reserved with drawer := some 0 } ∧
    reserved.drawers[(0 : Fin 8)] = .reserved 1 ∧ Reaches .drawerUnloaded 0 (hdr .F 3) dry ∧
    dry.docket 1 = some { plate 1 .atDryer .dry with drawer := some 0 } ∧ dry.drawers[(0 : Fin 8)] = .dry 1 none true ∧
    1 ∉ dry.dryQueue ∧ (1 : BitVec 8).toNat ≤ 1 ∧ Reaches .drawerUnloaded 0 (hdr .F 3) drying ∧
    drying.drawers[(0 : Fin 8)] = .drying 1 { startedAt := 0, seconds := 600 } ∧ 1 < (2 : BitVec 8).toNat ∧
    Reaches .drawerService 0 (hdr .F 3) State.reset ∧ State.reset.drawers[(0 : Fin 8)] = .empty ∧
    8 < (9 : BitVec 8).toNat ∧ Reaches .drawerLoaded 0 (hdr .F 4) State.reset ∧
    Reaches .drawerUnloaded 0 (hdr .F 3) State.reset ∧
    (inDrawer .out .dry).drawers[(0 : Fin 8)] = .out ∧ (2 : BitVec 8) ≠ 0 ∧ (2 : BitVec 8) ≠ 1 := by
  unfold Reaches; decide

theorem witness_ReadingTheLine :
    TransportAgrees onBelt ∧ Reaches .readUnit 0 (hdr .E 2) onBelt ∧ Reaches .readFinisher 0 (hdr .E 1) onBelt ∧
    Reaches .readWash 0 (hdr .E 1) onBelt ∧ Reaches .readBath 0 (hdr .E 1) onBelt ∧
    Reaches .readDryer 0 (hdr .E 1) onBelt ∧ (3 : BitVec 8) ≠ 1 ∧ (3 : BitVec 8) ≠ 2 := by
  unfold Reaches TransportAgrees; decide

/-- The state after reset with one tick to come meets the invariants of the three whole-machine statements. -/
theorem witness_EveryStepKeepsTheLinesAgreeing :
    LinesAgree State.reset ∧ step State.reset = .next { State.reset with micro := 1 } :=
  ⟨⟨fun c => by cases c <;> decide, fun h => absurd h (by decide), by unfold TransportAgrees; decide,
    fun p => by cases p <;> decide⟩, rfl⟩

theorem witness_EveryStepKeepsTheRecordsAgreeing :
    step State.reset = .next { State.reset with micro := 1 } ∧ NumbersUnique State.reset ∧ BeltAgrees State.reset ∧
    BathAgrees State.reset ∧ DrawersGiven State.reset ∧ ClockInRange State.reset ∧ OwnersAgree (unitRuns .main) ∧
    OwnersAgree (finisherRuns .openMark .reached) ∧ NoticesRouted State.reset := by
  refine ⟨rfl, ?_, by unfold BeltAgrees; decide, .inl (by decide), .inl (by decide), ⟨by decide, by decide⟩,
    unitRuns_agree _, finisherRuns_agree, fun p k => ?_⟩
  · intro i j d e h
    simp [State.reset] at h
  · cases p <;> cases k <;> decide

theorem witness_EveryStepKeepsTheSettingsInRange :
    SettingsInRange State.reset ∧ step State.reset = .next { State.reset with micro := 1 } := by
  refine ⟨⟨⟨?_, ⟨fun i => ?_, by decide, by decide, by decide⟩, fun c i => ?_, by decide⟩, ?_, ?_⟩, rfl⟩
  · intro i
    simp only [State.reset, WorkingCopy.factory, Fin.getElem_fin, Vector.getElem_replicate]
    refine ⟨⟨?_, ?_, ?_, ?_, ?_, ?_, ?_, ?_, ?_, ?_⟩, by decide⟩ <;> first | decide | (unfold Between; decide)
  · cases i <;> unfold Between <;> decide
  · cases c <;> cases i <;> unfold Between <;> decide
  · intro b h; simp [State.reset, StoredImage.unwritten] at h
  · intro j h; simp [State.reset] at h

theorem witness_FramesAreReadBack :
    wellFormed (.retire (hdr .E 3) 1) = true ∧ wholeFrame (.retire (hdr .E 3) 1) = true ∧
    fieldsOf (.retire (hdr .E 3) 1) = some (.retire, .E, [0, 1]) ∧
    (encodeFrame (.retire (hdr .E 3) 1)).isSome = true := by decide

theorem witness_FieldBytes :
    (65535 : Nat) < 256 ^ FieldType.docket.width ∧ (-32767 : Int) ≤ -32767 ∧ (-32767 : Int) ≠ -1 ∧
    ([0x41] : List Byte).length ≤ 12 := by decide

end Sys2Proof.Tests
end

section
/-! SUPPORT. Recipe requests (R30 to R32): what the owning rules reply in each case, and the answer of a request that
changes nothing but the working copy. -/

namespace Sys2Proof.Machine

/-! ## The answer composed after the ONLINE entry (R180, R182) -/

theorem PerPort.set_set {α : Type} (t : PerPort α) (p : Port) (x y : α) : (t.set p x).set p y = t.set p y := by
  cases p <;> rfl

/-- R182, R116, R180: the ONLINE entry and the answer together are `replied`, where the permit agreed before. -/
theorem answeredWith_onlineEntry {s : State} (ht : TransportAgrees s) (p : Port) (r : Request) (c : ResultCode)
    (fs : List Field) : answeredWith (s.onlineEntry p) p r c fs = replied s p r c fs := by
  have hp : (s.onlineEntry p).port p =
      { s.port p with state := .online, lastHeard := some s.now, receiver := .hunting } := by
    rw [State.onlineEntry_port, if_pos rfl]
  rw [answeredWith, hp, State.onlineEntry_eq ht, State.setPort, PerPort.set_set, replied]

/-- R180: a request whose owning rule answers and leaves the state as it is. -/
theorem takeNamed_replied {r : Request} {k : Nat} {h : Hdr} {owner : State → Reply} {s : State} {c : ResultCode}
    {fs : List Field} (hr : Reaches r k h s) (ht : TransportAgrees s)
    (ho : owner (s.onlineEntry h.port) = (s.onlineEntry h.port, c, fs)) :
    takeNamed r k h owner s = replied s h.port r c fs := by
  rw [takeNamed_reaches hr, ho]
  exact answeredWith_onlineEntry ht h.port r c fs

/-- R180: a request whose owning rule answers and replaces the working copy. -/
theorem takeNamed_replied_setWorking {r : Request} {k : Nat} {h : Hdr} {owner : State → Reply} {s : State}
    {c : ResultCode} {fs : List Field} {w : WorkingCopy} (hr : Reaches r k h s) (ht : TransportAgrees s)
    (ho : owner (s.onlineEntry h.port) = ((s.onlineEntry h.port).setWorking w, c, fs)) :
    takeNamed r k h owner s = replied (s.setWorking w) h.port r c fs := by
  rw [takeNamed_reaches hr, ho]
  exact congrArg (State.setWorking · w) (answeredWith_onlineEntry ht h.port r c fs)

/-! ## What a SET_RECIPE takes (R31) -/

/-- R31: the clamped figures, with the clamps that have no lower bound left out. -/
theorem Snapshot.taken_eq (f : Snapshot) : f.taken =
    { thickness := max 760 (min 7000 f.thickness)
      relief := min (max 100 (min 4000 f.relief)) (max 760 (min 7000 f.thickness) - 100)
      back := min 9999 f.back
      main := max 1 (min 9999 f.main)
      w0 := max 40 (min 400 f.w0)
      margin := max 1000 (min 1500 f.margin)
      dryTime := max 10 (min 300 f.dryTime)
      uvc := min 9999 f.uvc
      uva := min 9999 f.uva } := by
  simp [Snapshot.taken, clamp]

/-- R31: the name taken is the list of that length with those characters. -/
theorem eq_nameTaken {name taken : List Byte} (hl : taken.length = min 12 name.length)
    (hc : ∀ j (hj : j < taken.length) (hn : j < name.length),
      taken[j] = if 0x20 ≤ name[j].toNat ∧ name[j].toNat ≤ 0x7E then name[j] else 0x3F) :
    taken = nameTaken name := by
  refine List.ext_getElem (by simp [nameTaken, hl]) fun j hj _ => ?_
  rw [hc j hj (by omega)]
  simp [nameTaken]

/-! ## The replies of the owning rules -/

theorem setRecipeReply_taken (i : Fin 16) {v : Nat} (name : List Byte) (x : Snapshot) {s : State} (hv : v ≤ 1)
    (hj : s.store.job = none) :
    setRecipeReply i v name x s =
      (s.setWorking { s.working with
        recipes := s.working.recipes.set i { valid := v == 1, name := nameTaken name, figures := x.taken } }, .ok,
        [fCode i, fCode v, .name (nameTaken name)] ++ recipeFields x.taken) := by
  have hr : ¬ (v ≠ 0 ∧ v ≠ 1) := by omega
  rw [setRecipeReply, dif_pos i.isLt, if_neg hr, if_neg (by simp [hj])]
  rfl

theorem setRecipeReply_range {index v : Nat} (name : List Byte) (x : Snapshot) (s : State) (h : 15 < index ∨ 1 < v) :
    setRecipeReply index v name x s = refuse s .range := by
  unfold setRecipeReply
  split
  · exact if_pos (by omega)
  · rfl

theorem setRecipeReply_busy {index v : Nat} (name : List Byte) (x : Snapshot) {s : State} (hi : index ≤ 15)
    (hv : v ≤ 1) (hj : s.store.job ≠ none) : setRecipeReply index v name x s = refuse s .busy := by
  have hr : ¬ (v ≠ 0 ∧ v ≠ 1) := by omega
  rw [setRecipeReply, dif_pos (by omega), if_neg hr, if_pos (Option.isSome_iff_ne_none.mpr hj)]

theorem readRecipeReply_taken (i : Fin 16) (s : State) :
    readRecipeReply i s = (s, .ok,
      [fCode i, fCode (boolCode s.working.recipes[i].valid), .name s.working.recipes[i].name] ++
        recipeFields s.working.recipes[i].figures) := dif_pos i.isLt

theorem readRecipeReply_range {index : Nat} (s : State) (h : 15 < index) :
    readRecipeReply index s = refuse s .range := dif_neg (by omega)

/-! ## The two requests -/

theorem exec_setRecipe (h : Hdr) (index valid : BitVec 8) (name : List Byte) (th re : BitVec 16) (ba ma : BitVec 24)
    (w0 mg dt : BitVec 16) (uc ua : BitVec 24) (s : State) :
    exec (.setRecipe h index valid name th re ba ma w0 mg dt uc ua) s =
      .next (takeNamed .setRecipe name.length h
        (setRecipeReply index.toNat valid.toNat name
          { thickness := th.toNat, relief := re.toNat, back := ba.toNat, main := ma.toNat, w0 := w0.toNat,
            margin := mg.toNat, dryTime := dt.toNat, uvc := uc.toNat, uva := ua.toNat }) s) := rfl

theorem exec_readRecipe (h : Hdr) (index : BitVec 8) (s : State) :
    exec (.readRecipe h index) s = .next (takeNamed .readRecipe 0 h (readRecipeReply index.toNat) s) := rfl

/-- Settles O37: past check 4 of R180 the owning rule's reply decides, on a store and a working copy that the ONLINE
entry left as they were. -/
theorem recipeRequests : Obligations.RecipeRequests := by
  unfold Obligations.RecipeRequests
  intro h s index valid name th re ba ma w0 mg dt uc ua ht
  have hstore : (s.onlineEntry h.port).store = s.store := by simp
  have hworking : (s.onlineEntry h.port).working = s.working := by simp
  rw [exec_setRecipe, exec_readRecipe]
  refine ⟨?taken, ?range, ?busy, ?read, ?readRange⟩
  case taken =>
    rintro i thickness x taken hr hi hv hj rfl rfl hl hc
    obtain rfl := eq_nameTaken hl hc
    rw [hi, takeNamed_replied_setWorking hr ht (setRecipeReply_taken i name _ hv (hstore ▸ hj)), Snapshot.taken_eq,
      hworking]
    rfl
  case range =>
    intro hr hbad
    rw [takeNamed_replied hr ht (setRecipeReply_range name _ _ hbad)]
  case busy =>
    intro hr hi hv hj
    rw [takeNamed_replied hr ht (setRecipeReply_busy name _ hi hv (hstore ▸ hj))]
  case read =>
    rintro i r hr hi rfl
    rw [hi, takeNamed_replied hr ht (readRecipeReply_taken i _), hworking]
    rfl
  case readRange =>
    intro hr hi
    rw [takeNamed_replied hr ht (readRecipeReply_range _ hi)]

end Sys2Proof.Machine
end

section
/-! SUPPORT. Notices (R165 to R168) and the line counters' requests (R175, R176): the records after a raise and after a
row of raises, the bitmap and the lead that STATUS shows, and what the owning rules reply. -/

namespace Sys2Proof.Machine

/-! ## The tables of ports and kinds -/

theorem mem_allKinds (k : NoticeKind) : k ∈ allKinds := by cases k <;> decide

theorem mem_allPorts (p : Port) : p ∈ allPorts := by cases p <;> decide

theorem allPorts_nodup : allPorts.Nodup := by decide

theorem allKinds_pairwise : allKinds.Pairwise fun j k => j.idx < k.idx := by decide

theorem exists_kind_idx (i : Fin 17) : ∃ k : NoticeKind, k.idx = i :=
  ⟨allKinds[i.val]'i.isLt, by revert i; decide⟩

/-- R165: every port holds a record of STATION_SILENT. -/
theorem routed_stationSilent (p : Port) : routed p .stationSilent = true := by cases p <;> rfl

/-! ## The records after raises (R166) -/

/-- R166: a raise at a port that holds the kind is a change of that port alone. -/
theorem State.raise_of_routed {s : State} {p : Port} {k : NoticeKind} (n : Option Nat) (hr : routed p k = true) :
    s.raise p k n = s.setPort p ((s.port p).raise k n s.seconds s.working.levels) := if_pos hr

/-- R166: every record of every port after a raise. -/
theorem State.raise_record {s : State} {p : Port} {k : NoticeKind} (n : Option Nat) (hr : routed p k = true) (q : Port)
    (j : NoticeKind) :
    ((s.raise p k n).port q).notices[j.idx] =
      if q = p ∧ j = k then some (raisedNotice (s.port p).notices[k.idx] n s.seconds)
      else (s.port q).notices[j.idx] := by
  rw [State.raise_port]
  by_cases hq : q = p
  · subst hq
    by_cases hj : j = k
    · simp [hr, hj]
    · have hne : k.idx.val ≠ j.idx.val := fun e => hj (NoticeKind.idx_inj (Fin.ext e)).symm
      simp [hr, hj, hne]
  · simp [hq]

/-- R166: the raise evaluates the attention line of its port. -/
theorem State.raise_attention {s : State} {p : Port} {k : NoticeKind} (n : Option Nat) (hr : routed p k = true) :
    ((s.raise p k n).port p).attention = ((s.raise p k n).port p).called s.working.levels := by
  rw [State.raise_port, if_pos ⟨rfl, hr⟩, PortRecord.raise_attention]

/-- R166: one kind raised at each of several ports counts once at each of them. -/
theorem foldl_raise_record {k : NoticeKind} (n : Option Nat) (q : Port) (j : NoticeKind) {l : List Port} (hl : l.Nodup)
    (hr : ∀ p ∈ l, routed p k = true) (s : State) :
    ((l.foldl (fun t p => t.raise p k n) s).port q).notices[j.idx] =
      if q ∈ l ∧ j = k then some (raisedNotice (s.port q).notices[k.idx] n s.seconds)
      else (s.port q).notices[j.idx] := by
  induction l generalizing s with
  | nil => simp
  | cons p l ih =>
    obtain ⟨hp, hnodup⟩ := List.nodup_cons.mp hl
    obtain ⟨hrp, hrl⟩ := List.forall_mem_cons.mp hr
    have hsec : (s.raise p k n).seconds = s.seconds := by simp [State.seconds]
    rw [List.foldl_cons, ih hnodup hrl, State.raise_record n hrp, State.raise_record n hrp, hsec]
    by_cases hq : q = p
    · subst hq; simp [hp]
    · simp [hq]

/-- R165, R182: the silence of `p` counts at every other port. -/
theorem State.raiseSilent_record (s : State) (p q : Port) (j : NoticeKind) :
    ((s.raiseSilent p).port q).notices[j.idx] =
      if q ≠ p ∧ j = .stationSilent then
        some (raisedNotice (s.port q).notices[j.idx] (some (portCode p)) s.seconds)
      else (s.port q).notices[j.idx] := by
  rw [State.raiseSilent, foldl_raise_record _ q j (allPorts_nodup.filter _) fun x _ => routed_stationSilent x]
  by_cases hj : j = .stationSilent
  · subst hj; simp [mem_allPorts]
  · simp [hj]

/-! ## The attention line (R167) -/

theorem PortRecord.called_iff (r : PortRecord) (levels : Vector Nat 17) :
    r.called levels = true ↔
      ∃ k : NoticeKind, r.notices[k.idx].isSome = true ∧ 1 ≤ levels[k.idx] ∧ r.threshold ≤ levels[k.idx] := by
  simp only [PortRecord.called, List.any_eq_true, Bool.and_eq_true, decide_eq_true_eq, mem_allKinds, true_and, and_assoc]

/-- Settles O24, from the records after one raise and, by induction on the ports told, after the raises of a silence. -/
theorem raiseCountsANotice : Obligations.RaiseCountsANotice := by
  unfold Obligations.RaiseCountsANotice
  refine ⟨fun s p q k j n hr => ⟨State.raise_record n hr q j, State.raise_attention n hr, ?_⟩,
    PortRecord.called_iff, State.raiseSilent_record⟩
  rw [State.raise_of_routed n hr]
  rfl

/-! ## The bits of a sum of distinct powers of two -/

theorem two_pow_dvd_sum {n : Nat} {l : List Nat} (h : ∀ b ∈ l, n ≤ b) : 2 ^ n ∣ (l.map fun b => 2 ^ b).sum := by
  induction l with
  | nil => exact Nat.dvd_zero _
  | cons a l ih =>
    rw [List.map_cons, List.sum_cons]
    exact Nat.dvd_add (Nat.pow_dvd_pow 2 (h a List.mem_cons_self)) (ih fun b hb => h b (List.mem_cons_of_mem a hb))

/-- A power of two below every power of a sum adds its bit to those of the sum. -/
theorem two_pow_add_sum {a : Nat} {l : List Nat} (h : ∀ b ∈ l, a < b) :
    2 ^ a + (l.map fun b => 2 ^ b).sum = (l.map fun b => 2 ^ b).sum ||| 2 ^ a := by
  obtain ⟨m, hm⟩ := two_pow_dvd_sum (n := a + 1) h
  rw [hm, Nat.add_comm]
  exact Nat.two_pow_add_eq_or_of_lt (Nat.pow_lt_pow_right (by decide) (Nat.lt_succ_self a)) m

theorem testBit_sum_two_pow {l : List Nat} (hl : l.Pairwise (· < ·)) (i : Nat) :
    (l.map fun b => 2 ^ b).sum.testBit i = true ↔ i ∈ l := by
  induction l with
  | nil => simp only [List.map_nil, List.sum_nil, Nat.zero_testBit, Bool.false_eq_true, List.not_mem_nil]
  | cons a l ih =>
    obtain ⟨hlow, hrest⟩ := List.pairwise_cons.mp hl
    rw [List.map_cons, List.sum_cons, two_pow_add_sum hlow, Nat.testBit_or, Bool.or_eq_true, ih hrest,
      Nat.testBit_two_pow, decide_eq_true_eq, List.mem_cons, or_comm, eq_comm]

/-! ## What STATUS shows (R168) -/

section Status

variable {r : PortRecord} {levels : Vector Nat 17}

theorem PortRecord.mem_pendingKinds {k : NoticeKind} : k ∈ r.pendingKinds ↔ r.notices[k.idx].isSome = true := by
  simp [PortRecord.pendingKinds, mem_allKinds]

theorem PortRecord.pendingKinds_pairwise (r : PortRecord) : r.pendingKinds.Pairwise fun j k => j.idx < k.idx :=
  allKinds_pairwise.filter _

theorem PortRecord.testBit_bitmap_iff {i : Nat} :
    r.bitmap.testBit i = true ↔ ∃ k : NoticeKind, r.notices[k.idx].isSome = true ∧ k.idx.val = i := by
  have hrising : (r.pendingKinds.map fun k => k.idx.val).Pairwise (· < ·) :=
    List.pairwise_map.mpr (r.pendingKinds_pairwise.imp Fin.lt_def.mp)
  have hbits := testBit_sum_two_pow hrising i
  rw [List.map_map] at hbits
  refine hbits.trans ?_
  simp only [List.mem_map, PortRecord.mem_pendingKinds]

theorem PortRecord.testBit_bitmap (r : PortRecord) (i : Fin 17) : r.bitmap.testBit i = r.notices[i].isSome := by
  obtain ⟨k, rfl⟩ := exists_kind_idx i
  rw [Bool.eq_iff_iff, PortRecord.testBit_bitmap_iff]
  refine ⟨fun ⟨j, hj, hjk⟩ => ?_, fun hk => ⟨k, hk, rfl⟩⟩
  rwa [NoticeKind.idx_inj (Fin.ext hjk)] at hj

theorem PortRecord.bitmap_lt (r : PortRecord) : r.bitmap < 2 ^ 17 := by
  refine Nat.lt_pow_two_of_testBit _ fun i hi => Bool.eq_false_iff.mpr fun hbit => ?_
  obtain ⟨k, _, hk⟩ := PortRecord.testBit_bitmap_iff.mp hbit
  omega

theorem PortRecord.counts_getElem (r : PortRecord) (i : Fin 17) :
    r.counts[i] = (r.notices[i].map Notice.count).getD 0 := by
  simp only [PortRecord.counts, Fin.getElem_fin, Vector.getElem_ofFn]
  cases r.notices[i.val] <;> rfl

/-- R168: the lead among the kinds looked at so far, after one more pending kind. -/
def leadStep (levels : Vector Nat 17) (best : Option NoticeKind) (k : NoticeKind) : Option NoticeKind :=
  match best with
  | none => some k
  | some b => if levels[b.idx] < levels[k.idx] then some k else some b

theorem PortRecord.lead_eq_foldl (r : PortRecord) (levels : Vector Nat 17) :
    r.lead levels = r.pendingKinds.foldl (leadStep levels) none := rfl

theorem leadStep_eq_of_lt {best : Option NoticeKind} {k : NoticeKind}
    (h : ∀ b, best = some b → levels[b.idx] < levels[k.idx]) : leadStep levels best k = some k := by
  cases best with
  | none => rfl
  | some b => exact if_pos (h b rfl)

theorem leadStep_eq_of_le {b k : NoticeKind} (h : levels[k.idx] ≤ levels[b.idx]) :
    leadStep levels (some b) k = some b := if_neg (Nat.not_lt.mpr h)

/-- A bound of the levels is kept by one more kind below it. -/
theorem leadStep_lt {best : Option NoticeKind} {j : NoticeKind} {n : Nat} (hj : levels[j.idx] < n)
    (h : ∀ b, best = some b → levels[b.idx] < n) : ∀ b, leadStep levels best j = some b → levels[b.idx] < n := by
  intro b hb
  cases best with
  | none => cases hb; exact hj
  | some c =>
    rw [leadStep] at hb
    split at hb
    · cases hb; exact hj
    · cases hb; exact h _ rfl

/-- A lead that no later kind exceeds stays. -/
theorem foldl_leadStep_keeps {k : NoticeKind} {l : List NoticeKind} (h : ∀ j ∈ l, levels[j.idx] ≤ levels[k.idx]) :
    l.foldl (leadStep levels) (some k) = some k := by
  induction l with
  | nil => rfl
  | cons j l ih =>
    rw [List.foldl_cons, leadStep_eq_of_le (h j List.mem_cons_self)]
    exact ih fun i hi => h i (List.mem_cons_of_mem j hi)

/-- R168: `k` comes before `j` as a lead: at a higher level, or at the same level with the lower number. -/
def LeadsOver (levels : Vector Nat 17) (k j : NoticeKind) : Prop :=
  levels[j.idx] < levels[k.idx] ∨ (levels[j.idx] = levels[k.idx] ∧ k.idx < j.idx)

theorem LeadsOver.le {k j : NoticeKind} (h : LeadsOver levels k j) : levels[j.idx] ≤ levels[k.idx] :=
  h.elim Nat.le_of_lt fun g => Nat.le_of_eq g.1

/-- The tie rule does not speak of a kind of a lower number. -/
theorem LeadsOver.lt_of_idx_lt {k j : NoticeKind} (h : LeadsOver levels k j) (hlt : j.idx < k.idx) :
    levels[j.idx] < levels[k.idx] :=
  h.resolve_right fun g => Nat.lt_asymm g.2 hlt

/-- Through a list in kind order, from a best below `k`, the lead becomes `k` at its place and stays. -/
theorem foldl_leadStep {k : NoticeKind} {l : List NoticeKind} (hl : l.Pairwise fun i j => i.idx < j.idx) (hk : k ∈ l)
    (hover : ∀ j ∈ l, j ≠ k → LeadsOver levels k j) (best : Option NoticeKind)
    (hbest : ∀ b, best = some b → levels[b.idx] < levels[k.idx]) : l.foldl (leadStep levels) best = some k := by
  induction l generalizing best with
  | nil => cases hk
  | cons j l ih =>
    obtain ⟨hlow, hrest⟩ := List.pairwise_cons.mp hl
    have hoverl : ∀ i ∈ l, i ≠ k → LeadsOver levels k i := fun i hi => hover i (List.mem_cons_of_mem j hi)
    rw [List.foldl_cons]
    by_cases hjk : j = k
    · subst hjk
      rw [leadStep_eq_of_lt hbest]
      exact foldl_leadStep_keeps fun i hi => (hoverl i hi fun e => Nat.lt_irrefl _ (e ▸ hlow i hi)).le
    · have hkl : k ∈ l := (List.mem_cons.mp hk).resolve_left (Ne.symm hjk)
      have hlt := (hover j List.mem_cons_self hjk).lt_of_idx_lt (hlow k hkl)
      exact ih hrest hkl hoverl _ (leadStep_lt hlt hbest)

/-- R168: the pending kind of the highest level, and among equal levels of the lowest number, leads. -/
theorem PortRecord.lead_eq_some {k : NoticeKind} (hk : r.notices[k.idx].isSome = true)
    (hover : ∀ j : NoticeKind, r.notices[j.idx].isSome = true → j ≠ k → LeadsOver levels k j) :
    r.lead levels = some k :=
  foldl_leadStep r.pendingKinds_pairwise (PortRecord.mem_pendingKinds.mpr hk)
    (fun j hj => hover j (PortRecord.mem_pendingKinds.mp hj)) none (fun _ h => nomatch h)

theorem PortRecord.lead_eq_none (levels : Vector Nat 17) (h : ∀ i : Fin 17, r.notices[i] = none) :
    r.lead levels = none := by
  have hnil : r.pendingKinds = [] := List.eq_nil_iff_forall_not_mem.mpr fun k hk => by
    have hsome := PortRecord.mem_pendingKinds.mp hk
    rw [h k.idx] at hsome
    cases hsome
  rw [PortRecord.lead_eq_foldl, hnil, List.foldl_nil]

theorem leadFields_none (h : r.lead levels = none) :
    leadFields r levels = [fCode 0, .opt .code none, .opt .code none, .opt .docket none, .opt .time none] := by
  rw [leadFields, h]

theorem leadFields_some {k : NoticeKind} {x : Notice} (h : r.lead levels = some k)
    (hx : r.notices[k.idx] = some x) :
    leadFields r levels = [fCode (k.idx.val + 1), .opt .code (some levels[k.idx]), .opt .code (some x.count),
      .opt .docket x.latest, .opt .time (some x.firstRaised)] := by
  simp only [leadFields, h, hx]
  rfl

end Status

/-- R180: a request whose owning rule answers and changes its port's record by `f`, which neither reads nor writes what
the ONLINE entry and the answer set. -/
theorem takeNamed_replied_setPort {r : Request} {k : Nat} {h : Hdr} {owner : State → Reply} {s : State} {c : ResultCode}
    {fs : List Field} (f : PortRecord → PortRecord)
    (hf : ∀ (x : PortRecord) heard,
      f { x with state := .online, lastHeard := heard, receiver := .hunting } =
        { f x with state := .online, lastHeard := heard, receiver := .hunting })
    (hr : Reaches r k h s) (ht : TransportAgrees s)
    (ho : owner (s.onlineEntry h.port) =
      ((s.onlineEntry h.port).setPort h.port (f ((s.onlineEntry h.port).port h.port)), c, fs)) :
    takeNamed r k h owner s = replied (s.setPort h.port (f (s.port h.port))) h.port r c fs := by
  rw [takeNamed_reaches hr, ho, State.onlineEntry_port, if_pos rfl, hf, State.onlineEntry_eq ht]
  simp [answeredWith, replied, State.setPort, State.port, PerPort.set_set]

theorem exec_status (h : Hdr) (s : State) :
    exec (.status h) s = .next (takeNamed .status 0 h (statusReply h.port (s.port h.port).state) s) := rfl

/-- R168: STATUS stores the counts and shows the bitmap and the lead of its port's records. -/
theorem exec_status_replied {h : Hdr} {s : State} (hr : Reaches .status 0 h s) (ht : TransportAgrees s) :
    exec (.status h) s = .next (replied
      (s.setPort h.port { s.port h.port with snapshot := some (s.port h.port).counts }) h.port .status .ok
      (fCode (s.port h.port).state.code :: .num .bitmap (s.port h.port).bitmap ::
        leadFields (s.port h.port) s.working.levels)) := by
  have hworking : (s.onlineEntry h.port).working = s.working := by simp
  rw [exec_status, takeNamed_replied_setPort (fun x => { x with snapshot := some x.counts }) (fun _ _ => rfl) hr ht]
  rw [statusReply, hworking, State.onlineEntry_port, if_pos rfl]
  rfl

/-- Settles O26: the bitmap's bits are the places of the pending kinds, and the lead is what the scan in kind order leaves. -/
theorem statusShowsAndStores : Obligations.StatusShowsAndStores := by
  unfold Obligations.StatusShowsAndStores
  intro h s hr ht
  refine ⟨_, _, _, exec_status_replied hr ht, PortRecord.testBit_bitmap _, PortRecord.bitmap_lt _,
    PortRecord.counts_getElem _, fun hnone => leadFields_none (PortRecord.lead_eq_none _ hnone), fun k x hx hbest => ?_⟩
  exact leadFields_some (PortRecord.lead_eq_some (by rw [hx]; rfl) hbest) hx

/-! ## The line counters' requests (R175, R176) -/

theorem eventOfCode_none {n : Nat} (h : 15 < n) : eventOfCode n = none := by
  obtain ⟨m, rfl⟩ := Nat.exists_eq_add_of_lt h
  rw [show 15 + m + 1 = m + 16 by omega]; rfl

theorem recipePartOfCode_none {n : Nat} (h : 15 < n) (hany : n ≠ 255) : recipePartOfCode n = none := by
  rw [recipePartOfCode, if_neg hany, dif_neg (by omega)]

theorem classPartOfCode_none {n : Nat} (h : 2 < n) : classPartOfCode n = none := by
  obtain ⟨m, rfl⟩ := Nat.exists_eq_add_of_lt h
  rw [show 2 + m + 1 = m + 3 by omega]; rfl

theorem prefOfCode_none {n : Nat} (h : 2 < n) : prefOfCode n = none := by
  obtain ⟨m, rfl⟩ := Nat.exists_eq_add_of_lt h
  rw [show 2 + m + 1 = m + 3 by omega]; rfl

/-- R180: a request whose owning rule answers and replaces the line counters. -/
theorem takeNamed_replied_setCounters {r : Request} {k : Nat} {h : Hdr} {owner : State → Reply} {s : State}
    {c : ResultCode} {fs : List Field} {v : Vector LineCounter 4} (hr : Reaches r k h s) (ht : TransportAgrees s)
    (ho : owner (s.onlineEntry h.port) = ((s.onlineEntry h.port).setCounters v, c, fs)) :
    takeNamed r k h owner s = replied (s.setCounters v) h.port r c fs := by
  rw [takeNamed_reaches hr, ho]
  exact congrArg (State.setCounters · v) (answeredWith_onlineEntry ht h.port r c fs)

/-- R175: the counter set, when every operand names something. -/
theorem setCounterReply_taken (i : Fin 4) {event recipe cls unit : Nat} {e : CounterEvent} {r : Option (Fin 16)}
    {c : Option PlateClass} {u : Option UnitId} (s : State) (he : eventOfCode event = some e)
    (hr : recipePartOfCode recipe = some r) (hc : classPartOfCode cls = some c) (hu : prefOfCode unit = some u) :
    setCounterReply i event recipe cls unit s =
      (s.setCounters (s.counters.set i
        { event := e, recipe := r, cls := c, unit := u, value := 0, timeSet := s.seconds }), .ok,
        [fCode i, fCode event, fCode recipe, fCode cls, fCode unit, fTime s.seconds]) := by
  rw [setCounterReply, dif_pos i.isLt]
  simp only [he, hr, hc, hu]

/-- R175: an operand outside its range is refused. -/
theorem setCounterReply_range {k event recipe cls unit : Nat} (s : State)
    (h : 3 < k ∨ 15 < event ∨ (15 < recipe ∧ recipe ≠ 255) ∨ 2 < cls ∨ 2 < unit) :
    setCounterReply k event recipe cls unit s = refuse s .range := by
  unfold setCounterReply
  split
  · split
    · rename_i hk _ _ _ _ he hr hc hu
      rcases h with h | h | ⟨h, hany⟩ | h | h
      · omega
      · rw [eventOfCode_none h] at he; contradiction
      · rw [recipePartOfCode_none h hany] at hr; contradiction
      · rw [classPartOfCode_none h] at hc; contradiction
      · rw [prefOfCode_none h] at hu; contradiction
    · rfl
  · rfl

/-- R176: the four counters in the order READ_COUNTERS answers them. -/
theorem toList_four {α : Type} (v : Vector α 4) : v.toList = [v[0], v[1], v[2], v[3]] := by
  rcases v with ⟨⟨l⟩, hl⟩
  match l, hl with
  | [_, _, _, _], _ => rfl

theorem exec_setCounter (h : Hdr) (k event recipe cls unit : BitVec 8) (s : State) :
    exec (.setCounter h k event recipe cls unit) s =
      .next (takeNamed .setCounter 0 h
        (setCounterReply k.toNat event.toNat recipe.toNat cls.toNat unit.toNat) s) := rfl

theorem exec_clearCounters (h : Hdr) (s : State) :
    exec (.clearCounters h) s = .next (takeNamed .clearCounters 0 h clearCountersReply s) := rfl

theorem exec_readCounters (h : Hdr) (s : State) :
    exec (.readCounters h) s = .next (takeNamed .readCounters 0 h readCountersReply s) := rfl

/-- Settles O29: past check 4 of R180 the owning rule's reply decides, on line time and counters that the ONLINE entry
left as they were. -/
theorem counterRequests : Obligations.CounterRequests := by
  unfold Obligations.CounterRequests
  intro h s ht
  have hseconds : (s.onlineEntry h.port).seconds = s.seconds := by simp [State.seconds]
  have hcounters : (s.onlineEntry h.port).counters = s.counters := by simp
  refine ⟨?set, ?range, ?clear, ?read⟩
  case set =>
    intro k event recipe cls unit i e r c u hr hk he hrec hc hu
    rw [exec_setCounter, hk,
      takeNamed_replied_setCounters hr ht (setCounterReply_taken i _ he hrec hc hu), hseconds, hcounters]
    rfl
  case range =>
    intro k event recipe cls unit hr hbad
    rw [exec_setCounter, takeNamed_replied hr ht (setCounterReply_range _ hbad)]
  case clear =>
    intro hr
    refine ⟨mapAll (fun c => { c with value := 0, timeSet := s.seconds }) s.counters, fun i => ?_, ?_⟩
    · exact getElem_mapAll _ _ i.val i.isLt
    · rw [exec_clearCounters, takeNamed_replied_setCounters hr ht rfl, hseconds, hcounters]
      rfl
  case read =>
    intro hr
    rw [exec_readCounters, takeNamed_replied hr ht rfl, hseconds, hcounters, toList_four]
    rfl

end Sys2Proof.Machine
end

section
/-! SUPPORT. Every command is an event or a request decided by an owning rule: what a step keeps is what the ONLINE entry,
the answer, the owning rules and the events keep. -/

namespace Sys2Proof.Machine

/-! ## Commands and their owning rules (R180) -/

/-- A request as the machine takes it: its row of the table, the length of its name, its header and its owning rule. -/
structure Taken where
  request   : Request
  nameCount : Nat
  hdr       : Hdr
  owner     : State → Reply

/-- The request a command is at the state `s`; absent for an event. -/
def takenOf (s : State) : Instr → Option Taken
  | .register h recipe area coverage pref cls =>
    some ⟨.register, 0, h, registerReply recipe.toNat area.toNat coverage.toNat pref.toNat cls.toNat⟩
  | .cancel h n => some ⟨.cancel, 0, h, cancelReply n.toNat⟩
  | .releasePass h n form => some ⟨.release, 0, h, releaseReply n.toNat form.toNat⟩
  | .releaseRewash h n form => some ⟨.release, 0, h, releaseReply n.toNat form.toNat⟩
  | .retire h n => some ⟨.retire, 0, h, retireReply n.toNat⟩
  | .readDocket h n part => some ⟨.readDocket, 0, h, readDocketReply n.toNat part.toNat⟩
  | .list h collection start => some ⟨.list, 0, h, listReply collection.toNat start.toNat⟩
  | .lineClear h => some ⟨.lineClear, 0, h, lineClearReply⟩
  | .setRecipe h index valid name th re ba ma w0 mg dt uc ua =>
    some ⟨.setRecipe, name.length, h, setRecipeReply index.toNat valid.toNat name
      { thickness := th.toNat, relief := re.toNat, back := ba.toNat, main := ma.toNat, w0 := w0.toNat,
        margin := mg.toNat, dryTime := dt.toNat, uvc := uc.toNat, uva := ua.toNat }⟩
  | .readRecipe h index => some ⟨.readRecipe, 0, h, readRecipeReply index.toNat⟩
  | .setSetting h item channel value =>
    some ⟨.setSetting, 0, h, setSettingReply item.toNat channel.toNat value.toNat⟩
  | .readSetting h item channel => some ⟨.readSetting, 0, h, readSettingReply item.toNat channel.toNat⟩
  | .setLevel h kind level => some ⟨.setLevel, 0, h, setLevelReply kind.toNat level.toNat⟩
  | .readLevel h kind => some ⟨.readLevel, 0, h, readLevelReply kind.toNat⟩
  | .store h skey => some ⟨.store, 0, h, storeReply skey⟩
  | .recall h => some ⟨.recall, 0, h, recallReply⟩
  | .storeInfo h => some ⟨.storeInfo, 0, h, storeInfoReply⟩
  | .clearChannel h ch => some ⟨.clearChannel, 0, h, clearChannelReply h.port ch.toNat⟩
  | .setLampRefValue h ch form value =>
    some ⟨.setLampRef, 0, h, lampRefReply h.port ch.toNat form.toNat value.toNat⟩
  | .setLampRefMeasured h ch form value =>
    some ⟨.setLampRef, 0, h, lampRefReply h.port ch.toNat form.toNat value.toNat⟩
  | .readChannel h ch => some ⟨.readChannel, 0, h, readChannelReply ch.toNat⟩
  | .claim h n => some ⟨.claim, 0, h, onUnit h.port (claimReply n.toNat)⟩
  | .startBack h n => some ⟨.startBack, 0, h, onUnit h.port (startStageReply .back n.toNat)⟩
  | .startMain h n => some ⟨.startMain, 0, h, onUnit h.port (startStageReply .main n.toNat)⟩
  | .stop h n => some ⟨.stop, 0, h, onHolder h.port (unitStopReply n.toNat) (finisherStopReply n.toNat)⟩
  | .resume h n => some ⟨.resume, 0, h, onHolder h.port (unitResumeReply n.toNat) (finisherResumeReply n.toNat)⟩
  | .returnDocket h n =>
    some ⟨.returnDocket, 0, h, onHolder h.port (unitReturnReply n.toNat) (finisherReturnReply n.toNat)⟩
  | .readUnit h unit => some ⟨.readUnit, 0, h, readUnitReply unit.toNat⟩
  | .feed h => some ⟨.feed, 0, h, feedReply⟩
  | .exit h n => some ⟨.exit, 0, h, exitReply n.toNat⟩
  | .readWash h => some ⟨.readWash, 0, h, readWashReply⟩
  | .reportBath h load volume => some ⟨.reportBath, 0, h, reportBathReply load.toNat volume.toNat⟩
  | .replenish h drained added => some ⟨.replenish, 0, h, replenishReply drained.toNat added.toNat⟩
  | .readBath h => some ⟨.readBath, 0, h, readBathReply⟩
  | .drawerLoaded h d n => some ⟨.drawerLoaded, 0, h, drawerLoadedReply d.toNat n.toNat⟩
  | .drawerUnloaded h d force => some ⟨.drawerUnloaded, 0, h, drawerUnloadedReply d.toNat force.toNat⟩
  | .drawerServiceOut h d dir => some ⟨.drawerService, 0, h, drawerServiceReply d.toNat dir.toNat⟩
  | .drawerServiceIn h d dir => some ⟨.drawerService, 0, h, drawerServiceReply d.toNat dir.toNat⟩
  | .readDryer h => some ⟨.readDryer, 0, h, readDryerReply⟩
  | .claimFinish h n => some ⟨.claimFinish, 0, h, claimFinishReply n.toNat⟩
  | .startFinish h n => some ⟨.startFinish, 0, h, startFinishReply n.toNat⟩
  | .finisherStop len n => some ⟨.stop, 0, ⟨.F, len⟩, finisherStopReply n.toNat⟩
  | .finisherResume len n => some ⟨.resume, 0, ⟨.F, len⟩, finisherResumeReply n.toNat⟩
  | .finisherReturn len n => some ⟨.returnDocket, 0, ⟨.F, len⟩, finisherReturnReply n.toNat⟩
  | .readFinisher h => some ⟨.readFinisher, 0, h, readFinisherReply⟩
  | .status h => some ⟨.status, 0, h, statusReply h.port (s.port h.port).state⟩
  | .ack h => some ⟨.ack, 0, h, ackReply h.port⟩
  | .readNotice h kind => some ⟨.readNotice, 0, h, readNoticeReply h.port kind.toNat⟩
  | .setThreshold h threshold => some ⟨.setThreshold, 0, h, setThresholdReply h.port threshold.toNat⟩
  | .setCounter h k event recipe cls unit =>
    some ⟨.setCounter, 0, h, setCounterReply k.toNat event.toNat recipe.toNat cls.toNat unit.toNat⟩
  | .clearCounters h => some ⟨.clearCounters, 0, h, clearCountersReply⟩
  | .readCounters h => some ⟨.readCounters, 0, h, readCountersReply⟩
  | .ping h => some ⟨.ping, 0, h, pingReply⟩
  | .portInfo h => some ⟨.portInfo, 0, h, portInfoReply h.port (s.port h.port).state⟩
  | _ => none

/-- R180: what a request command does is what the taking of its request does. -/
theorem exec_takenOf {c : Instr} {s : State} {x : Taken} (hx : takenOf s c = some x) :
    exec c s = .next (takeNamed x.request x.nameCount x.hdr x.owner s) := by
  cases c <;> cases hx <;> rfl

/-- A property that every owning rule and every event keeps, with the overrun count, the ONLINE entry and the answer, is
kept by every command. -/
theorem exec_keeps {P : State → Prop} (ho : ∀ s p, P s → P (s.countOverrun p)) (hn : ∀ s p, P s → P (s.onlineEntry p))
    (ha : ∀ s p k c fs, P s → P (s.answer p k c fs))
    (hr : ∀ s c x, takenOf s c = some x → ∀ t, P t → P (x.owner t).1)
    (he : ∀ s c, takenOf s c = none → P s → ∀ t, exec c s = .next t → P t)
    {c : Instr} {s t : State} (hs : P s) (ht : exec c s = .next t) : P t := by
  cases hx : takenOf s c with
  | none => exact he s c hx hs t ht
  | some x =>
    rw [exec_takenOf hx] at ht
    cases ht
    exact takeNamed_keeps P ho hn ha _ _ _ _ (hr s c x hx) s hs

/-- A property of every field but the queue, kept by a microsecond of line time and by every command, is kept by a step. -/
theorem step_keeps {P : State → Prop} (hp : ∀ s q, P s → P (s.setPending q)) (hm : ∀ s, P s → P (s.passMicros 1))
    (hc : ∀ c s t, P s → exec c s = .next t → P t) {s t : State} (hs : P s) (ht : step s = .next t) : P t := by
  unfold step at ht
  split at ht
  · cases ht
    exact hm s hs
  · exact hc _ _ _ (hp s _ hs) ht

/-! ## Rules that two requests share -/

/-- What every rule of a unit keeps is kept by the request on the unit of a port. -/
theorem onUnit_keeps {P : State → Prop} {owner : UnitId → State → Reply} {t : State} (ht : P t)
    (h : ∀ u, P (owner u t).1) (p : Port) : P (onUnit p owner t).1 := by
  unfold onUnit
  split
  · exact h _
  · exact ht

/-- The same with the finisher's rule at port F. -/
theorem onHolder_keeps {P : State → Prop} {owner : UnitId → State → Reply} {finisher : State → Reply} {t : State}
    (ht : P t) (h : ∀ u, P (owner u t).1) (hf : P (finisher t).1) (p : Port) : P (onHolder p owner finisher t).1 := by
  unfold onHolder
  split
  · exact hf
  · exact onUnit_keeps ht h p

/-- The owning rules of the requests that only read. -/
def readsOnly : Instr → Bool
  | .readDocket .. | .list .. | .readRecipe .. | .readSetting .. | .readLevel .. | .storeInfo .. | .readChannel ..
  | .readUnit .. | .readWash .. | .readBath .. | .readDryer .. | .readFinisher .. | .readNotice .. | .readCounters ..
  | .ping .. | .portInfo .. => true
  | _ => false

/-- A reading request changes nothing but its port. -/
theorem takenOf_readsOnly {c : Instr} {s : State} {x : Taken} (hr : readsOnly c = true) (hx : takenOf s c = some x)
    (t : State) : (x.owner t).1 = t := by
  cases c <;> cases hr <;> cases hx
  case readDocket => dsimp only; unfold readDocketReply; split <;> (try split) <;> rfl
  case list => dsimp only; unfold listReply; split <;> (try split) <;> rfl
  case readRecipe => dsimp only; unfold readRecipeReply; split <;> rfl
  case readSetting => dsimp only; unfold readSettingReply; split <;> rfl
  case readLevel => dsimp only; unfold readLevelReply; split <;> rfl
  case readChannel => dsimp only; unfold readChannelReply; split <;> rfl
  case readUnit => dsimp only; unfold readUnitReply; split <;> rfl
  case readNotice => dsimp only; unfold readNoticeReply; split <;> (try split) <;> rfl
  all_goals rfl

/-- What a reading request keeps needs no proof. -/
theorem takenOf_keeps {P : State → Prop} {c : Instr} {s t : State} {x : Taken} (hx : takenOf s c = some x) (h : P t)
    (hw : readsOnly c = false → P (x.owner t).1) : P (x.owner t).1 := by
  cases hread : readsOnly c with
  | true => rw [takenOf_readsOnly hread hx]; exact h
  | false => exact hw hread

end Sys2Proof.Machine
end

section
/-! SUPPORT. What the named operations of single commands and the owning rules leave alone: the clock, the input and permit
lines, the settings, the belt, the bath and the dryer, where the rule does not write them. -/

namespace Sys2Proof.Machine

/-! ## Operations of single commands -/

@[simp] theorem State.registerDocket_frame (s : State) (i : Fin 48) (d : Docket) :
    (s.registerDocket i d).now = s.now ∧ (s.registerDocket i d).micro = s.micro ∧
    (s.registerDocket i d).sstop = s.sstop ∧ (s.registerDocket i d).rateHigh = s.rateHigh ∧
    (s.registerDocket i d).tpm = s.tpm ∧ (s.registerDocket i d).finishPool = s.finishPool ∧
    (s.registerDocket i d).working = s.working ∧ (s.registerDocket i d).store = s.store ∧
    (s.registerDocket i d).channels = s.channels ∧ (s.registerDocket i d).units = s.units ∧
    (s.registerDocket i d).finisher = s.finisher ∧ (s.registerDocket i d).washQueue = s.washQueue ∧
    (s.registerDocket i d).belt = s.belt ∧ (s.registerDocket i d).beltSpeed = s.beltSpeed ∧
    (s.registerDocket i d).bath = s.bath ∧ (s.registerDocket i d).drawers = s.drawers ∧
    (s.registerDocket i d).dryQueue = s.dryQueue ∧ (s.registerDocket i d).pending = s.pending := by
  unfold State.registerDocket; dsimp only; split <;> simp

@[simp] theorem State.markScrap_frame (s : State) (n : Nat) (m : ScrapMark) :
    (s.markScrap n m).now = s.now ∧ (s.markScrap n m).micro = s.micro ∧ (s.markScrap n m).sstop = s.sstop ∧
    (s.markScrap n m).rateHigh = s.rateHigh ∧ (s.markScrap n m).tpm = s.tpm ∧
    (s.markScrap n m).ports = s.ports ∧ (s.markScrap n m).nextNumber = s.nextNumber ∧
    (s.markScrap n m).nextOrder = s.nextOrder ∧ (s.markScrap n m).exposurePool = s.exposurePool ∧
    (s.markScrap n m).finishPool = s.finishPool ∧ (s.markScrap n m).working = s.working ∧
    (s.markScrap n m).store = s.store ∧ (s.markScrap n m).channels = s.channels ∧
    (s.markScrap n m).units = s.units ∧ (s.markScrap n m).finisher = s.finisher ∧
    (s.markScrap n m).washQueue = s.washQueue ∧ (s.markScrap n m).belt = s.belt ∧
    (s.markScrap n m).beltSpeed = s.beltSpeed ∧ (s.markScrap n m).bath = s.bath ∧
    (s.markScrap n m).drawers = s.drawers ∧ (s.markScrap n m).dryQueue = s.dryQueue ∧
    (s.markScrap n m).counters = s.counters ∧ (s.markScrap n m).pending = s.pending := by
  simp [State.markScrap]

@[simp] theorem State.cancelAtUnit_frame (s : State) (u : UnitId) (n : Nat) :
    (s.cancelAtUnit u n).now = s.now ∧ (s.cancelAtUnit u n).micro = s.micro ∧
    (s.cancelAtUnit u n).sstop = s.sstop ∧ (s.cancelAtUnit u n).rateHigh = s.rateHigh ∧
    (s.cancelAtUnit u n).tpm = s.tpm ∧ (s.cancelAtUnit u n).nextNumber = s.nextNumber ∧
    (s.cancelAtUnit u n).nextOrder = s.nextOrder ∧ (s.cancelAtUnit u n).exposurePool = s.exposurePool ∧
    (s.cancelAtUnit u n).finishPool = s.finishPool ∧ (s.cancelAtUnit u n).working = s.working ∧
    (s.cancelAtUnit u n).store = s.store ∧ (s.cancelAtUnit u n).washQueue = s.washQueue ∧
    (s.cancelAtUnit u n).belt = s.belt ∧ (s.cancelAtUnit u n).beltSpeed = s.beltSpeed ∧
    (s.cancelAtUnit u n).bath = s.bath ∧ (s.cancelAtUnit u n).drawers = s.drawers ∧
    (s.cancelAtUnit u n).dryQueue = s.dryQueue ∧ (s.cancelAtUnit u n).pending = s.pending := by
  unfold State.cancelAtUnit; dsimp only; split <;> simp

@[simp] theorem State.cancelAtFinisher_frame (s : State) (n : Nat) :
    (s.cancelAtFinisher n).now = s.now ∧ (s.cancelAtFinisher n).micro = s.micro ∧
    (s.cancelAtFinisher n).sstop = s.sstop ∧ (s.cancelAtFinisher n).rateHigh = s.rateHigh ∧
    (s.cancelAtFinisher n).tpm = s.tpm ∧ (s.cancelAtFinisher n).nextNumber = s.nextNumber ∧
    (s.cancelAtFinisher n).nextOrder = s.nextOrder ∧ (s.cancelAtFinisher n).exposurePool = s.exposurePool ∧
    (s.cancelAtFinisher n).finishPool = s.finishPool ∧ (s.cancelAtFinisher n).working = s.working ∧
    (s.cancelAtFinisher n).store = s.store ∧ (s.cancelAtFinisher n).washQueue = s.washQueue ∧
    (s.cancelAtFinisher n).belt = s.belt ∧ (s.cancelAtFinisher n).beltSpeed = s.beltSpeed ∧
    (s.cancelAtFinisher n).bath = s.bath ∧ (s.cancelAtFinisher n).drawers = s.drawers ∧
    (s.cancelAtFinisher n).dryQueue = s.dryQueue ∧ (s.cancelAtFinisher n).pending = s.pending := by
  unfold State.cancelAtFinisher; dsimp only; split <;> simp

@[simp] theorem State.cancelHolder_frame (s : State) (n : Nat) :
    (s.cancelHolder n).now = s.now ∧ (s.cancelHolder n).micro = s.micro ∧ (s.cancelHolder n).sstop = s.sstop ∧
    (s.cancelHolder n).rateHigh = s.rateHigh ∧ (s.cancelHolder n).tpm = s.tpm ∧
    (s.cancelHolder n).nextNumber = s.nextNumber ∧ (s.cancelHolder n).nextOrder = s.nextOrder ∧
    (s.cancelHolder n).exposurePool = s.exposurePool ∧ (s.cancelHolder n).finishPool = s.finishPool ∧
    (s.cancelHolder n).working = s.working ∧ (s.cancelHolder n).store = s.store ∧
    (s.cancelHolder n).washQueue = s.washQueue ∧ (s.cancelHolder n).belt = s.belt ∧
    (s.cancelHolder n).beltSpeed = s.beltSpeed ∧ (s.cancelHolder n).bath = s.bath ∧
    (s.cancelHolder n).drawers = s.drawers ∧ (s.cancelHolder n).dryQueue = s.dryQueue ∧
    (s.cancelHolder n).pending = s.pending := by
  unfold State.cancelHolder; split
  · simp
  · split
    · simp
    · split <;> simp

@[simp] theorem State.cancelAtDryer_frame (s : State) (n : Nat) (drawer : Option (Fin 8)) :
    (s.cancelAtDryer n drawer).now = s.now ∧ (s.cancelAtDryer n drawer).micro = s.micro ∧
    (s.cancelAtDryer n drawer).sstop = s.sstop ∧ (s.cancelAtDryer n drawer).rateHigh = s.rateHigh ∧
    (s.cancelAtDryer n drawer).tpm = s.tpm ∧ (s.cancelAtDryer n drawer).nextNumber = s.nextNumber ∧
    (s.cancelAtDryer n drawer).nextOrder = s.nextOrder ∧
    (s.cancelAtDryer n drawer).exposurePool = s.exposurePool ∧
    (s.cancelAtDryer n drawer).finishPool = s.finishPool ∧ (s.cancelAtDryer n drawer).working = s.working ∧
    (s.cancelAtDryer n drawer).store = s.store ∧ (s.cancelAtDryer n drawer).channels = s.channels ∧
    (s.cancelAtDryer n drawer).units = s.units ∧ (s.cancelAtDryer n drawer).finisher = s.finisher ∧
    (s.cancelAtDryer n drawer).washQueue = s.washQueue ∧ (s.cancelAtDryer n drawer).belt = s.belt ∧
    (s.cancelAtDryer n drawer).beltSpeed = s.beltSpeed ∧ (s.cancelAtDryer n drawer).bath = s.bath ∧
    (s.cancelAtDryer n drawer).pending = s.pending := by
  unfold State.cancelAtDryer; split
  · split <;> simp
  · simp

@[simp] theorem State.cancelDocket_frame (s : State) (d : Docket) :
    (s.cancelDocket d).now = s.now ∧ (s.cancelDocket d).micro = s.micro ∧ (s.cancelDocket d).sstop = s.sstop ∧
    (s.cancelDocket d).rateHigh = s.rateHigh ∧ (s.cancelDocket d).tpm = s.tpm ∧
    (s.cancelDocket d).nextNumber = s.nextNumber ∧ (s.cancelDocket d).nextOrder = s.nextOrder ∧
    (s.cancelDocket d).working = s.working ∧ (s.cancelDocket d).store = s.store ∧
    (s.cancelDocket d).belt = s.belt ∧ (s.cancelDocket d).beltSpeed = s.beltSpeed ∧
    (s.cancelDocket d).bath = s.bath ∧ (s.cancelDocket d).pending = s.pending := by
  unfold State.cancelDocket; dsimp only; split <;> simp

@[simp] theorem State.setLampRef_frame (s : State) (ch : ChannelId) (v : Nat) :
    ((s.setLampRef ch v).1).now = s.now ∧ ((s.setLampRef ch v).1).micro = s.micro ∧
    ((s.setLampRef ch v).1).sstop = s.sstop ∧ ((s.setLampRef ch v).1).rateHigh = s.rateHigh ∧
    ((s.setLampRef ch v).1).tpm = s.tpm ∧ ((s.setLampRef ch v).1).ports = s.ports ∧
    ((s.setLampRef ch v).1).slots = s.slots ∧ ((s.setLampRef ch v).1).nextNumber = s.nextNumber ∧
    ((s.setLampRef ch v).1).nextOrder = s.nextOrder ∧ ((s.setLampRef ch v).1).exposurePool = s.exposurePool ∧
    ((s.setLampRef ch v).1).finishPool = s.finishPool ∧ ((s.setLampRef ch v).1).store = s.store ∧
    ((s.setLampRef ch v).1).channels = s.channels ∧ ((s.setLampRef ch v).1).units = s.units ∧
    ((s.setLampRef ch v).1).finisher = s.finisher ∧ ((s.setLampRef ch v).1).washQueue = s.washQueue ∧
    ((s.setLampRef ch v).1).belt = s.belt ∧ ((s.setLampRef ch v).1).beltSpeed = s.beltSpeed ∧
    ((s.setLampRef ch v).1).bath = s.bath ∧ ((s.setLampRef ch v).1).drawers = s.drawers ∧
    ((s.setLampRef ch v).1).dryQueue = s.dryQueue ∧ ((s.setLampRef ch v).1).counters = s.counters ∧
    ((s.setLampRef ch v).1).pending = s.pending := by
  simp [State.setLampRef]

@[simp] theorem State.finishRun_frame (s : State) (n : Nat) (c a : Mark) :
    (s.finishRun n c a).now = s.now ∧ (s.finishRun n c a).micro = s.micro ∧
    (s.finishRun n c a).sstop = s.sstop ∧ (s.finishRun n c a).rateHigh = s.rateHigh ∧
    (s.finishRun n c a).tpm = s.tpm ∧ (s.finishRun n c a).nextNumber = s.nextNumber ∧
    (s.finishRun n c a).nextOrder = s.nextOrder ∧ (s.finishRun n c a).exposurePool = s.exposurePool ∧
    (s.finishRun n c a).finishPool = s.finishPool ∧ (s.finishRun n c a).working = s.working ∧
    (s.finishRun n c a).store = s.store ∧ (s.finishRun n c a).channels = s.channels ∧
    (s.finishRun n c a).units = s.units ∧ (s.finishRun n c a).washQueue = s.washQueue ∧
    (s.finishRun n c a).belt = s.belt ∧ (s.finishRun n c a).beltSpeed = s.beltSpeed ∧
    (s.finishRun n c a).bath = s.bath ∧ (s.finishRun n c a).drawers = s.drawers ∧
    (s.finishRun n c a).dryQueue = s.dryQueue ∧ (s.finishRun n c a).pending = s.pending := by
  unfold State.finishRun; split <;> simp

@[simp] theorem State.resumeFinish_frame (s : State) (ch : ChannelId) (m : Mark) (d : Docket) :
    (s.resumeFinish ch m d).now = s.now ∧ (s.resumeFinish ch m d).micro = s.micro ∧
    (s.resumeFinish ch m d).sstop = s.sstop ∧ (s.resumeFinish ch m d).rateHigh = s.rateHigh ∧
    (s.resumeFinish ch m d).tpm = s.tpm ∧ (s.resumeFinish ch m d).ports = s.ports ∧
    (s.resumeFinish ch m d).nextNumber = s.nextNumber ∧ (s.resumeFinish ch m d).nextOrder = s.nextOrder ∧
    (s.resumeFinish ch m d).exposurePool = s.exposurePool ∧ (s.resumeFinish ch m d).finishPool = s.finishPool ∧
    (s.resumeFinish ch m d).working = s.working ∧ (s.resumeFinish ch m d).store = s.store ∧
    (s.resumeFinish ch m d).units = s.units ∧ (s.resumeFinish ch m d).finisher = s.finisher ∧
    (s.resumeFinish ch m d).washQueue = s.washQueue ∧ (s.resumeFinish ch m d).belt = s.belt ∧
    (s.resumeFinish ch m d).beltSpeed = s.beltSpeed ∧ (s.resumeFinish ch m d).bath = s.bath ∧
    (s.resumeFinish ch m d).drawers = s.drawers ∧ (s.resumeFinish ch m d).dryQueue = s.dryQueue ∧
    (s.resumeFinish ch m d).pending = s.pending := by
  unfold State.resumeFinish; split <;> simp

@[simp] theorem State.handOff_frame (s : State) (i : LineItem) :
    (s.handOff i).now = s.now ∧ (s.handOff i).micro = s.micro ∧ (s.handOff i).sstop = s.sstop ∧
    (s.handOff i).rateHigh = s.rateHigh ∧ (s.handOff i).nextNumber = s.nextNumber ∧
    (s.handOff i).nextOrder = s.nextOrder ∧ (s.handOff i).exposurePool = s.exposurePool ∧
    (s.handOff i).finishPool = s.finishPool ∧ (s.handOff i).working = s.working ∧
    (s.handOff i).store = s.store ∧ (s.handOff i).washQueue = s.washQueue ∧ (s.handOff i).belt = s.belt ∧
    (s.handOff i).beltSpeed = s.beltSpeed ∧ (s.handOff i).pending = s.pending := by
  cases i <;> simp [State.handOff]

@[simp] theorem State.handOnRecall_frame (s : State) (old : WorkingCopy) :
    (s.handOnRecall old).now = s.now ∧ (s.handOnRecall old).micro = s.micro ∧
    (s.handOnRecall old).sstop = s.sstop ∧ (s.handOnRecall old).rateHigh = s.rateHigh ∧
    (s.handOnRecall old).nextNumber = s.nextNumber ∧ (s.handOnRecall old).nextOrder = s.nextOrder ∧
    (s.handOnRecall old).exposurePool = s.exposurePool ∧ (s.handOnRecall old).finishPool = s.finishPool ∧
    (s.handOnRecall old).working = s.working ∧ (s.handOnRecall old).store = s.store ∧
    (s.handOnRecall old).washQueue = s.washQueue ∧ (s.handOnRecall old).belt = s.belt ∧
    (s.handOnRecall old).beltSpeed = s.beltSpeed ∧ (s.handOnRecall old).pending = s.pending := by
  unfold State.handOnRecall; dsimp only
  (repeat' split) <;> simp

@[simp] theorem State.unloadDocket_frame (s : State) (n : Nat) (mark : Option ScrapMark) :
    (s.unloadDocket n mark).now = s.now ∧ (s.unloadDocket n mark).micro = s.micro ∧
    (s.unloadDocket n mark).sstop = s.sstop ∧ (s.unloadDocket n mark).rateHigh = s.rateHigh ∧
    (s.unloadDocket n mark).tpm = s.tpm ∧ (s.unloadDocket n mark).ports = s.ports ∧
    (s.unloadDocket n mark).nextNumber = s.nextNumber ∧ (s.unloadDocket n mark).exposurePool = s.exposurePool ∧
    (s.unloadDocket n mark).working = s.working ∧ (s.unloadDocket n mark).store = s.store ∧
    (s.unloadDocket n mark).channels = s.channels ∧ (s.unloadDocket n mark).units = s.units ∧
    (s.unloadDocket n mark).finisher = s.finisher ∧ (s.unloadDocket n mark).washQueue = s.washQueue ∧
    (s.unloadDocket n mark).belt = s.belt ∧ (s.unloadDocket n mark).beltSpeed = s.beltSpeed ∧
    (s.unloadDocket n mark).bath = s.bath ∧ (s.unloadDocket n mark).drawers = s.drawers ∧
    (s.unloadDocket n mark).dryQueue = s.dryQueue ∧ (s.unloadDocket n mark).pending = s.pending := by
  unfold State.unloadDocket; dsimp only; split <;> simp

@[simp] theorem State.vacateDrawer_frame (s : State) (i : Fin 8) :
    (s.vacateDrawer i).now = s.now ∧ (s.vacateDrawer i).micro = s.micro ∧ (s.vacateDrawer i).sstop = s.sstop ∧
    (s.vacateDrawer i).rateHigh = s.rateHigh ∧ (s.vacateDrawer i).tpm = s.tpm ∧
    (s.vacateDrawer i).nextNumber = s.nextNumber ∧ (s.vacateDrawer i).nextOrder = s.nextOrder ∧
    (s.vacateDrawer i).exposurePool = s.exposurePool ∧ (s.vacateDrawer i).finishPool = s.finishPool ∧
    (s.vacateDrawer i).working = s.working ∧ (s.vacateDrawer i).store = s.store ∧
    (s.vacateDrawer i).channels = s.channels ∧ (s.vacateDrawer i).units = s.units ∧
    (s.vacateDrawer i).finisher = s.finisher ∧ (s.vacateDrawer i).washQueue = s.washQueue ∧
    (s.vacateDrawer i).belt = s.belt ∧ (s.vacateDrawer i).beltSpeed = s.beltSpeed ∧
    (s.vacateDrawer i).bath = s.bath ∧ (s.vacateDrawer i).counters = s.counters ∧
    (s.vacateDrawer i).pending = s.pending := by
  unfold State.vacateDrawer; split <;> simp

@[simp] theorem State.passOver_frame (s : State) (ns : List Nat) :
    (s.passOver ns).now = s.now ∧ (s.passOver ns).micro = s.micro ∧ (s.passOver ns).sstop = s.sstop ∧
    (s.passOver ns).rateHigh = s.rateHigh ∧ (s.passOver ns).tpm = s.tpm ∧ (s.passOver ns).ports = s.ports ∧
    (s.passOver ns).nextNumber = s.nextNumber ∧ (s.passOver ns).nextOrder = s.nextOrder ∧
    (s.passOver ns).exposurePool = s.exposurePool ∧ (s.passOver ns).finishPool = s.finishPool ∧
    (s.passOver ns).working = s.working ∧ (s.passOver ns).store = s.store ∧
    (s.passOver ns).channels = s.channels ∧ (s.passOver ns).units = s.units ∧
    (s.passOver ns).finisher = s.finisher ∧ (s.passOver ns).washQueue = s.washQueue ∧
    (s.passOver ns).belt = s.belt ∧ (s.passOver ns).beltSpeed = s.beltSpeed ∧ (s.passOver ns).bath = s.bath ∧
    (s.passOver ns).drawers = s.drawers ∧ (s.passOver ns).dryQueue = s.dryQueue ∧
    (s.passOver ns).pending = s.pending := by
  unfold State.passOver
  refine ⟨?_, ?_, ?_, ?_, ?_, ?_, ?_, ?_, ?_, ?_, ?_, ?_, ?_, ?_, ?_, ?_, ?_, ?_, ?_, ?_, ?_, ?_⟩
  · exact foldl_keeps (fun t : State => t.now) _ (by intro t x; simp) _ _
  · exact foldl_keeps (fun t : State => t.micro) _ (by intro t x; simp) _ _
  · exact foldl_keeps (fun t : State => t.sstop) _ (by intro t x; simp) _ _
  · exact foldl_keeps (fun t : State => t.rateHigh) _ (by intro t x; simp) _ _
  · exact foldl_keeps (fun t : State => t.tpm) _ (by intro t x; simp) _ _
  · exact foldl_keeps (fun t : State => t.ports) _ (by intro t x; simp) _ _
  · exact foldl_keeps (fun t : State => t.nextNumber) _ (by intro t x; simp) _ _
  · exact foldl_keeps (fun t : State => t.nextOrder) _ (by intro t x; simp) _ _
  · exact foldl_keeps (fun t : State => t.exposurePool) _ (by intro t x; simp) _ _
  · exact foldl_keeps (fun t : State => t.finishPool) _ (by intro t x; simp) _ _
  · exact foldl_keeps (fun t : State => t.working) _ (by intro t x; simp) _ _
  · exact foldl_keeps (fun t : State => t.store) _ (by intro t x; simp) _ _
  · exact foldl_keeps (fun t : State => t.channels) _ (by intro t x; simp) _ _
  · exact foldl_keeps (fun t : State => t.units) _ (by intro t x; simp) _ _
  · exact foldl_keeps (fun t : State => t.finisher) _ (by intro t x; simp) _ _
  · exact foldl_keeps (fun t : State => t.washQueue) _ (by intro t x; simp) _ _
  · exact foldl_keeps (fun t : State => t.belt) _ (by intro t x; simp) _ _
  · exact foldl_keeps (fun t : State => t.beltSpeed) _ (by intro t x; simp) _ _
  · exact foldl_keeps (fun t : State => t.bath) _ (by intro t x; simp) _ _
  · exact foldl_keeps (fun t : State => t.drawers) _ (by intro t x; simp) _ _
  · exact foldl_keeps (fun t : State => t.dryQueue) _ (by intro t x; simp) _ _
  · exact foldl_keeps (fun t : State => t.pending) _ (by intro t x; simp) _ _

@[simp] theorem State.offerRefused_frame (s : State) :
    (s.offerRefused).now = s.now ∧ (s.offerRefused).micro = s.micro ∧ (s.offerRefused).sstop = s.sstop ∧
    (s.offerRefused).rateHigh = s.rateHigh ∧ (s.offerRefused).tpm = s.tpm ∧ (s.offerRefused).ports = s.ports ∧
    (s.offerRefused).slots = s.slots ∧ (s.offerRefused).nextNumber = s.nextNumber ∧
    (s.offerRefused).nextOrder = s.nextOrder ∧ (s.offerRefused).exposurePool = s.exposurePool ∧
    (s.offerRefused).finishPool = s.finishPool ∧ (s.offerRefused).working = s.working ∧
    (s.offerRefused).store = s.store ∧ (s.offerRefused).channels = s.channels ∧
    (s.offerRefused).units = s.units ∧ (s.offerRefused).finisher = s.finisher ∧
    (s.offerRefused).washQueue = s.washQueue ∧ (s.offerRefused).belt = s.belt ∧
    (s.offerRefused).beltSpeed = s.beltSpeed ∧ (s.offerRefused).bath = s.bath ∧
    (s.offerRefused).drawers = s.drawers ∧ (s.offerRefused).dryQueue = s.dryQueue ∧
    (s.offerRefused).pending = s.pending := by
  unfold State.offerRefused; split <;> simp

@[simp] theorem State.feedDocket_frame (s : State) (d : Docket) (v : Nat) :
    (s.feedDocket d v).now = s.now ∧ (s.feedDocket d v).micro = s.micro ∧ (s.feedDocket d v).sstop = s.sstop ∧
    (s.feedDocket d v).rateHigh = s.rateHigh ∧ (s.feedDocket d v).tpm = s.tpm ∧
    (s.feedDocket d v).ports = s.ports ∧ (s.feedDocket d v).nextNumber = s.nextNumber ∧
    (s.feedDocket d v).nextOrder = s.nextOrder ∧ (s.feedDocket d v).exposurePool = s.exposurePool ∧
    (s.feedDocket d v).finishPool = s.finishPool ∧ (s.feedDocket d v).working = s.working ∧
    (s.feedDocket d v).store = s.store ∧ (s.feedDocket d v).channels = s.channels ∧
    (s.feedDocket d v).units = s.units ∧ (s.feedDocket d v).finisher = s.finisher ∧
    (s.feedDocket d v).bath = s.bath ∧ (s.feedDocket d v).drawers = s.drawers ∧
    (s.feedDocket d v).dryQueue = s.dryQueue ∧ (s.feedDocket d v).pending = s.pending := by
  simp [State.feedDocket]

@[simp] theorem State.addMass_frame (s : State) (d : Docket) (m : Nat) :
    (s.addMass d m).now = s.now ∧ (s.addMass d m).micro = s.micro ∧ (s.addMass d m).sstop = s.sstop ∧
    (s.addMass d m).rateHigh = s.rateHigh ∧ (s.addMass d m).tpm = s.tpm ∧ (s.addMass d m).slots = s.slots ∧
    (s.addMass d m).nextNumber = s.nextNumber ∧ (s.addMass d m).nextOrder = s.nextOrder ∧
    (s.addMass d m).exposurePool = s.exposurePool ∧ (s.addMass d m).finishPool = s.finishPool ∧
    (s.addMass d m).working = s.working ∧ (s.addMass d m).store = s.store ∧
    (s.addMass d m).channels = s.channels ∧ (s.addMass d m).units = s.units ∧
    (s.addMass d m).finisher = s.finisher ∧ (s.addMass d m).washQueue = s.washQueue ∧
    (s.addMass d m).belt = s.belt ∧ (s.addMass d m).beltSpeed = s.beltSpeed ∧
    (s.addMass d m).drawers = s.drawers ∧ (s.addMass d m).dryQueue = s.dryQueue ∧
    (s.addMass d m).pending = s.pending := by
  simp [State.addMass]

@[simp] theorem State.exitBelt_frame (s : State) (d : Docket) (p : WashPass) :
    (s.exitBelt d p).now = s.now ∧ (s.exitBelt d p).micro = s.micro ∧ (s.exitBelt d p).sstop = s.sstop ∧
    (s.exitBelt d p).rateHigh = s.rateHigh ∧ (s.exitBelt d p).tpm = s.tpm ∧
    (s.exitBelt d p).nextNumber = s.nextNumber ∧ (s.exitBelt d p).nextOrder = s.nextOrder ∧
    (s.exitBelt d p).exposurePool = s.exposurePool ∧ (s.exitBelt d p).finishPool = s.finishPool ∧
    (s.exitBelt d p).working = s.working ∧ (s.exitBelt d p).store = s.store ∧
    (s.exitBelt d p).channels = s.channels ∧ (s.exitBelt d p).units = s.units ∧
    (s.exitBelt d p).finisher = s.finisher ∧ (s.exitBelt d p).washQueue = s.washQueue ∧
    (s.exitBelt d p).drawers = s.drawers ∧ (s.exitBelt d p).dryQueue = s.dryQueue ∧
    (s.exitBelt d p).pending = s.pending := by
  simp [State.exitBelt]

@[simp] theorem State.disposeExit_frame (s : State) (d : Docket) (p : WashPass) :
    (s.disposeExit d p).now = s.now ∧ (s.disposeExit d p).micro = s.micro ∧
    (s.disposeExit d p).sstop = s.sstop ∧ (s.disposeExit d p).rateHigh = s.rateHigh ∧
    (s.disposeExit d p).tpm = s.tpm ∧ (s.disposeExit d p).nextNumber = s.nextNumber ∧
    (s.disposeExit d p).nextOrder = s.nextOrder ∧ (s.disposeExit d p).exposurePool = s.exposurePool ∧
    (s.disposeExit d p).finishPool = s.finishPool ∧ (s.disposeExit d p).working = s.working ∧
    (s.disposeExit d p).store = s.store ∧ (s.disposeExit d p).channels = s.channels ∧
    (s.disposeExit d p).units = s.units ∧ (s.disposeExit d p).finisher = s.finisher ∧
    (s.disposeExit d p).washQueue = s.washQueue ∧ (s.disposeExit d p).belt = s.belt ∧
    (s.disposeExit d p).beltSpeed = s.beltSpeed ∧ (s.disposeExit d p).bath = s.bath ∧
    (s.disposeExit d p).pending = s.pending := by
  unfold State.disposeExit; split
  · simp
  · split <;> simp

/-! ## Owning rules -/

@[simp] theorem registerReply_frame (recipe area coverage pref cls : Nat) (s : State) :
    (registerReply recipe area coverage pref cls s).1.now = s.now ∧
    (registerReply recipe area coverage pref cls s).1.micro = s.micro ∧
    (registerReply recipe area coverage pref cls s).1.sstop = s.sstop ∧
    (registerReply recipe area coverage pref cls s).1.tpm = s.tpm ∧
    (registerReply recipe area coverage pref cls s).1.working = s.working ∧
    (registerReply recipe area coverage pref cls s).1.store = s.store ∧
    (registerReply recipe area coverage pref cls s).1.belt = s.belt ∧
    (registerReply recipe area coverage pref cls s).1.beltSpeed = s.beltSpeed ∧
    (registerReply recipe area coverage pref cls s).1.bath = s.bath ∧
    (registerReply recipe area coverage pref cls s).1.drawers = s.drawers ∧
    (registerReply recipe area coverage pref cls s).1.dryQueue = s.dryQueue := by
  unfold registerReply
  split
  · split
    · split
      · simp [refuse]
      split
      · simp [refuse]
      · split <;> simp [refuse]
    · simp [refuse]
  · simp [refuse]

@[simp] theorem cancelReply_frame (n : Nat) (s : State) :
    (cancelReply n s).1.now = s.now ∧ (cancelReply n s).1.micro = s.micro ∧ (cancelReply n s).1.sstop = s.sstop ∧
    (cancelReply n s).1.tpm = s.tpm ∧ (cancelReply n s).1.working = s.working ∧ (cancelReply n s).1.store = s.store ∧
    (cancelReply n s).1.belt = s.belt ∧ (cancelReply n s).1.beltSpeed = s.beltSpeed ∧
    (cancelReply n s).1.bath = s.bath := by
  unfold cancelReply; split
  · simp [refuse]
  · split <;> simp [refuse]

@[simp] theorem releaseReply_frame (n form : Nat) (s : State) :
    (releaseReply n form s).1.now = s.now ∧ (releaseReply n form s).1.micro = s.micro ∧
    (releaseReply n form s).1.sstop = s.sstop ∧ (releaseReply n form s).1.tpm = s.tpm ∧
    (releaseReply n form s).1.working = s.working ∧ (releaseReply n form s).1.store = s.store ∧
    (releaseReply n form s).1.belt = s.belt ∧ (releaseReply n form s).1.beltSpeed = s.beltSpeed ∧
    (releaseReply n form s).1.bath = s.bath := by
  unfold releaseReply
  split
  · simp [refuse]
  · split
    · simp [refuse]
    · (repeat' split) <;> simp [refuse]

@[simp] theorem retireReply_frame (n : Nat) (s : State) :
    (retireReply n s).1.now = s.now ∧ (retireReply n s).1.micro = s.micro ∧ (retireReply n s).1.sstop = s.sstop ∧
    (retireReply n s).1.tpm = s.tpm ∧ (retireReply n s).1.working = s.working ∧ (retireReply n s).1.store = s.store ∧
    (retireReply n s).1.belt = s.belt ∧ (retireReply n s).1.beltSpeed = s.beltSpeed ∧
    (retireReply n s).1.bath = s.bath ∧ (retireReply n s).1.drawers = s.drawers ∧
    (retireReply n s).1.dryQueue = s.dryQueue := by
  unfold retireReply; split
  · simp [refuse]
  · split <;> simp [refuse]

@[simp] theorem lineClearReply_frame (s : State) :
    (lineClearReply s).1.now = s.now ∧ (lineClearReply s).1.micro = s.micro ∧ (lineClearReply s).1.sstop = s.sstop ∧
    (lineClearReply s).1.tpm = s.tpm ∧ (lineClearReply s).1.working = s.working ∧
    (lineClearReply s).1.store = s.store ∧ (lineClearReply s).1.bath = s.bath := by
  simp [lineClearReply, State.lineClear]

@[simp] theorem setRecipeReply_frame (index valid : Nat) (name : List Byte) (x : Snapshot) (s : State) :
    (setRecipeReply index valid name x s).1.now = s.now ∧ (setRecipeReply index valid name x s).1.micro = s.micro ∧
    (setRecipeReply index valid name x s).1.sstop = s.sstop ∧ (setRecipeReply index valid name x s).1.tpm = s.tpm ∧
    (setRecipeReply index valid name x s).1.store = s.store ∧
    (setRecipeReply index valid name x s).1.belt = s.belt ∧
    (setRecipeReply index valid name x s).1.beltSpeed = s.beltSpeed ∧
    (setRecipeReply index valid name x s).1.bath = s.bath ∧
    (setRecipeReply index valid name x s).1.drawers = s.drawers ∧
    (setRecipeReply index valid name x s).1.dryQueue = s.dryQueue := by
  unfold setRecipeReply; (repeat' split) <;> simp [refuse]

@[simp] theorem setSettingReply_frame (item channel value : Nat) (s : State) :
    (setSettingReply item channel value s).1.now = s.now ∧
    (setSettingReply item channel value s).1.micro = s.micro ∧
    (setSettingReply item channel value s).1.sstop = s.sstop ∧
    (setSettingReply item channel value s).1.store = s.store ∧
    (setSettingReply item channel value s).1.belt = s.belt ∧
    (setSettingReply item channel value s).1.beltSpeed = s.beltSpeed := by
  unfold setSettingReply; split
  · split <;> simp [refuse, State.setLineItem]
  · split <;> simp [refuse, State.setChanItem]
  · simp [refuse]

@[simp] theorem setLevelReply_frame (kind level : Nat) (s : State) :
    (setLevelReply kind level s).1.now = s.now ∧ (setLevelReply kind level s).1.micro = s.micro ∧
    (setLevelReply kind level s).1.sstop = s.sstop ∧ (setLevelReply kind level s).1.tpm = s.tpm ∧
    (setLevelReply kind level s).1.store = s.store ∧ (setLevelReply kind level s).1.belt = s.belt ∧
    (setLevelReply kind level s).1.beltSpeed = s.beltSpeed ∧ (setLevelReply kind level s).1.bath = s.bath ∧
    (setLevelReply kind level s).1.drawers = s.drawers ∧ (setLevelReply kind level s).1.dryQueue = s.dryQueue := by
  unfold setLevelReply; split
  · simp [refuse]
  · split <;> simp [refuse]

@[simp] theorem storeReply_frame (skey : Bool) (s : State) :
    (storeReply skey s).1.now = s.now ∧ (storeReply skey s).1.micro = s.micro ∧
    (storeReply skey s).1.sstop = s.sstop ∧ (storeReply skey s).1.tpm = s.tpm ∧
    (storeReply skey s).1.working = s.working ∧ (storeReply skey s).1.belt = s.belt ∧
    (storeReply skey s).1.beltSpeed = s.beltSpeed ∧ (storeReply skey s).1.bath = s.bath ∧
    (storeReply skey s).1.drawers = s.drawers ∧ (storeReply skey s).1.dryQueue = s.dryQueue := by
  unfold storeReply; (repeat' split) <;> simp [refuse]

@[simp] theorem recallReply_frame (s : State) :
    (recallReply s).1.now = s.now ∧ (recallReply s).1.micro = s.micro ∧ (recallReply s).1.sstop = s.sstop ∧
    (recallReply s).1.belt = s.belt ∧ (recallReply s).1.beltSpeed = s.beltSpeed := by
  unfold recallReply; split
  · simp [refuse]
  · split <;> simp

@[simp] theorem clearChannelReply_frame (p : Port) (code : Nat) (s : State) :
    (clearChannelReply p code s).1.now = s.now ∧ (clearChannelReply p code s).1.micro = s.micro ∧
    (clearChannelReply p code s).1.sstop = s.sstop ∧ (clearChannelReply p code s).1.tpm = s.tpm ∧
    (clearChannelReply p code s).1.working = s.working ∧ (clearChannelReply p code s).1.store = s.store ∧
    (clearChannelReply p code s).1.belt = s.belt ∧ (clearChannelReply p code s).1.beltSpeed = s.beltSpeed ∧
    (clearChannelReply p code s).1.bath = s.bath ∧ (clearChannelReply p code s).1.drawers = s.drawers ∧
    (clearChannelReply p code s).1.dryQueue = s.dryQueue := by
  unfold clearChannelReply; split
  · simp [refuse]
  · (repeat' split) <;> simp [refuse]

@[simp] theorem lampRefReply_frame (p : Port) (code form value : Nat) (s : State) :
    (lampRefReply p code form value s).1.now = s.now ∧ (lampRefReply p code form value s).1.micro = s.micro ∧
    (lampRefReply p code form value s).1.sstop = s.sstop ∧ (lampRefReply p code form value s).1.tpm = s.tpm ∧
    (lampRefReply p code form value s).1.store = s.store ∧ (lampRefReply p code form value s).1.belt = s.belt ∧
    (lampRefReply p code form value s).1.beltSpeed = s.beltSpeed ∧
    (lampRefReply p code form value s).1.bath = s.bath ∧ (lampRefReply p code form value s).1.drawers = s.drawers ∧
    (lampRefReply p code form value s).1.dryQueue = s.dryQueue := by
  unfold lampRefReply; split
  · simp [refuse]
  · split
    · simp [refuse]
    split
    · simp [refuse]
    split
    · simp [refuse]
    split
    · simp
    · split <;> simp [refuse]

@[simp] theorem claimReply_frame (n : Nat) (u : UnitId) (s : State) :
    (claimReply n u s).1.now = s.now ∧ (claimReply n u s).1.micro = s.micro ∧ (claimReply n u s).1.sstop = s.sstop ∧
    (claimReply n u s).1.tpm = s.tpm ∧ (claimReply n u s).1.working = s.working ∧
    (claimReply n u s).1.store = s.store ∧ (claimReply n u s).1.belt = s.belt ∧
    (claimReply n u s).1.beltSpeed = s.beltSpeed ∧ (claimReply n u s).1.bath = s.bath ∧
    (claimReply n u s).1.drawers = s.drawers ∧ (claimReply n u s).1.dryQueue = s.dryQueue := by
  unfold claimReply; split
  · simp [refuse]
  · split
    · simp [refuse]
    · (repeat' split) <;> simp [refuse]

@[simp] theorem startStageReply_frame (st : Stage) (n : Nat) (u : UnitId) (s : State) :
    (startStageReply st n u s).1.now = s.now ∧ (startStageReply st n u s).1.micro = s.micro ∧
    (startStageReply st n u s).1.sstop = s.sstop ∧ (startStageReply st n u s).1.tpm = s.tpm ∧
    (startStageReply st n u s).1.working = s.working ∧ (startStageReply st n u s).1.store = s.store ∧
    (startStageReply st n u s).1.belt = s.belt ∧ (startStageReply st n u s).1.beltSpeed = s.beltSpeed ∧
    (startStageReply st n u s).1.bath = s.bath ∧ (startStageReply st n u s).1.drawers = s.drawers ∧
    (startStageReply st n u s).1.dryQueue = s.dryQueue := by
  unfold startStageReply; split
  · simp [refuse]
  · split
    · simp [refuse]
    · split
      · simp [refuse]
      · split
        · simp [refuse]
        · dsimp only; split <;> simp

@[simp] theorem unitStopReply_frame (n : Nat) (u : UnitId) (s : State) :
    (unitStopReply n u s).1.now = s.now ∧ (unitStopReply n u s).1.micro = s.micro ∧
    (unitStopReply n u s).1.sstop = s.sstop ∧ (unitStopReply n u s).1.tpm = s.tpm ∧
    (unitStopReply n u s).1.working = s.working ∧ (unitStopReply n u s).1.store = s.store ∧
    (unitStopReply n u s).1.belt = s.belt ∧ (unitStopReply n u s).1.beltSpeed = s.beltSpeed ∧
    (unitStopReply n u s).1.bath = s.bath ∧ (unitStopReply n u s).1.drawers = s.drawers ∧
    (unitStopReply n u s).1.dryQueue = s.dryQueue := by
  unfold unitStopReply; split
  · simp [refuse]
  · split
    · simp [refuse]
    · split <;> simp [refuse]

@[simp] theorem unitResumeReply_frame (n : Nat) (u : UnitId) (s : State) :
    (unitResumeReply n u s).1.now = s.now ∧ (unitResumeReply n u s).1.micro = s.micro ∧
    (unitResumeReply n u s).1.sstop = s.sstop ∧ (unitResumeReply n u s).1.tpm = s.tpm ∧
    (unitResumeReply n u s).1.working = s.working ∧ (unitResumeReply n u s).1.store = s.store ∧
    (unitResumeReply n u s).1.belt = s.belt ∧ (unitResumeReply n u s).1.beltSpeed = s.beltSpeed ∧
    (unitResumeReply n u s).1.bath = s.bath ∧ (unitResumeReply n u s).1.drawers = s.drawers ∧
    (unitResumeReply n u s).1.dryQueue = s.dryQueue := by
  unfold unitResumeReply; split
  · simp [refuse]
  · split
    · simp [refuse]
    · split
      · dsimp only; split
        · simp [refuse]
        · split <;> simp
      · simp [refuse]

@[simp] theorem unitReturnReply_frame (n : Nat) (u : UnitId) (s : State) :
    (unitReturnReply n u s).1.now = s.now ∧ (unitReturnReply n u s).1.micro = s.micro ∧
    (unitReturnReply n u s).1.sstop = s.sstop ∧ (unitReturnReply n u s).1.tpm = s.tpm ∧
    (unitReturnReply n u s).1.working = s.working ∧ (unitReturnReply n u s).1.store = s.store ∧
    (unitReturnReply n u s).1.belt = s.belt ∧ (unitReturnReply n u s).1.beltSpeed = s.beltSpeed ∧
    (unitReturnReply n u s).1.bath = s.bath ∧ (unitReturnReply n u s).1.drawers = s.drawers ∧
    (unitReturnReply n u s).1.dryQueue = s.dryQueue := by
  unfold unitReturnReply; split
  · simp [refuse]
  · (repeat' split) <;> simp [refuse]

@[simp] theorem feedReply_frame (s : State) :
    (feedReply s).1.now = s.now ∧ (feedReply s).1.micro = s.micro ∧ (feedReply s).1.sstop = s.sstop ∧
    (feedReply s).1.tpm = s.tpm ∧ (feedReply s).1.working = s.working ∧ (feedReply s).1.store = s.store ∧
    (feedReply s).1.bath = s.bath ∧ (feedReply s).1.drawers = s.drawers ∧ (feedReply s).1.dryQueue = s.dryQueue := by
  unfold feedReply; split
  · simp [refuse]
  · split
    · simp [refuse]
    split
    · simp [refuse]
    split
    · simp [refuse]
    · split
      · simp [refuse]
      · split <;> simp [refuse]

@[simp] theorem exitReply_frame (n : Nat) (s : State) :
    (exitReply n s).1.now = s.now ∧ (exitReply n s).1.micro = s.micro ∧ (exitReply n s).1.sstop = s.sstop ∧
    (exitReply n s).1.tpm = s.tpm ∧ (exitReply n s).1.working = s.working ∧ (exitReply n s).1.store = s.store := by
  unfold exitReply; split
  · simp [refuse]
  · split
    · simp [refuse]
    · split
      · simp [refuse]
      · split <;> simp [refuse]

@[simp] theorem reportBathReply_frame (load volume : Nat) (s : State) :
    (reportBathReply load volume s).1.now = s.now ∧ (reportBathReply load volume s).1.micro = s.micro ∧
    (reportBathReply load volume s).1.sstop = s.sstop ∧ (reportBathReply load volume s).1.tpm = s.tpm ∧
    (reportBathReply load volume s).1.working = s.working ∧ (reportBathReply load volume s).1.store = s.store ∧
    (reportBathReply load volume s).1.belt = s.belt ∧ (reportBathReply load volume s).1.beltSpeed = s.beltSpeed ∧
    (reportBathReply load volume s).1.drawers = s.drawers ∧
    (reportBathReply load volume s).1.dryQueue = s.dryQueue := by
  simp [reportBathReply]

@[simp] theorem replenishReply_frame (drained added : Nat) (s : State) :
    (replenishReply drained added s).1.now = s.now ∧ (replenishReply drained added s).1.micro = s.micro ∧
    (replenishReply drained added s).1.sstop = s.sstop ∧ (replenishReply drained added s).1.tpm = s.tpm ∧
    (replenishReply drained added s).1.working = s.working ∧ (replenishReply drained added s).1.store = s.store ∧
    (replenishReply drained added s).1.belt = s.belt ∧ (replenishReply drained added s).1.beltSpeed = s.beltSpeed ∧
    (replenishReply drained added s).1.drawers = s.drawers ∧
    (replenishReply drained added s).1.dryQueue = s.dryQueue := by
  unfold replenishReply; split <;> simp [refuse]

@[simp] theorem drawerLoadedReply_frame (d n : Nat) (s : State) :
    (drawerLoadedReply d n s).1.now = s.now ∧ (drawerLoadedReply d n s).1.micro = s.micro ∧
    (drawerLoadedReply d n s).1.sstop = s.sstop ∧ (drawerLoadedReply d n s).1.tpm = s.tpm ∧
    (drawerLoadedReply d n s).1.working = s.working ∧ (drawerLoadedReply d n s).1.store = s.store ∧
    (drawerLoadedReply d n s).1.belt = s.belt ∧ (drawerLoadedReply d n s).1.beltSpeed = s.beltSpeed ∧
    (drawerLoadedReply d n s).1.bath = s.bath ∧ (drawerLoadedReply d n s).1.dryQueue = s.dryQueue := by
  unfold drawerLoadedReply; split
  · simp [refuse]
  · split
    · simp [refuse]
    · split
      · split <;> simp [refuse]
      · simp [refuse]

@[simp] theorem unloadReply_frame (i : Fin 8) (n discarded : Nat) (short : Bool) (s : State) :
    (unloadReply i n discarded short s).1.now = s.now ∧ (unloadReply i n discarded short s).1.micro = s.micro ∧
    (unloadReply i n discarded short s).1.sstop = s.sstop ∧ (unloadReply i n discarded short s).1.tpm = s.tpm ∧
    (unloadReply i n discarded short s).1.working = s.working ∧
    (unloadReply i n discarded short s).1.store = s.store ∧ (unloadReply i n discarded short s).1.belt = s.belt ∧
    (unloadReply i n discarded short s).1.beltSpeed = s.beltSpeed ∧
    (unloadReply i n discarded short s).1.bath = s.bath := by
  simp [unloadReply]

@[simp] theorem drawerUnloadedReply_frame (d force : Nat) (s : State) :
    (drawerUnloadedReply d force s).1.now = s.now ∧ (drawerUnloadedReply d force s).1.micro = s.micro ∧
    (drawerUnloadedReply d force s).1.sstop = s.sstop ∧ (drawerUnloadedReply d force s).1.tpm = s.tpm ∧
    (drawerUnloadedReply d force s).1.working = s.working ∧ (drawerUnloadedReply d force s).1.store = s.store ∧
    (drawerUnloadedReply d force s).1.belt = s.belt ∧ (drawerUnloadedReply d force s).1.beltSpeed = s.beltSpeed ∧
    (drawerUnloadedReply d force s).1.bath = s.bath := by
  unfold drawerUnloadedReply; split
  · simp [refuse]
  · split
    · simp [refuse]
    · split
      · simp
      · split <;> simp [refuse]
      · simp [refuse]

@[simp] theorem drawerServiceReply_frame (d dir : Nat) (s : State) :
    (drawerServiceReply d dir s).1.now = s.now ∧ (drawerServiceReply d dir s).1.micro = s.micro ∧
    (drawerServiceReply d dir s).1.sstop = s.sstop ∧ (drawerServiceReply d dir s).1.tpm = s.tpm ∧
    (drawerServiceReply d dir s).1.working = s.working ∧ (drawerServiceReply d dir s).1.store = s.store ∧
    (drawerServiceReply d dir s).1.belt = s.belt ∧ (drawerServiceReply d dir s).1.beltSpeed = s.beltSpeed ∧
    (drawerServiceReply d dir s).1.bath = s.bath := by
  unfold drawerServiceReply; split
  · simp [refuse]
  · (repeat' split) <;> simp [refuse]

@[simp] theorem claimFinishReply_frame (n : Nat) (s : State) :
    (claimFinishReply n s).1.now = s.now ∧ (claimFinishReply n s).1.micro = s.micro ∧
    (claimFinishReply n s).1.sstop = s.sstop ∧ (claimFinishReply n s).1.tpm = s.tpm ∧
    (claimFinishReply n s).1.working = s.working ∧ (claimFinishReply n s).1.store = s.store ∧
    (claimFinishReply n s).1.belt = s.belt ∧ (claimFinishReply n s).1.beltSpeed = s.beltSpeed ∧
    (claimFinishReply n s).1.bath = s.bath ∧ (claimFinishReply n s).1.drawers = s.drawers ∧
    (claimFinishReply n s).1.dryQueue = s.dryQueue := by
  unfold claimFinishReply; split
  · simp [refuse]
  · split
    · simp [refuse]
    · split <;> simp [refuse]

@[simp] theorem startFinishReply_frame (n : Nat) (s : State) :
    (startFinishReply n s).1.now = s.now ∧ (startFinishReply n s).1.micro = s.micro ∧
    (startFinishReply n s).1.sstop = s.sstop ∧ (startFinishReply n s).1.tpm = s.tpm ∧
    (startFinishReply n s).1.working = s.working ∧ (startFinishReply n s).1.store = s.store ∧
    (startFinishReply n s).1.belt = s.belt ∧ (startFinishReply n s).1.beltSpeed = s.beltSpeed ∧
    (startFinishReply n s).1.bath = s.bath ∧ (startFinishReply n s).1.drawers = s.drawers ∧
    (startFinishReply n s).1.dryQueue = s.dryQueue := by
  unfold startFinishReply; split
  · simp [refuse]
  · split
    · simp [refuse]
    split
    · simp [refuse]
    · split <;> simp [refuse]

@[simp] theorem finisherStopReply_frame (n : Nat) (s : State) :
    (finisherStopReply n s).1.now = s.now ∧ (finisherStopReply n s).1.micro = s.micro ∧
    (finisherStopReply n s).1.sstop = s.sstop ∧ (finisherStopReply n s).1.tpm = s.tpm ∧
    (finisherStopReply n s).1.working = s.working ∧ (finisherStopReply n s).1.store = s.store ∧
    (finisherStopReply n s).1.belt = s.belt ∧ (finisherStopReply n s).1.beltSpeed = s.beltSpeed ∧
    (finisherStopReply n s).1.bath = s.bath ∧ (finisherStopReply n s).1.drawers = s.drawers ∧
    (finisherStopReply n s).1.dryQueue = s.dryQueue := by
  unfold finisherStopReply; split
  · simp [refuse]
  · split
    · simp [refuse]
    · split <;> simp [refuse]

@[simp] theorem finisherResumeReply_frame (n : Nat) (s : State) :
    (finisherResumeReply n s).1.now = s.now ∧ (finisherResumeReply n s).1.micro = s.micro ∧
    (finisherResumeReply n s).1.sstop = s.sstop ∧ (finisherResumeReply n s).1.tpm = s.tpm ∧
    (finisherResumeReply n s).1.working = s.working ∧ (finisherResumeReply n s).1.store = s.store ∧
    (finisherResumeReply n s).1.belt = s.belt ∧ (finisherResumeReply n s).1.beltSpeed = s.beltSpeed ∧
    (finisherResumeReply n s).1.bath = s.bath ∧ (finisherResumeReply n s).1.drawers = s.drawers ∧
    (finisherResumeReply n s).1.dryQueue = s.dryQueue := by
  unfold finisherResumeReply; split
  · simp [refuse]
  · split
    · simp [refuse]
    · split
      · split <;> simp [refuse]
      · simp [refuse]

@[simp] theorem finisherReturnReply_frame (n : Nat) (s : State) :
    (finisherReturnReply n s).1.now = s.now ∧ (finisherReturnReply n s).1.micro = s.micro ∧
    (finisherReturnReply n s).1.sstop = s.sstop ∧ (finisherReturnReply n s).1.tpm = s.tpm ∧
    (finisherReturnReply n s).1.working = s.working ∧ (finisherReturnReply n s).1.store = s.store ∧
    (finisherReturnReply n s).1.belt = s.belt ∧ (finisherReturnReply n s).1.beltSpeed = s.beltSpeed ∧
    (finisherReturnReply n s).1.bath = s.bath ∧ (finisherReturnReply n s).1.drawers = s.drawers ∧
    (finisherReturnReply n s).1.dryQueue = s.dryQueue := by
  unfold finisherReturnReply; split
  · simp [refuse]
  · (repeat' split) <;> simp [refuse]

@[simp] theorem statusReply_frame (p : Port) (prior : PortState) (s : State) :
    (statusReply p prior s).1.now = s.now ∧ (statusReply p prior s).1.micro = s.micro ∧
    (statusReply p prior s).1.sstop = s.sstop ∧ (statusReply p prior s).1.tpm = s.tpm ∧
    (statusReply p prior s).1.working = s.working ∧ (statusReply p prior s).1.store = s.store ∧
    (statusReply p prior s).1.belt = s.belt ∧ (statusReply p prior s).1.beltSpeed = s.beltSpeed ∧
    (statusReply p prior s).1.bath = s.bath ∧ (statusReply p prior s).1.drawers = s.drawers ∧
    (statusReply p prior s).1.dryQueue = s.dryQueue := by
  simp [statusReply]

@[simp] theorem ackReply_frame (p : Port) (s : State) :
    (ackReply p s).1.now = s.now ∧ (ackReply p s).1.micro = s.micro ∧ (ackReply p s).1.sstop = s.sstop ∧
    (ackReply p s).1.tpm = s.tpm ∧ (ackReply p s).1.working = s.working ∧ (ackReply p s).1.store = s.store ∧
    (ackReply p s).1.belt = s.belt ∧ (ackReply p s).1.beltSpeed = s.beltSpeed ∧ (ackReply p s).1.bath = s.bath ∧
    (ackReply p s).1.drawers = s.drawers ∧ (ackReply p s).1.dryQueue = s.dryQueue := by
  unfold ackReply; dsimp only; split <;> simp

@[simp] theorem setThresholdReply_frame (p : Port) (v : Nat) (s : State) :
    (setThresholdReply p v s).1.now = s.now ∧ (setThresholdReply p v s).1.micro = s.micro ∧
    (setThresholdReply p v s).1.sstop = s.sstop ∧ (setThresholdReply p v s).1.tpm = s.tpm ∧
    (setThresholdReply p v s).1.working = s.working ∧ (setThresholdReply p v s).1.store = s.store ∧
    (setThresholdReply p v s).1.belt = s.belt ∧ (setThresholdReply p v s).1.beltSpeed = s.beltSpeed ∧
    (setThresholdReply p v s).1.bath = s.bath ∧ (setThresholdReply p v s).1.drawers = s.drawers ∧
    (setThresholdReply p v s).1.dryQueue = s.dryQueue := by
  simp [setThresholdReply]

@[simp] theorem setCounterReply_frame (k event recipe cls unit : Nat) (s : State) :
    (setCounterReply k event recipe cls unit s).1.now = s.now ∧
    (setCounterReply k event recipe cls unit s).1.micro = s.micro ∧
    (setCounterReply k event recipe cls unit s).1.sstop = s.sstop ∧
    (setCounterReply k event recipe cls unit s).1.tpm = s.tpm ∧
    (setCounterReply k event recipe cls unit s).1.working = s.working ∧
    (setCounterReply k event recipe cls unit s).1.store = s.store ∧
    (setCounterReply k event recipe cls unit s).1.belt = s.belt ∧
    (setCounterReply k event recipe cls unit s).1.beltSpeed = s.beltSpeed ∧
    (setCounterReply k event recipe cls unit s).1.bath = s.bath ∧
    (setCounterReply k event recipe cls unit s).1.drawers = s.drawers ∧
    (setCounterReply k event recipe cls unit s).1.dryQueue = s.dryQueue := by
  unfold setCounterReply; split
  · split <;> simp [refuse]
  · simp [refuse]

@[simp] theorem clearCountersReply_frame (s : State) :
    (clearCountersReply s).1.now = s.now ∧ (clearCountersReply s).1.micro = s.micro ∧
    (clearCountersReply s).1.sstop = s.sstop ∧ (clearCountersReply s).1.tpm = s.tpm ∧
    (clearCountersReply s).1.working = s.working ∧ (clearCountersReply s).1.store = s.store ∧
    (clearCountersReply s).1.belt = s.belt ∧ (clearCountersReply s).1.beltSpeed = s.beltSpeed ∧
    (clearCountersReply s).1.bath = s.bath ∧ (clearCountersReply s).1.drawers = s.drawers ∧
    (clearCountersReply s).1.dryQueue = s.dryQueue := by
  simp [clearCountersReply]

end Sys2Proof.Machine
end

section
/-! SUPPORT. What the events leave of the settings, the belt, the bath and the dryer. -/

namespace Sys2Proof.Machine

@[simp] theorem State.idlePulse_frame (s : State) (c : ChannelId) :
    (s.idlePulse c).now = s.now ∧ (s.idlePulse c).micro = s.micro ∧ (s.idlePulse c).sstop = s.sstop ∧
    (s.idlePulse c).tpm = s.tpm ∧ (s.idlePulse c).slots = s.slots ∧ (s.idlePulse c).working = s.working ∧
    (s.idlePulse c).store = s.store ∧ (s.idlePulse c).units = s.units ∧ (s.idlePulse c).finisher = s.finisher ∧
    (s.idlePulse c).belt = s.belt ∧ (s.idlePulse c).beltSpeed = s.beltSpeed ∧ (s.idlePulse c).bath = s.bath ∧
    (s.idlePulse c).drawers = s.drawers ∧ (s.idlePulse c).dryQueue = s.dryQueue := by
  unfold State.idlePulse; dsimp only; split <;> simp

/-! ## What each timed event does -/

/-- GRACE_END (R56): nothing, or line time comes to the end of grace and grace ends. -/
theorem exec_graceEnd_cases (ch : ChannelId) (s : State) :
    (¬((s.chan ch).state = .exposing ∧ (s.chan ch).inGrace = true) ∧ exec (.graceEnd ch) s = .next s) ∨
    ∃ v, (s.chan ch).state = .exposing ∧ (s.chan ch).inGrace = true ∧
      v = s.pass (remainingMs (s.chan ch).startedAt (s.chan ch).settings.grace s.now) ∧
      exec (.graceEnd ch) s = .next (v.setChan ch ((v.chan ch).endGrace v.now v.microNow)) := by
  have he : exec (.graceEnd ch) s = execGraceEnd ch s := rfl
  rw [he]
  unfold execGraceEnd
  by_cases h : (s.chan ch).state = .exposing ∧ (s.chan ch).inGrace = true
  · exact .inr ⟨_, h.1, h.2, rfl, congrArg Host.Outcome.next (if_pos h)⟩
  · exact .inl ⟨h, congrArg Host.Outcome.next (if_neg h)⟩

/-- WINDOW_END (R57, R58): nothing, or line time comes to the window's end, the next window opens, and a lamp that is aged now
is flagged and told. -/
theorem exec_windowEnd_cases (ch : ChannelId) (s : State) :
    exec (.windowEnd ch) s = .next s ∨
    ∃ v w c, (s.chan ch).state = .exposing ∧ (s.chan ch).window = some w ∧
      v = s.pass (remainingMs w.openedAt Config.windowMs s.now) ∧ c = (v.chan ch).closeWindow w.pulses v.now ∧
      ((∃ r, c.agedNow = true ∧ c.run = some r ∧ exec (.windowEnd ch) s = .next
          ((((v.setChan ch { c with agedRaised := true }).updateRunDocket r fun d => { d with agedSeen := true }).raise
            (channelPort ch) .lampAged (some r.number)).raise .E .lampAged (some r.number))) ∨
        ((c.agedNow = false ∨ c.run = none) ∧ exec (.windowEnd ch) s = .next (v.setChan ch c))) := by
  have he : exec (.windowEnd ch) s = execWindowEnd ch s := rfl
  rw [he]
  unfold execWindowEnd
  split
  · rename_i w hs hw
    refine .inr ⟨_, w, _, hs, hw, rfl, rfl, ?_⟩
    obtain ⟨v, hv⟩ : ∃ v, v = s.pass (remainingMs w.openedAt Config.windowMs s.now) := ⟨_, rfl⟩
    simp only [State.passTo, ← hv]
    split
    · rename_i r h1 h2; exact .inl ⟨r, h1, h2, rfl⟩
    · rename_i hno
      refine .inr ⟨?_, rfl⟩
      cases h1 : ((v.chan ch).closeWindow w.pulses v.now).agedNow with
      | false => exact .inl rfl
      | true =>
        cases h2 : ((v.chan ch).closeWindow w.pulses v.now).run with
        | none => exact .inr rfl
        | some r => exact absurd h2 (hno r h1)
  · exact .inl rfl

/-- DIM_WATCH_EXPIRY (R59): nothing, or line time comes to the expiry, the watch waits for the next pulse, and the first of a
run is flagged and told. -/
theorem exec_dimWatchExpiry_cases (ch : ChannelId) (s : State) :
    exec (.dimWatchExpiry ch) s = .next s ∨
    ∃ v f c, (s.chan ch).state = .exposing ∧ (s.chan ch).dimFrom = some f ∧
      v = s.passMicros (remainingMicros f (s.chan ch).settings.dimInterval s.microNow) ∧
      c = { v.chan ch with dimFrom := none } ∧
      ((∃ r, c.dimRaised = false ∧ c.run = some r ∧ exec (.dimWatchExpiry ch) s = .next
          (((v.setChan ch { c with dimRaised := true }).updateRunDocket r fun d => { d with dimSeen := true }).raise
            (channelPort ch) .lampDim (some r.number))) ∨
        ((c.dimRaised = true ∨ c.run = none) ∧ exec (.dimWatchExpiry ch) s = .next (v.setChan ch c))) := by
  have he : exec (.dimWatchExpiry ch) s = execDimWatchExpiry ch s := rfl
  rw [he]
  unfold execDimWatchExpiry
  split
  · rename_i f hs hf
    refine .inr ⟨_, f, _, hs, hf, rfl, rfl, ?_⟩
    obtain ⟨v, hv⟩ : ∃ v, v = s.passMicros (remainingMicros f (s.chan ch).settings.dimInterval s.microNow) := ⟨_, rfl⟩
    simp only [← hv]
    split
    · rename_i r h1 h2; exact .inl ⟨r, h1, h2, rfl⟩
    · rename_i hno
      refine .inr ⟨?_, rfl⟩
      cases h1 : (v.chan ch).dimRaised with
      | true => exact .inl rfl
      | false =>
        cases h2 : (v.chan ch).run with
        | none => exact .inr rfl
        | some r => exact absurd h2 (hno r h1)
  · exact .inl rfl

/-- DEAD_WATCH_EXPIRY (R60). -/
theorem exec_deadWatchExpiry_cases (ch : ChannelId) (s : State) :
    exec (.deadWatchExpiry ch) s = .next s ∨
    ∃ v f, (s.chan ch).state = .exposing ∧ (s.chan ch).deadFrom = some f ∧
      v = s.pass (remainingMs f (s.chan ch).settings.deadInterval s.now) ∧
      exec (.deadWatchExpiry ch) s = .next (v.abortRun ch .lampOut) := by
  have he : exec (.deadWatchExpiry ch) s = execDeadWatchExpiry ch s := rfl
  rw [he]
  unfold execDeadWatchExpiry
  split
  · rename_i f hs hf; exact .inr ⟨_, f, hs, hf, rfl, rfl⟩
  · exact .inl rfl

/-- OVERTIME_EXPIRY (R61). -/
theorem exec_overtimeExpiry_cases (ch : ChannelId) (s : State) :
    exec (.overtimeExpiry ch) s = .next s ∨
    ∃ v l, (s.chan ch).state = .exposing ∧ (s.chan ch).overtime = some l ∧
      v = s.pass (remainingMs (s.chan ch).startedAt (l * 100) s.now) ∧
      exec (.overtimeExpiry ch) s = .next (v.abortRun ch .overtime) := by
  have he : exec (.overtimeExpiry ch) s = execOvertimeExpiry ch s := rfl
  rw [he]
  unfold execOvertimeExpiry
  split
  · rename_i l hs hl; exact .inr ⟨_, l, hs, hl, rfl, rfl⟩
  · exact .inl rfl

/-- TAIL_EXPIRY (R67, R68). -/
theorem exec_tailExpiry_cases (ch : ChannelId) (s : State) :
    exec (.tailExpiry ch) s = .next s ∨
    ∃ v f, (s.chan ch).state = .tail ∧ (s.chan ch).tailFrom = some f ∧
      v = s.pass (remainingMs f (s.chan ch).settings.tail s.now) ∧
      exec (.tailExpiry ch) s = .next (v.endTail ch) := by
  have he : exec (.tailExpiry ch) s = execTailExpiry ch s := rfl
  rw [he]
  unfold execTailExpiry
  split
  · rename_i f hs hf; exact .inr ⟨_, f, hs, hf, rfl, rfl⟩
  · exact .inl rfl

/-- STORE_COMPLETE (R43). -/
theorem exec_storeComplete_cases (s : State) :
    (s.store.job = none ∧ exec .storeComplete s = .next s) ∨
    ∃ v j, s.store.job = some j ∧ v = s.pass (remainingMs j.takenAt Config.storeMs s.now) ∧
      exec .storeComplete s =
        .next ((v.setStore (v.store.completed j.contents v.seconds)).raise .E .storeResult none) := by
  have he : exec .storeComplete s = execStoreComplete s := rfl
  rw [he]
  unfold execStoreComplete
  cases hj : s.store.job with
  | none => exact .inl ⟨rfl, rfl⟩
  | some j => exact .inr ⟨_, j, rfl, rfl, rfl⟩

/-- OVERDUE_EXPIRY (R107). -/
theorem exec_overdueExpiry_cases (n : Nat) (s : State) :
    exec (.overdueExpiry n) s = .next s ∨
    ∃ v r, (s.belt.find? fun r => r.docket == n && !r.overdueRaised) = some r ∧ v = s.pass (s.overdueIn r) ∧
      exec (.overdueExpiry n) s = .next
        ((((v.setBelt (v.belt.map fun x => if x.docket = n then { x with overdueRaised := true } else x)
            v.beltSpeed).updateDocket n fun d => d.updateNewest fun p => { p with overdue := true }).raise
          .W .washOverdue (some n)).raise .E .washOverdue (some n)) := by
  have he : exec (.overdueExpiry n) s = execOverdueExpiry n s := rfl
  rw [he]
  unfold execOverdueExpiry
  split
  · rename_i r hr; exact .inr ⟨_, r, hr, rfl, rfl⟩
  · exact .inl rfl

/-- R144: the overdry timer that a drawer starts with when its docket is dry. -/
def overdryTimer (limit now : Nat) : Option DrawerTimer :=
  if limit = 0 then none else some { startedAt := now, seconds := limit * 60 }

/-- DRYING_EXPIRY (R144). -/
theorem exec_dryingExpiry_cases (d : Fin 8) (s : State) :
    exec (.dryingExpiry d) s = .next s ∨
    ∃ v n timer, s.drawers[d] = .drying n timer ∧
      v = s.pass (remainingMs timer.startedAt (timer.seconds * 1000) s.now) ∧
      exec (.dryingExpiry d) s = .next
        ((((v.setDrawers (v.drawers.set d (.dry n (overdryTimer v.working.line.overdryLimit v.now) false))).updateDocket n
            fun x => { x with sub := .dry, dryEnd := some v.seconds }).raise .F .dryDone (some n)).offerFor .dried 1 n
          false) := by
  have he : exec (.dryingExpiry d) s = execDryingExpiry d s := rfl
  rw [he]
  unfold execDryingExpiry
  split
  · rename_i n timer hd; exact .inr ⟨_, n, timer, hd, rfl, rfl⟩
  · exact .inl rfl

/-- OVERDRY_EXPIRY (R145). -/
theorem exec_overdryExpiry_cases (d : Fin 8) (s : State) :
    exec (.overdryExpiry d) s = .next s ∨
    ∃ v n timer raised, s.drawers[d] = .dry n (some timer) raised ∧
      v = s.pass (remainingMs timer.startedAt (timer.seconds * 1000) s.now) ∧
      exec (.overdryExpiry d) s = .next
        ((((v.setDrawers (v.drawers.set d (.dry n none true))).updateDocket n fun x => { x with overdry := true }).raise
          .F .overdry (some n)).raise .E .overdry (some n)) := by
  have he : exec (.overdryExpiry d) s = execOverdryExpiry d s := rfl
  rw [he]
  unfold execOverdryExpiry
  split
  · rename_i n timer raised hd; exact .inr ⟨_, n, timer, raised, hd, rfl, rfl⟩
  · exact .inl rfl

/-- PORT_LOST (R182). -/
theorem exec_portLost_cases (p : Port) (s : State) :
    exec (.portLost p) s = .next s ∨
    ∃ v h, (s.port p).state = .online ∧ (s.port p).lastHeard = some h ∧
      v = s.pass (remainingMs h (s.working.line.silenceLimit * 1000) s.now) ∧
      exec (.portLost p) s = .next (v.enterLost p) := by
  have he : exec (.portLost p) s = execPortLost p s := rfl
  rw [he]
  unfold execPortLost
  split
  · rename_i h hs hh; exact .inr ⟨_, h, hs, hh, rfl, rfl⟩
  · exact .inl rfl

/-- BYTE_GAP_TIMEOUT (R179). -/
theorem exec_byteGapTimeout_cases (p : Port) (b : Byte) (s : State) :
    exec (.byteGapTimeout p b) s = .next s ∨
    ∃ v f, (s.port p).receiver.lastByte = some f ∧ v = s.pass (remainingMs f (Config.gapMs + 1) s.now) ∧
      exec (.byteGapTimeout p b) s = .next (v.setPort p ((v.port p).framingError (huntingByte v.now b))) := by
  have he : exec (.byteGapTimeout p b) s = execByteGapTimeout p b s := rfl
  rw [he]
  unfold execByteGapTimeout
  split
  · rename_i f hf; exact .inr ⟨_, f, hf, rfl, rfl⟩
  · exact .inl rfl

/-! ## What the events leave alone -/

/-- The events that write the settings' store, the belt or a drawer by their own rule. -/
def writesLine : Instr → Bool
  | .reset _ | .storeComplete | .overdueExpiry _ | .dryingExpiry _ | .overdryExpiry _ => true
  | _ => false

/-- From `s` to `t` the settings, the belt, the bath and the dryer are the same. -/
structure LineKept (s t : State) : Prop where
  working   : t.working = s.working
  store     : t.store = s.store
  belt      : t.belt = s.belt
  beltSpeed : t.beltSpeed = s.beltSpeed
  bath      : t.bath = s.bath
  drawers   : t.drawers = s.drawers
  dryQueue  : t.dryQueue = s.dryQueue

theorem LineKept.trans {s t u : State} (h : LineKept s t) (g : LineKept t u) : LineKept s u :=
  ⟨g.working.trans h.working, g.store.trans h.store, g.belt.trans h.belt, g.beltSpeed.trans h.beltSpeed,
    g.bath.trans h.bath, g.drawers.trans h.drawers, g.dryQueue.trans h.dryQueue⟩

theorem LineKept.refl (s : State) : LineKept s s := ⟨rfl, rfl, rfl, rfl, rfl, rfl, rfl⟩

theorem State.pass_lineKept (s : State) (ms : Nat) : LineKept s (s.pass ms) := by constructor <;> simp

theorem State.passMicros_lineKept (s : State) (us : Nat) : LineKept s (s.passMicros us) := by constructor <;> simp

theorem LineKept.of_pass {s v : State} {ms : Nat} (h : v = s.pass ms) : LineKept s v := by
  rw [h]; exact s.pass_lineKept ms

theorem LineKept.of_passMicros {s v : State} {us : Nat} (h : v = s.passMicros us) : LineKept s v := by
  rw [h]; exact s.passMicros_lineKept us

theorem State.setChan_lineKept (s : State) (c : ChannelId) (r : Channel) : LineKept s (s.setChan c r) := by
  constructor <;> rfl

theorem State.setPort_lineKept (s : State) (p : Port) (r : PortRecord) : LineKept s (s.setPort p r) := by
  constructor <;> rfl

/-- Every other event leaves the settings, the belt, the bath and the dryer alone. -/
theorem exec_event_lineKept {c : Instr} {s t : State} (hx : takenOf s c = none) (hw : writesLine c = false)
    (ht : exec c s = .next t) : LineKept s t := by
  cases c <;> cases hx <;> cases hw
  case sstopAsserted => cases ht; constructor <;> simp [State.stopShop]
  case sstopReleased => cases ht; constructor <;> simp
  case sensorPulse ch =>
    cases ht
    dsimp only
    split
    · split <;> constructor <;> simp
    all_goals constructor <;> simp
  case graceEnd ch =>
    obtain ⟨_, he⟩ | ⟨v, _, _, hv, he⟩ := exec_graceEnd_cases ch s <;>
      obtain rfl := Host.Outcome.next.inj (he.symm.trans ht)
    · exact .refl s
    · exact (LineKept.of_pass hv).trans (v.setChan_lineKept ch _)
  case windowEnd ch =>
    obtain he | ⟨v, w, c, _, _, hv, _, ⟨r, _, _, he⟩ | ⟨_, he⟩⟩ := exec_windowEnd_cases ch s <;>
      obtain rfl := Host.Outcome.next.inj (he.symm.trans ht)
    · exact .refl s
    · exact (LineKept.of_pass hv).trans (by constructor <;> simp)
    · exact (LineKept.of_pass hv).trans (v.setChan_lineKept ch _)
  case dimWatchExpiry ch =>
    obtain he | ⟨v, f, c, _, _, hv, _, ⟨r, _, _, he⟩ | ⟨_, he⟩⟩ := exec_dimWatchExpiry_cases ch s <;>
      obtain rfl := Host.Outcome.next.inj (he.symm.trans ht)
    · exact .refl s
    · exact (LineKept.of_passMicros hv).trans (by constructor <;> simp)
    · exact (LineKept.of_passMicros hv).trans (v.setChan_lineKept ch _)
  case deadWatchExpiry ch =>
    obtain he | ⟨v, f, _, _, hv, he⟩ := exec_deadWatchExpiry_cases ch s <;>
      obtain rfl := Host.Outcome.next.inj (he.symm.trans ht)
    · exact .refl s
    · exact (LineKept.of_pass hv).trans (by constructor <;> simp)
  case overtimeExpiry ch =>
    obtain he | ⟨v, l, _, _, hv, he⟩ := exec_overtimeExpiry_cases ch s <;>
      obtain rfl := Host.Outcome.next.inj (he.symm.trans ht)
    · exact .refl s
    · exact (LineKept.of_pass hv).trans (by constructor <;> simp)
  case tailExpiry ch =>
    obtain he | ⟨v, f, _, _, hv, he⟩ := exec_tailExpiry_cases ch s <;>
      obtain rfl := Host.Outcome.next.inj (he.symm.trans ht)
    · exact .refl s
    · exact (LineKept.of_pass hv).trans (by constructor <;> simp)
  case lineSecond => cases ht; exact s.pass_lineKept _
  case portLost p =>
    obtain he | ⟨v, h, _, _, hv, he⟩ := exec_portLost_cases p s <;>
      obtain rfl := Host.Outcome.next.inj (he.symm.trans ht)
    · exact .refl s
    · exact (LineKept.of_pass hv).trans (by constructor <;> simp)
  case byteGapTimeout p b =>
    obtain he | ⟨v, f, _, hv, he⟩ := exec_byteGapTimeout_cases p b s <;>
      obtain rfl := Host.Outcome.next.inj (he.symm.trans ht)
    · exact .refl s
    · exact (LineKept.of_pass hv).trans (v.setPort_lineKept p _)
  case missingStopBit => cases ht; split <;> constructor <;> simp
  case frameOverrun => cases ht; split <;> constructor <;> simp
  case unknownRequest => cases ht; (repeat' split) <;> constructor <;> simp
  case badLen | frameCrcError | answerSent | frameBegins | frameByte => cases ht; constructor <;> simp

/-- What depends on the settings, the belt, the bath and the dryer only is kept by those events. -/
theorem exec_event_keeps {P : State → Prop} (hP : ∀ s t, LineKept s t → P s → P t) {c : Instr} {s t : State}
    (hx : takenOf s c = none) (h : P s) (ht : exec c s = .next t) (hw : writesLine c = true → P t) : P t := by
  cases hc : writesLine c with
  | false => exact hP s t (exec_event_lineKept hx hc ht) h
  | true => exact hw hc

end Sys2Proof.Machine
end

section
/-! SUPPORT. Figures stay in their ranges (R31, R34, R35, R37, R39): each request that writes one clamps it, and a store, a
recall and a reset copy contents that are in range. -/

namespace Sys2Proof.Machine

/-! ## What a clamp gives -/

theorem between_clamp {lo hi : Nat} (h : lo ≤ hi) (x : Nat) : Between lo hi (clamp lo hi x) := by
  simp only [Between, clamp]; omega

theorem lineRange_ordered (i : LineItem) : (lineRange i).1 ≤ (lineRange i).2 := by cases i <;> decide

theorem chanRange_ordered (i : ChanItem) : (chanRange i).1 ≤ (chanRange i).2 := by cases i <;> decide

theorem LineSettings.get_set (l : LineSettings) (i j : LineItem) (v : Nat) :
    (l.set i v).get j = if j = i then v else l.get j := by cases i <;> cases j <;> rfl

theorem ChanSettings.get_set (c : ChanSettings) (i j : ChanItem) (v : Nat) :
    (c.set i v).get j = if j = i then v else c.get j := by cases i <;> cases j <;> rfl

/-- R35: the value taken for a line item is in the item's range, whatever the other member of its pair is. -/
theorem lineTaken_between {l : LineSettings} (h : l.InRange) (i : LineItem) (v : Nat) :
    Between (lineRange i).1 (lineRange i).2 (lineTaken l i v) := by
  have hc := between_clamp (lineRange_ordered i) v
  have hsmin := h.each .speedMin
  have hsmax := h.each .speedMax
  have hwarn := h.each .loadWarn
  have hstop := h.each .loadStop
  have hvmin := h.each .bathVolMin
  have hvmax := h.each .bathVolMax
  simp only [Between, lineRange, LineSettings.get] at hsmin hsmax hwarn hstop hvmin hvmax
  cases i <;> simp only [lineTaken, Between, lineRange] at hc ⊢ <;> omega

/-- R34, R35: a line setting taken keeps the ranges and the gaps of the pairs. -/
theorem LineSettings.InRange.set_taken {l : LineSettings} (h : l.InRange) (i : LineItem) (v : Nat) :
    (l.set i (lineTaken l i v)).InRange where
  each j := by
    rw [LineSettings.get_set]
    split
    · rename_i e; subst e; exact lineTaken_between h j v
    · exact h.each j
  speedGap := by
    have hmax := h.each .speedMax
    have hgap := h.speedGap
    simp only [Between, lineRange, LineSettings.get] at hmax
    cases i <;> simp only [LineSettings.set, lineTaken] <;> omega
  loadGap := by
    have hstop := h.each .loadStop
    have hgap := h.loadGap
    simp only [Between, lineRange, LineSettings.get] at hstop
    cases i <;> simp only [LineSettings.set, lineTaken] <;> omega
  volumeGap := by
    have hmax := h.each .bathVolMax
    have hgap := h.volumeGap
    simp only [Between, lineRange, LineSettings.get] at hmax
    cases i <;> simp only [LineSettings.set, lineTaken] <;> omega

/-- R37: a channel setting taken keeps the ranges. -/
theorem ChanSettings.InRange.set_taken {c : ChanSettings} (h : c.InRange) (i : ChanItem) (v : Nat) :
    (c.set i (chanTaken i v)).InRange := by
  intro j
  rw [ChanSettings.get_set]
  split
  · rename_i e; subst e; exact between_clamp (chanRange_ordered j) v
  · exact h j

/-- R31: the figures taken are in range, the relief at least 100 below the thickness. -/
theorem Snapshot.taken_inRange (f : Snapshot) : f.taken.InRange := by
  constructor <;> simp only [Snapshot.taken, Between, clamp] <;> omega

theorem nameTaken_length (cs : List Byte) : (nameTaken cs).length ≤ 12 := by
  rw [nameTaken, List.length_map, List.length_take]
  exact Nat.min_le_left 12 cs.length

/-! ## The working copy -/

namespace WorkingCopy.InRange

variable {w : WorkingCopy} (h : w.InRange)
include h

theorem setRecipe {i : Nat} (_hi : i < 16) {r : Recipe} (hf : r.figures.InRange) (hn : r.name.length ≤ 12) :
    ({ w with recipes := w.recipes.set i r } : WorkingCopy).InRange :=
  { h with
    recipes := fun j => by
      simp only [Fin.getElem_fin, Vector.getElem_set]
      split
      · exact ⟨hf, hn⟩
      · exact h.recipes j }

theorem setLine {l : LineSettings} (hl : l.InRange) : ({ w with line := l } : WorkingCopy).InRange := { h with line := hl }

theorem setChannel (ch : ChannelId) {c : ChanSettings} (hc : c.InRange) :
    ({ w with channels := w.channels.set ch c } : WorkingCopy).InRange :=
  { h with
    channels := fun d => by
      simp only [PerChannel.get_set]
      split
      · exact hc
      · exact h.channels d }

theorem setLevel (k : Fin 17) {v : Nat} (hv : v ≤ 7) :
    ({ w with levels := w.levels.set k v } : WorkingCopy).InRange :=
  { h with
    levels := fun i => by
      simp only [Fin.getElem_fin, Vector.getElem_set]
      split
      · exact hv
      · exact h.levels i }

end WorkingCopy.InRange

/-- R45: the factory defaults are in range. -/
theorem WorkingCopy.factory_inRange : WorkingCopy.factory.InRange where
  recipes i := by
    simp only [WorkingCopy.factory, Fin.getElem_fin, Vector.getElem_replicate]
    refine ⟨?_, by decide⟩
    constructor <;> simp [Between, Recipe.factory]
  line := by
    refine ⟨fun i => ?_, by decide, by decide, by decide⟩
    cases i <;> simp [Between, WorkingCopy.factory, LineSettings.factory, LineSettings.get, lineRange]
  channels c := by
    intro i
    cases c <;> cases i <;>
      simp [Between, WorkingCopy.factory, PerChannel.get, ChanSettings.factory, ChanSettings.get, chanRange]
  levels := by decide

/-! ## The settings of the machine -/

theorem SettingsInRange.congr {s t : State} (h : SettingsInRange s) (hw : t.working = s.working)
    (hs : t.store = s.store) : SettingsInRange t := by
  obtain ⟨hworking, himage, hjob⟩ := h
  exact ⟨hw ▸ hworking, hs ▸ himage, hs ▸ hjob⟩

/-- The working copy replaced by one in range, the store as it was. -/
theorem SettingsInRange.replace {s t : State} (h : SettingsInRange s) (hw : t.working.InRange)
    (hs : t.store = s.store) : SettingsInRange t := by
  obtain ⟨_, himage, hjob⟩ := h
  exact ⟨hw, hs ▸ himage, hs ▸ hjob⟩

theorem StoredImage.goodBody_inRange {i : StoredImage} (h : ∀ b, i.body = some b → b.contents.InRange)
    {w : WorkingCopy} (hw : i.goodBody = some w) : w.InRange := by
  unfold StoredImage.goodBody at hw
  split at hw
  · rename_i b hb
    split at hw
    · cases hw; exact h b hb
    · cases hw
  · cases hw

/-- R44: what a reset leaves of the image is a body that stood there, or the one the store was writing. -/
theorem StoredImage.torn_inRange (i : StoredImage) {w : WorkingCopy} (hw : w.InRange) (old new : Nat)
    (p : Config.StoreProgress) : ∀ b, (i.torn w old new p).body = some b → b.contents.InRange := by
  intro b hb
  cases p <;> cases hb <;> exact hw

theorem State.imageAtReset_inRange {s : State} (h : SettingsInRange s) :
    ∀ b, s.imageAtReset.body = some b → b.contents.InRange := by
  unfold State.imageAtReset
  split
  · rename_i j hj; exact StoredImage.torn_inRange _ (h.job j hj) _ _ _
  · exact h.image

theorem State.afterReset_inRange {i : StoredImage} (hi : ∀ b, i.body = some b → b.contents.InRange) (rate sstop : Bool)
    (q : List Instr) : SettingsInRange (State.afterReset i rate sstop q) := by
  unfold State.afterReset; dsimp only
  split
  · rename_i w hw
    exact ⟨StoredImage.goodBody_inRange hi hw, hi, fun _ hj => by cases hj⟩
  · exact ⟨by simpa using WorkingCopy.factory_inRange, by simpa using hi, by simp⟩

/-- Every owning rule keeps the settings in range. -/
theorem takenOf_settings {c : Instr} {s t : State} {x : Taken} (hx : takenOf s c = some x) (h : SettingsInRange t) :
    SettingsInRange (x.owner t).1 := by
  refine takenOf_keeps hx h fun hread => ?_
  cases c <;> cases hread <;> cases hx <;> dsimp only
  case setRecipe =>
    unfold setRecipeReply
    split
    · rename_i hi
      split
      · exact h
      split
      · exact h
      · exact h.replace (h.working.setRecipe hi (Snapshot.taken_inRange _) (nameTaken_length _)) rfl
    · exact h
  case setSetting =>
    unfold setSettingReply
    split
    · split
      · exact h
      · exact h.replace (by simpa [State.setLineItem] using h.working.setLine (h.working.line.set_taken _ _))
          (by simp [State.setLineItem])
    · split
      · exact h
      · exact h.replace (h.working.setChannel _ ((h.working.channels _).set_taken _ _)) rfl
    · exact h
  case setLevel =>
    unfold setLevelReply
    split
    · exact h
    · split
      · exact h
      · exact h.replace (h.working.setLevel _ (Nat.min_le_left 7 _)) rfl
  case store =>
    unfold storeReply
    split
    · exact h
    split
    · exact h
    split
    · exact h
    · exact ⟨h.working, h.image, fun j hj => by cases hj; exact h.working⟩
  case recall.refl =>
    unfold recallReply
    split
    · exact h
    · split
      · rename_i w hw
        exact h.replace (by simpa using StoredImage.goodBody_inRange h.image hw) (by simp)
      · exact ⟨by simpa using WorkingCopy.factory_inRange, by simpa using h.image, by simpa using h.job⟩
  case setLampRefValue | setLampRefMeasured =>
    have hset (ch : ChannelId) (v : Nat) : SettingsInRange (t.setLampRef ch v).1 :=
      h.replace (h.working.setChannel ch ((h.working.channels ch).set_taken .eRef v)) rfl
    unfold lampRefReply
    split
    · exact h
    · split
      · exact h
      split
      · exact h
      split
      · exact h
      split
      · exact hset ..
      · split
        · exact h
        · exact hset ..
  case claim => exact onUnit_keeps h (fun u => h.congr (by simp) (by simp)) _
  case startBack | startMain => exact onUnit_keeps h (fun u => h.congr (by simp) (by simp)) _
  case stop | resume | returnDocket =>
    exact onHolder_keeps h (fun u => h.congr (by simp) (by simp)) (h.congr (by simp) (by simp)) _
  all_goals exact h.congr (by simp) (by simp)

/-- Every event keeps the settings in range. -/
theorem exec_event_settings {c : Instr} {s t : State} (hx : takenOf s c = none) (h : SettingsInRange s)
    (ht : exec c s = .next t) : SettingsInRange t := by
  refine exec_event_keeps (fun _ _ hk h => h.congr hk.working hk.store) hx h ht fun hw => ?_
  cases c <;> cases hw
  case reset => cases ht; exact State.afterReset_inRange (State.imageAtReset_inRange h) _ _ _
  case storeComplete =>
    obtain ⟨_, he⟩ | ⟨v, j, hj, hv, he⟩ := exec_storeComplete_cases s <;>
      obtain rfl := Host.Outcome.next.inj (he.symm.trans ht)
    · exact h
    · have hp := LineKept.of_pass hv
      refine ⟨by simpa [hp.working] using h.working, fun b hb => ?_, fun k hk => ?_⟩
      · simp [Store.completed, ImageBody.written] at hb
        subst hb; exact h.job j hj
      · simp [Store.completed] at hk
  case overdueExpiry n =>
    obtain he | ⟨v, r, _, hv, he⟩ := exec_overdueExpiry_cases n s <;>
      obtain rfl := Host.Outcome.next.inj (he.symm.trans ht)
    · exact h
    · have hp := LineKept.of_pass hv
      exact h.congr (by simp [hp.working]) (by simp [hp.store])
  case dryingExpiry d =>
    obtain he | ⟨v, n, timer, _, hv, he⟩ := exec_dryingExpiry_cases d s <;>
      obtain rfl := Host.Outcome.next.inj (he.symm.trans ht)
    · exact h
    · have hp := LineKept.of_pass hv
      exact h.congr (by simp [hp.working]) (by simp [hp.store])
  case overdryExpiry d =>
    obtain he | ⟨v, n, timer, raised, _, hv, he⟩ := exec_overdryExpiry_cases d s <;>
      obtain rfl := Host.Outcome.next.inj (he.symm.trans ht)
    · exact h
    · have hp := LineKept.of_pass hv
      exact h.congr (by simp [hp.working]) (by simp [hp.store])

/-- Settles O57: a step keeps the settings in range, since every owning rule and every event does. -/
theorem everyStepKeepsTheSettingsInRange : Obligations.EveryStepKeepsTheSettingsInRange := by
  unfold Obligations.EveryStepKeepsTheSettingsInRange
  intro s t hs ht
  refine step_keeps (P := SettingsInRange) (fun s q h => h.congr rfl rfl) (fun s h => h.congr (by simp) (by simp)) ?_ hs ht
  intro c s t
  exact exec_keeps (fun s p h => h.congr (by simp) (by simp)) (fun s p h => h.congr (by simp) (by simp))
    (fun s p k c fs h => h.congr (by simp) (by simp)) (fun s c x hx t h => takenOf_settings hx h)
    (fun s c hx h t ht => exec_event_settings hx h ht)

end Sys2Proof.Machine
end

section
/-! SUPPORT. The end of a run in closed form: what the abort of a unit's or the finisher's run leaves (R66, R68, R83, R158),
with the channel's record written before or after the owner's report. -/

namespace Sys2Proof.Machine

/-! ## Equality of states -/

@[ext] theorem State.ext {s t : State} (now : s.now = t.now) (micro : s.micro = t.micro) (sstop : s.sstop = t.sstop)
    (rateHigh : s.rateHigh = t.rateHigh) (tpm : s.tpm = t.tpm) (ports : s.ports = t.ports) (slots : s.slots = t.slots)
    (nextNumber : s.nextNumber = t.nextNumber) (nextOrder : s.nextOrder = t.nextOrder)
    (exposurePool : s.exposurePool = t.exposurePool) (finishPool : s.finishPool = t.finishPool)
    (working : s.working = t.working) (store : s.store = t.store) (channels : s.channels = t.channels)
    (units : s.units = t.units) (finisher : s.finisher = t.finisher) (washQueue : s.washQueue = t.washQueue)
    (belt : s.belt = t.belt) (beltSpeed : s.beltSpeed = t.beltSpeed) (bath : s.bath = t.bath)
    (drawers : s.drawers = t.drawers) (dryQueue : s.dryQueue = t.dryQueue) (counters : s.counters = t.counters)
    (pending : s.pending = t.pending) : s = t := by
  cases s; cases t; simp_all

theorem PerChannel.set_set {α : Type} (t : PerChannel α) (c : ChannelId) (x y : α) : (t.set c x).set c y = t.set c y := by
  cases c <;> rfl

theorem PerChannel.set_comm {α : Type} (t : PerChannel α) {c d : ChannelId} (h : c ≠ d) (x y : α) :
    (t.set c x).set d y = (t.set d y).set c x := by
  cases c <;> cases d <;> first | rfl | exact absurd rfl h

theorem PerChannel.set_get {α : Type} (t : PerChannel α) (c : ChannelId) : t.set c (t.get c) = t := by cases c <;> rfl

theorem PerPort.set_comm {α : Type} (t : PerPort α) {p q : Port} (h : p ≠ q) (x y : α) :
    (t.set p x).set q y = (t.set q y).set p x := by
  cases p <;> cases q <;> first | rfl | exact absurd rfl h

theorem PerPort.set_get {α : Type} (t : PerPort α) (p : Port) : t.set p (t.get p) = t := by cases p <;> rfl

/-! ## The channel's record written after another part of the state -/

section
variable (s : State) (c : ChannelId) (x : Channel)

theorem State.setChan_setChan (y : Channel) : (s.setChan c x).setChan c y = s.setChan c y := by
  simp only [State.setChan, PerChannel.set_set]

theorem State.setChan_comm {c d : ChannelId} (h : c ≠ d) (x y : Channel) :
    (s.setChan c x).setChan d y = (s.setChan d y).setChan c x := by
  simp only [State.setChan, PerChannel.set_comm _ h]

theorem State.updateDocket_setChan (n : Nat) (f : Docket → Docket) :
    (s.setChan c x).updateDocket n f = (s.updateDocket n f).setChan c x := rfl

theorem State.updateRunDocket_setChan (r : RunDocket) (f : Docket → Docket) :
    (s.setChan c x).updateRunDocket r f = (s.updateRunDocket r f).setChan c x := by
  unfold State.updateRunDocket
  show (if (s.runDocket r).isSome then _ else _) = _
  split <;> rfl

theorem State.raise_setChan (p : Port) (k : NoticeKind) (n : Option Nat) :
    (s.setChan c x).raise p k n = (s.raise p k n).setChan c x := by
  unfold State.raise
  split <;> rfl

theorem State.offerFor_setChan (e : CounterEvent) (a n : Nat) (w : Bool) :
    (s.setChan c x).offerFor e a n w = (s.offerFor e a n w).setChan c x := by
  unfold State.offerFor
  rw [State.setChan_docket]
  split <;> rfl

theorem State.enterHeld_setChan (n : Nat) (r : HoldReason) (st : HoldStage) (l : HoldLocation) :
    (s.setChan c x).enterHeld n r st l = (s.enterHeld n r st l).setChan c x := by
  unfold State.enterHeld
  rw [State.updateDocket_setChan, State.raise_setChan, State.offerFor_setChan]
  rfl

theorem State.haltUnit_setChan (u : UnitId) (n : Nat) (st : Stage) (r : HoldReason) :
    (s.setChan c x).haltUnit u n st r = (s.haltUnit u n st r).setChan c x := by
  unfold State.haltUnit
  rw [show (s.setChan c x).setUnit u (.halted n st r) = (s.setUnit u (.halted n st r)).setChan c x from rfl,
    State.enterHeld_setChan, State.raise_setChan]

end

/-! ## The tail of an aborted run (R66, R67, R68) -/

theorem Channel.toTail_aborted {c : Channel} (hc : c.state = .exposing) (r : AbortReason) {now : Nat}
    (ht : c.settings.tail ≠ 0) : c.toTail (.aborted r) now = c.abortedAt r now := by
  simp [Channel.toTail, Channel.abortedAt, Channel.elapsedNow, hc, ht, Config.figureMax]

theorem Channel.toTail_toIdle {c : Channel} (hc : c.state = .exposing) (r : AbortReason) {now : Nat}
    (ht : c.settings.tail = 0) : (c.toTail (.aborted r) now).toIdle = c.abortedAt r now := by
  simp [Channel.toTail, Channel.toIdle, Channel.abortedAt, Channel.elapsedNow, hc, ht, Config.figureMax]

/-- R5: the docket that a run was started for is live when one of its number and registration is. -/
theorem State.runDocket_isSome (s : State) (r : RunDocket) :
    (s.runDocket r).isSome = true ↔ (s.docket r.number).map Docket.regOrder = some r.order := by
  unfold State.runDocket
  cases s.docket r.number with
  | none => simp
  | some d => simp [Option.filter_some]

/-- R67, R68: with the record of an aborted run written, the tail that a latched TAIL of 0 ends at once is `partialAtOnce`. -/
theorem State.endTailIfZero_aborted (s : State) (ch : ChannelId) {c : Channel} (hc : c.state = .exposing)
    (r : AbortReason) (now : Nat) :
    (s.setChan ch (c.toTail (.aborted r) now)).endTailIfZero ch =
      partialAtOnce (s.setChan ch (c.abortedAt r now)) ch c := by
  have hset : (c.toTail (.aborted r) now).settings = c.settings := rfl
  unfold State.endTailIfZero partialAtOnce
  rw [State.setChan_chan, if_pos rfl, hset]
  by_cases ht : c.settings.tail = 0
  · rw [if_pos ⟨rfl, ht⟩, State.endTail, State.setChan_chan, if_pos rfl]
    cases hr : c.run with
    | none =>
      simp only [Channel.toTail_lamp, hr, State.setChan_chan, if_true]
      rw [Channel.toTail_toIdle hc r ht, State.setChan_setChan]
    | some rd =>
      simp only [Channel.toTail_lamp, hr, State.updateRunDocket_setChan, State.setChan_chan, if_true]
      rw [Channel.toTail_toIdle hc r ht, State.setChan_setChan, State.updateRunDocket]
      simp only [ht, true_and, State.setChan_docket, ← State.runDocket_isSome]
      split <;> rfl
  · rw [if_neg fun h => ht h.2, Channel.toTail_aborted hc r ht]
    split
    · rw [if_neg fun h => ht h.1]
    · rfl

/-! ## The abort of a unit's run (R83) -/

theorem channelOwner_stageChannel (u : UnitId) (st : Stage) : channelOwner (stageChannel u st) = .unit u st := by
  cases u <;> cases st <;> rfl

theorem Channel.runNumber_of_map {c : Channel} {n : Nat} (h : c.run.map RunDocket.number = some n) : c.runNumber = n := by
  unfold Channel.runNumber
  obtain ⟨r, hr, rfl⟩ := Option.map_eq_some_iff.mp h
  rw [hr]

/-- R66, R83: the abort of a stage that runs halts its unit, and leaves nothing else. -/
theorem RunsStage.abortRun_eq {s : State} {u : UnitId} {n : Nat} {st : Stage} (h : RunsStage s u n st) {r : AbortReason}
    {reason : HoldReason} (hr : r.hold = some reason) :
    s.abortRun (stageChannel u st) r = unitHalted s u n st r reason := by
  obtain ⟨hunit, hstate, hrun⟩ := h
  rw [State.abortRun, if_pos hstate, Channel.runNumber_of_map hrun, State.reportAborted, hr]
  simp only [channelOwner_stageChannel]
  rw [if_pos (show (s.chanToTail (stageChannel u st) (.aborted r)).unit u = .running n st from hunit),
    State.chanToTail, State.haltUnit_setChan, State.endTailIfZero_aborted _ _ hstate, ← State.haltUnit_setChan]
  rfl

/-! ## The abort of the finisher's run (R158) -/

theorem partialAtOnce_setChan (s : State) (c d : ChannelId) (x y : Channel) :
    partialAtOnce (s.setChan c x) d y = (partialAtOnce s d y).setChan c x := by
  unfold partialAtOnce
  split
  · rw [State.setChan_docket]
    split <;> rfl
  · rfl

@[simp] theorem partialAtOnce_frame (s : State) (ch : ChannelId) (c : Channel) :
    (partialAtOnce s ch c).now = s.now ∧ (partialAtOnce s ch c).micro = s.micro ∧
    (partialAtOnce s ch c).sstop = s.sstop ∧ (partialAtOnce s ch c).rateHigh = s.rateHigh ∧
    (partialAtOnce s ch c).tpm = s.tpm ∧ (partialAtOnce s ch c).ports = s.ports ∧
    (partialAtOnce s ch c).nextNumber = s.nextNumber ∧ (partialAtOnce s ch c).nextOrder = s.nextOrder ∧
    (partialAtOnce s ch c).exposurePool = s.exposurePool ∧ (partialAtOnce s ch c).finishPool = s.finishPool ∧
    (partialAtOnce s ch c).working = s.working ∧ (partialAtOnce s ch c).store = s.store ∧
    (partialAtOnce s ch c).channels = s.channels ∧ (partialAtOnce s ch c).units = s.units ∧
    (partialAtOnce s ch c).finisher = s.finisher ∧ (partialAtOnce s ch c).washQueue = s.washQueue ∧
    (partialAtOnce s ch c).belt = s.belt ∧ (partialAtOnce s ch c).beltSpeed = s.beltSpeed ∧
    (partialAtOnce s ch c).bath = s.bath ∧ (partialAtOnce s ch c).drawers = s.drawers ∧
    (partialAtOnce s ch c).dryQueue = s.dryQueue ∧ (partialAtOnce s ch c).counters = s.counters ∧
    (partialAtOnce s ch c).pending = s.pending := by
  unfold partialAtOnce
  split
  · split <;> simp
  · simp

theorem Docket.takePartial_kept (d : Docket) (ch : ChannelId) (dose : Nat) :
    (d.takePartial ch dose).number = d.number ∧ (d.takePartial ch dose).regOrder = d.regOrder ∧
    (d.takePartial ch dose).state = d.state ∧ (d.takePartial ch dose).passes = d.passes := by
  unfold Docket.takePartial
  split
  · split
    · split <;> simp
    · simp
  · simp

/-- The UV-C and the UV-A partial dose go into different fields of the hold record (R7). -/
theorem Docket.takePartial_comm (d : Docket) (x y : Nat) :
    (d.takePartial .FA x).takePartial .FC y = (d.takePartial .FC y).takePartial .FA x := by
  cases hh : d.hold with
  | none => simp [Docket.takePartial, hh]
  | some k =>
    by_cases hs : d.state = .held ∧ k.stage = .finish
    · simp [Docket.takePartial, hh, hs, channelHoldStage]
    · simp [Docket.takePartial, hh, hs, channelHoldStage]

theorem mapAll_mapAll {α β γ : Type} {n : Nat} (f : α → β) (g : β → γ) (v : Vector α n) :
    mapAll g (mapAll f v) = mapAll (fun x => g (f x)) v := by
  ext i hi; simp

/-- Two updates of one docket, one after the other. -/
theorem State.updateDocket_updateDocket (s : State) (n : Nat) (f g : Docket → Docket)
    (hf : ∀ d, (f d).number = d.number) :
    (s.updateDocket n f).updateDocket n g = s.updateDocket n fun d => g (f d) := by
  simp only [State.updateDocket, State.setSlots, mapAll_mapAll, Option.map_map]
  congr 3
  ext o : 1
  congr 1
  ext d : 1
  by_cases hd : d.number = n <;> simp [hd, hf]

/-- An update of a docket looked up by its own number. -/
theorem State.updateDocket_docket (s : State) (n m : Nat) (f : Docket → Docket) (hf : ∀ d, (f d).number = d.number) :
    (s.updateDocket n f).docket m = if m = n then (s.docket n).map f else s.docket m := by
  split
  · rename_i h; rw [h]; exact s.updateDocket_docket_self n f hf
  · rename_i h; exact s.updateDocket_docket_ne f hf h

theorem partialAtOnce_regOrder (s : State) (ch : ChannelId) (c : Channel) (m : Nat) :
    ((partialAtOnce s ch c).docket m).map Docket.regOrder = (s.docket m).map Docket.regOrder := by
  unfold partialAtOnce
  split
  · split
    · rw [State.updateDocket_docket _ _ _ _ fun d => (d.takePartial_kept ch _).1]
      split
      · rename_i hm
        subst hm
        rw [Option.map_map]
        exact congrArg (Option.map · _) (funext fun d => (d.takePartial_kept ch _).2.1)
      · rfl
    · rfl
  · rfl

/-- The partial doses of both finisher channels of one docket, in either order. -/
theorem partialAtOnce_comm (s : State) {x y : Channel} {n : Nat} (hx : x.run.map RunDocket.number = some n)
    (hy : y.run.map RunDocket.number = some n) :
    partialAtOnce (partialAtOnce s .FA y) .FC x = partialAtOnce (partialAtOnce s .FC x) .FA y := by
  obtain ⟨rx, hrx, rfl⟩ := Option.map_eq_some_iff.mp hx
  obtain ⟨ry, hry, hn⟩ := Option.map_eq_some_iff.mp hy
  have hX (t : State) : partialAtOnce t .FC x = if x.settings.tail = 0 ∧
      (t.docket rx.number).map Docket.regOrder = some rx.order then
        t.updateDocket rx.number fun d => d.takePartial .FC x.accumulator else t := by
    unfold partialAtOnce; rw [hrx]
  have hY (t : State) : partialAtOnce t .FA y = if y.settings.tail = 0 ∧
      (t.docket rx.number).map Docket.regOrder = some ry.order then
        t.updateDocket rx.number fun d => d.takePartial .FA y.accumulator else t := by
    unfold partialAtOnce; rw [hry, ← hn]
  rw [hX, partialAtOnce_regOrder, hY (partialAtOnce s .FC x), partialAtOnce_regOrder, hX, hY]
  by_cases h1 : x.settings.tail = 0 ∧ (s.docket rx.number).map Docket.regOrder = some rx.order
  · by_cases h2 : y.settings.tail = 0 ∧ (s.docket rx.number).map Docket.regOrder = some ry.order
    · rw [if_pos h1, if_pos h2, if_pos h2, if_pos h1,
        State.updateDocket_updateDocket _ _ _ _ fun d => (d.takePartial_kept _ _).1,
        State.updateDocket_updateDocket _ _ _ _ fun d => (d.takePartial_kept _ _).1]
      exact congrArg (State.updateDocket s _) (funext fun d => d.takePartial_comm _ _)
    · rw [if_pos h1, if_neg h2, if_neg h2, if_pos h1]
  · rw [if_neg h1, if_neg h1]

/-- R158: what the finisher's halt does beside the channels. -/
def State.finisherHalt (s : State) (n : Nat) (c a : Mark) (reason : HoldReason) : State :=
  ((s.setFinisher (.halted n c a reason)).enterHeld n reason .finish .finisher).raise .F .exposureHalted (some n)

theorem State.finisherHalt_setChan (s : State) (ch : ChannelId) (x : Channel) (n : Nat) (c a : Mark) (reason : HoldReason) :
    (s.setChan ch x).finisherHalt n c a reason = (s.finisherHalt n c a reason).setChan ch x := by
  unfold State.finisherHalt
  rw [show (s.setChan ch x).setFinisher (.halted n c a reason) = (s.setFinisher (.halted n c a reason)).setChan ch x
    from rfl, State.enterHeld_setChan, State.raise_setChan]

/-- `finisherHalted` with the channels written last. -/
theorem finisherHalted_eq (s : State) (n : Nat) (c a : Mark) (r : AbortReason) (reason : HoldReason) :
    finisherHalted s n c a r reason =
      (let s2 := if a = .openMark then (if c = .openMark then s.setChan .FC ((s.chan .FC).abortedAt r s.now) else s).setChan
          .FA ((s.chan .FA).abortedAt r s.now) else
          (if c = .openMark then s.setChan .FC ((s.chan .FC).abortedAt r s.now) else s)
      let s3 := s2.finisherHalt n c a reason
      let s4 := if c = .openMark then partialAtOnce s3 .FC (s.chan .FC) else s3
      if a = .openMark then partialAtOnce s4 .FA (s.chan .FA) else s4) := by
  have hsec : (if a = .openMark then (if c = .openMark then s.setChan .FC ((s.chan .FC).abortedAt r s.now) else s).setChan
          .FA ((s.chan .FA).abortedAt r s.now) else
          (if c = .openMark then s.setChan .FC ((s.chan .FC).abortedAt r s.now) else s)).seconds = s.seconds := by
    (repeat' split) <;> rfl
  unfold finisherHalted State.finisherHalt State.enterHeld Docket.heldBy
  simp only [State.setFinisher_seconds, hsec]

/-- R66, R158: the abort of one OPEN channel of a RUNNING finisher aborts every OPEN one and halts the finisher. -/
theorem RunsFinish.abortRun_eq {s : State} {n : Nat} {c a : Mark} (h : RunsFinish s n c a) {ch : ChannelId}
    (hch : (ch = .FC ∧ c = .openMark) ∨ (ch = .FA ∧ a = .openMark)) {r : AbortReason} {reason : HoldReason}
    (hr : r.hold = some reason) : s.abortRun ch r = finisherHalted s n c a r reason := by
  obtain ⟨hfin, _, huvc, huva⟩ := h
  rw [finisherHalted_eq]
  obtain ⟨rfl, rfl⟩ | ⟨rfl, rfl⟩ := hch
  · obtain ⟨hsc, hrc⟩ := huvc rfl
    have hfin' : (s.chanToTail .FC (.aborted r)).finisher = .running n .openMark a := hfin
    rw [State.abortRun, if_pos hsc, Channel.runNumber_of_map hrc, State.reportAborted, hr]
    simp only [channelOwner, hfin', FinisherRecord.markOf, and_self, if_true]
    rw [State.haltFinisher]
    cases a with
    | openMark =>
      obtain ⟨hsa, hra⟩ := huva rfl
      have hsis : ((s.chanToTail .FC (.aborted r)).chan (sister .FC)).state = .exposing := hsa
      simp only [if_true, hsis, and_self]
      show State.endTailIfZero (State.endTailIfZero (State.finisherHalt
        ((s.setChan .FC ((s.chan .FC).toTail (.aborted r) s.now)).setChan .FA ((s.chan .FA).toTail (.aborted r) s.now))
        n _ _ _) .FA) .FC = _
      rw [State.finisherHalt_setChan, State.endTailIfZero_aborted _ _ hsa, ← State.finisherHalt_setChan,
        State.setChan_comm s (by decide), State.finisherHalt_setChan, partialAtOnce_setChan,
        State.endTailIfZero_aborted _ _ hsc, ← partialAtOnce_setChan, ← State.finisherHalt_setChan,
        partialAtOnce_comm _ hrc hra, State.setChan_comm s (by decide)]
    | reached =>
      simp only [if_true, reduceCtorEq, false_and, if_false]
      show State.endTailIfZero (State.finisherHalt (s.setChan .FC _) n _ _ _) .FC = _
      rw [State.finisherHalt_setChan, State.endTailIfZero_aborted _ _ hsc, ← State.finisherHalt_setChan]
  · obtain ⟨hsa, hra⟩ := huva rfl
    have hfin' : (s.chanToTail .FA (.aborted r)).finisher = .running n c .openMark := hfin
    rw [State.abortRun, if_pos hsa, Channel.runNumber_of_map hra, State.reportAborted, hr]
    simp only [channelOwner, hfin', FinisherRecord.markOf, and_self, if_true]
    rw [State.haltFinisher]
    cases c with
    | openMark =>
      obtain ⟨hsc, hrc⟩ := huvc rfl
      have hsis : ((s.chanToTail .FA (.aborted r)).chan (sister .FA)).state = .exposing := hsc
      simp only [reduceCtorEq, if_false, if_true, hsis, and_self]
      show State.endTailIfZero (State.endTailIfZero (State.finisherHalt
        ((s.setChan .FA ((s.chan .FA).toTail (.aborted r) s.now)).setChan .FC ((s.chan .FC).toTail (.aborted r) s.now))
        n _ _ _) .FC) .FA = _
      rw [State.finisherHalt_setChan, State.endTailIfZero_aborted _ _ hsc, ← State.finisherHalt_setChan,
        State.setChan_comm s (by decide), State.finisherHalt_setChan, partialAtOnce_setChan,
        State.endTailIfZero_aborted _ _ hsa, ← partialAtOnce_setChan, ← State.finisherHalt_setChan]
    | reached =>
      simp only [reduceCtorEq, false_and, if_false]
      show State.endTailIfZero (State.finisherHalt (s.setChan .FA _) n _ _ _) .FA = _
      rw [State.finisherHalt_setChan, State.endTailIfZero_aborted _ _ hsa, ← State.finisherHalt_setChan]

theorem State.abortRun_of_not_exposing {s : State} {ch : ChannelId} (h : (s.chan ch).state ≠ .exposing) (r : AbortReason) :
    s.abortRun ch r = s := if_neg h

/-- R83: the unit's run aborted through its unit. -/
theorem RunsStage.abortUnit_eq {s : State} {u : UnitId} {n : Nat} {st : Stage} (h : RunsStage s u n st) {r : AbortReason}
    {reason : HoldReason} (hr : r.hold = some reason) : s.abortUnit u r = unitHalted s u n st r reason := by
  rw [State.abortUnit, h.unit]
  exact h.abortRun_eq hr

theorem State.abortUnit_of_not_running {s : State} {u : UnitId} (h : ∀ n st, s.unit u ≠ .running n st) (r : AbortReason) :
    s.abortUnit u r = s := by
  unfold State.abortUnit
  split
  · rename_i n st hu; exact absurd hu (h n st)
  · rfl

theorem State.abortFinisher_of_not_running {s : State} (h : ∀ n c a, s.finisher ≠ .running n c a) (r : AbortReason) :
    s.abortFinisher r = s := by
  unfold State.abortFinisher
  split
  · rename_i n c a hf; exact absurd hf (h n c a)
  · rfl

theorem FinisherRecord.openChannels_running (n : Nat) (c a : Mark) :
    (FinisherRecord.running n c a).openChannels =
      (if c = .openMark then [.FC] else []) ++ (if a = .openMark then [.FA] else []) := by
  cases c <;> cases a <;> rfl

/-- R158: after the halt no OPEN channel is EXPOSING. -/
theorem finisherHalted_channels (s : State) (n : Nat) (c a : Mark) (r : AbortReason) (reason : HoldReason) :
    (finisherHalted s n c a r reason).channels =
      (if a = .openMark then (if c = .openMark then s.channels.set .FC ((s.chan .FC).abortedAt r s.now) else s.channels).set
        .FA ((s.chan .FA).abortedAt r s.now)
      else if c = .openMark then s.channels.set .FC ((s.chan .FC).abortedAt r s.now) else s.channels) := by
  unfold finisherHalted
  cases c <;> cases a <;> simp

theorem Channel.abortedAt_dark (c : Channel) (r : AbortReason) (now : Nat) :
    (c.abortedAt r now).permit = false ∧ (c.abortedAt r now).state ≠ .exposing := by
  refine ⟨rfl, ?_⟩
  simp only [Channel.abortedAt]
  split <;> simp

/-- R158, R159: the finisher's run aborted through its OPEN channels. -/
theorem RunsFinish.abortFinisher_eq {s : State} {n : Nat} {c a : Mark} (h : RunsFinish s n c a) {r : AbortReason}
    {reason : HoldReason} (hr : r.hold = some reason) : s.abortFinisher r = finisherHalted s n c a r reason := by
  rw [State.abortFinisher, h.finisher]
  simp only [FinisherRecord.openChannels_running, State.abortAll]
  cases c with
  | openMark =>
    have h1 := h.abortRun_eq (.inl ⟨rfl, rfl⟩) hr
    cases a with
    | openMark =>
      have hd : ((finisherHalted s n .openMark .openMark r reason).chan .FA).state ≠ .exposing := by
        rw [State.chan, finisherHalted_channels]
        simpa using (Channel.abortedAt_dark _ r _).2
      simp only [if_true, List.cons_append, List.nil_append, List.foldl_cons, List.foldl_nil, h1]
      exact State.abortRun_of_not_exposing hd r
    | reached => simpa using h1
  | reached =>
    cases a with
    | openMark => simpa using h.abortRun_eq (.inr ⟨rfl, rfl⟩) hr
    | reached => exact absurd h.someOpen (by simp)

end Sys2Proof.Machine
end

section
/-! SUPPORT. The belt speed with the belt, the bath condition with its account, the drawer assignment and the clock through
every owning rule and every event (R97, R98, R122, R141, R184). -/

namespace Sys2Proof.Machine

/-! ## The belt speed (R97, R98) -/

theorem BeltAgrees.congr {s t : State} (h : BeltAgrees s) (hb : t.belt = s.belt) (hv : t.beltSpeed = s.beltSpeed) :
    BeltAgrees t := by
  unfold BeltAgrees
  rw [hb, hv]
  exact h

/-- R105: a fed belt is not empty and runs. -/
theorem State.feedDocket_belt (s : State) (d : Docket) (v : Nat) :
    (s.feedDocket d v).belt =
      s.belt ++ [{ docket := d.number, feedTime := s.seconds, expectedExit := s.expectedExit v, overdueRaised := false }] ∧
    (s.feedDocket d v).beltSpeed = some v := by
  unfold State.feedDocket
  simp

/-- R112: the head leaves the belt, and an empty belt has no speed. -/
theorem State.exitBelt_belt (s : State) (d : Docket) (p : WashPass) :
    (s.exitBelt d p).belt = s.belt.drop 1 ∧
    (s.exitBelt d p).beltSpeed = if (s.belt.drop 1).isEmpty then none else s.beltSpeed := by
  unfold State.exitBelt
  simp

theorem takenOf_belt {c : Instr} {s t : State} {x : Taken} (hx : takenOf s c = some x) (h : BeltAgrees t) :
    BeltAgrees (x.owner t).1 := by
  refine takenOf_keeps hx h fun hread => ?_
  cases c <;> cases hread <;> cases hx <;> dsimp only
  case feed =>
    unfold feedReply
    split
    · exact h
    · split
      · exact h
      split
      · exact h.congr (t := t.offerRefused) (by simp) (by simp)
      split
      · exact h
      · split
        · exact h.congr (t := t.offerRefused) (by simp) (by simp)
        · split
          · exact h.congr (t := t.offerRefused) (by simp) (by simp)
          · simp only [BeltAgrees, State.feedDocket_belt]
            simp
  case exit =>
    unfold exitReply
    split
    · exact h
    · split
      · exact h
      split
      · exact h
      · split
        · exact h
        · simp only [BeltAgrees, State.disposeExit_frame, State.exitBelt_belt]
          rename_i hhead _ p _
          cases hb : t.belt with
          | nil => simp
          | cons r l =>
            have hv : t.beltSpeed ≠ none := fun e => by simp [h.mp e] at hb
            cases l <;> simp [hv]
  case lineClear => exact iff_of_true rfl rfl
  case claim | startBack | startMain => exact onUnit_keeps h (fun u => h.congr (by simp) (by simp)) _
  case stop | resume | returnDocket =>
    exact onHolder_keeps h (fun u => h.congr (by simp) (by simp)) (h.congr (by simp) (by simp)) _
  all_goals exact h.congr (by simp) (by simp)

theorem State.afterReset_lineKept (i : StoredImage) (rate sstop : Bool) (q : List Instr) :
    (State.afterReset i rate sstop q).belt = [] ∧ (State.afterReset i rate sstop q).beltSpeed = none ∧
    (State.afterReset i rate sstop q).bath = .fresh ∧ (State.afterReset i rate sstop q).dryQueue = [] ∧
    (State.afterReset i rate sstop q).now = 0 ∧ (State.afterReset i rate sstop q).micro = 0 ∧
    (State.afterReset i rate sstop q).slots = Vector.replicate 48 none ∧
    (State.afterReset i rate sstop q).channels = ⟨.fresh, .fresh, .fresh, .fresh, .fresh, .fresh⟩ ∧
    (State.afterReset i rate sstop q).units = ⟨.vacant, .vacant⟩ ∧
    (State.afterReset i rate sstop q).finisher = .vacant := by
  unfold State.afterReset; dsimp only
  split <;> simp

theorem exec_event_belt {c : Instr} {s t : State} (hx : takenOf s c = none) (h : BeltAgrees s) (ht : exec c s = .next t) :
    BeltAgrees t := by
  refine exec_event_keeps (fun _ _ hk h => h.congr hk.belt hk.beltSpeed) hx h ht fun hw => ?_
  cases c <;> cases hw
  case reset => cases ht; simp [BeltAgrees, State.afterReset_lineKept]
  case storeComplete =>
    obtain ⟨_, he⟩ | ⟨v, j, _, hv, he⟩ := exec_storeComplete_cases s <;>
      obtain rfl := Host.Outcome.next.inj (he.symm.trans ht)
    · exact h
    · have hp := LineKept.of_pass hv
      exact h.congr (by simp [hp.belt]) (by simp [hp.beltSpeed])
  case overdueExpiry n =>
    obtain he | ⟨v, r, _, hv, he⟩ := exec_overdueExpiry_cases n s <;>
      obtain rfl := Host.Outcome.next.inj (he.symm.trans ht)
    · exact h
    · have hp := LineKept.of_pass hv
      simp only [BeltAgrees] at h ⊢
      simp [hp.belt, hp.beltSpeed, h]
  case dryingExpiry d =>
    obtain he | ⟨v, n, timer, _, hv, he⟩ := exec_dryingExpiry_cases d s <;>
      obtain rfl := Host.Outcome.next.inj (he.symm.trans ht)
    · exact h
    · have hp := LineKept.of_pass hv
      exact h.congr (by simp [hp.belt]) (by simp [hp.beltSpeed])
  case overdryExpiry d =>
    obtain he | ⟨v, n, timer, raised, _, hv, he⟩ := exec_overdryExpiry_cases d s <;>
      obtain rfl := Host.Outcome.next.inj (he.symm.trans ht)
    · exact h
    · have hp := LineKept.of_pass hv
      exact h.congr (by simp [hp.belt]) (by simp [hp.beltSpeed])

/-! ## The bath condition (R122) -/

theorem BathAgrees.congr {s t : State} (h : BathAgrees s) (hb : t.bath = s.bath) (hw : t.working.line = s.working.line) :
    BathAgrees t := by
  unfold BathAgrees
  rw [hb, hw]
  exact h

/-- The judging depends on three thresholds. -/
theorem Bath.judged_congr (b : Bath) {l m : LineSettings} (h1 : m.bathVolMin = l.bathVolMin) (h2 : m.loadStop = l.loadStop)
    (h3 : m.loadWarn = l.loadWarn) : b.judged m = b.judged l := by
  unfold Bath.judged
  rw [h1, h2, h3]

theorem BathAgrees.of_thresholds {s t : State} (h : BathAgrees s) (hb : t.bath = s.bath)
    (h1 : t.working.line.bathVolMin = s.working.line.bathVolMin)
    (h2 : t.working.line.loadStop = s.working.line.loadStop) (h3 : t.working.line.loadWarn = s.working.line.loadWarn) :
    BathAgrees t := by
  unfold BathAgrees
  rw [hb, Bath.judged_congr _ h1 h2 h3]
  exact h

theorem State.addMass_agrees (s : State) (d : Docket) (m : Nat) : BathAgrees (s.addMass d m) := by
  unfold State.addMass
  exact State.recomputeBath_agrees _ _ rfl

/-- R34, R36: a line item handed on leaves the bath condition with its account. -/
theorem State.setLineItem_bath {s : State} (h : BathAgrees s) (i : LineItem) (v : Nat) : BathAgrees (s.setLineItem i v) := by
  unfold State.setLineItem
  cases i <;> simp only [State.handOff]
  case loadWarn | loadStop | bathVolMin => exact State.recomputeBath_agrees _ _ rfl
  all_goals refine h.of_thresholds ?_ ?_ ?_ ?_ <;> simp [LineSettings.set]

/-- R46: the recall hands a changed threshold to the bath account. -/
theorem State.handOnRecall_bath {s : State} {old : WorkingCopy}
    (h : s.bath.condition = .unknown ∨ s.bath.condition = s.bath.judged old.line) : BathAgrees (s.handOnRecall old) := by
  have hmid : BathAgrees (if s.working.line.loadWarn ≠ old.line.loadWarn ∨ s.working.line.loadStop ≠ old.line.loadStop
      ∨ s.working.line.bathVolMin ≠ old.line.bathVolMin then s.recomputeBath s.bath else s) := by
    split
    · exact State.recomputeBath_agrees _ _ rfl
    · rename_i hc
      simp only [not_or, Decidable.not_not] at hc
      obtain ⟨hwarn, hstop, hmin⟩ := hc
      unfold BathAgrees
      rwa [Bath.judged_congr _ hmin hstop hwarn]
  have hstep (u : State) (hu : u.bath = s.bath) (hw : u.working = s.working) : BathAgrees
      (if s.working.line.loadWarn ≠ old.line.loadWarn ∨ s.working.line.loadStop ≠ old.line.loadStop
      ∨ s.working.line.bathVolMin ≠ old.line.bathVolMin then u.recomputeBath u.bath else u) := by
    refine hmid.congr ?_ ?_
    · split
      · rw [State.recomputeBath_bath, State.recomputeBath_bath, hu, hw]
      · exact hu
    · (repeat' split) <;> simp [hw]
  unfold State.handOnRecall; dsimp only
  refine (hstep (if s.working.line.drawers ≠ old.line.drawers then s.assignDrawers else s) ?_ ?_).congr ?_ ?_
  · split <;> simp
  · split <;> simp
  · split <;> split <;> split <;> simp
  · split <;> split <;> split <;> simp

theorem takenOf_bath {c : Instr} {s t : State} {x : Taken} (hx : takenOf s c = some x) (h : BathAgrees t) :
    BathAgrees (x.owner t).1 := by
  refine takenOf_keeps hx h fun hread => ?_
  cases c <;> cases hread <;> cases hx <;> dsimp only
  case setSetting =>
    unfold setSettingReply
    split
    · split
      · exact h
      · exact State.setLineItem_bath h _ _
    · split
      · exact h
      · exact h.congr rfl rfl
    · exact h
  case recall.refl =>
    unfold recallReply
    split
    · exact h
    · split
      · exact State.handOnRecall_bath h
      · exact State.handOnRecall_bath (by simpa [BathAgrees] using h)
  case reportBath => exact State.judgeBath_agrees _ _
  case replenish =>
    unfold replenishReply
    split
    · exact h
    · refine State.recomputeBath_agrees _ _ ?_
      simp only [Bath.replenished, Bath.overflow, Bath.fill, Bath.drain]
      (repeat' split) <;> rfl
  case exit =>
    unfold exitReply
    split
    · exact h
    · split
      · exact h
      split
      · exact h
      · split
        · exact h
        · rename_i d _ _ _ _ p _
          have hmid : BathAgrees (t.exitBelt d p) := State.addMass_agrees _ _ _
          exact hmid.congr (by simp) (by simp)
  case setRecipe =>
    unfold setRecipeReply
    split
    · split
      · exact h
      split
      · exact h
      · exact h.congr rfl rfl
    · exact h
  case setLevel =>
    unfold setLevelReply
    split
    · exact h
    · split
      · exact h
      · exact h.congr rfl rfl
  case setLampRefValue | setLampRefMeasured =>
    have hset (ch : ChannelId) (v : Nat) : BathAgrees (t.setLampRef ch v).1 := h.congr rfl rfl
    unfold lampRefReply
    split
    · exact h
    · split
      · exact h
      split
      · exact h
      split
      · exact h
      split
      · exact hset ..
      · split
        · exact h
        · exact hset ..
  case claim | startBack | startMain => exact onUnit_keeps h (fun u => h.congr (by simp) (by simp)) _
  case stop | resume | returnDocket =>
    exact onHolder_keeps h (fun u => h.congr (by simp) (by simp)) (h.congr (by simp) (by simp)) _
  all_goals exact h.congr (by simp) (by simp)

theorem exec_event_bath {c : Instr} {s t : State} (hx : takenOf s c = none) (h : BathAgrees s) (ht : exec c s = .next t) :
    BathAgrees t := by
  refine exec_event_keeps (fun _ _ hk h => h.congr hk.bath (by rw [hk.working])) hx h ht fun hw => ?_
  cases c <;> cases hw
  case reset => cases ht; exact .inl (by simp [State.afterReset_lineKept, Bath.fresh])
  case storeComplete =>
    obtain ⟨_, he⟩ | ⟨v, j, _, hv, he⟩ := exec_storeComplete_cases s <;>
      obtain rfl := Host.Outcome.next.inj (he.symm.trans ht)
    · exact h
    · have hp := LineKept.of_pass hv
      exact h.congr (by simp [hp.bath]) (by simp [hp.working])
  case overdueExpiry n =>
    obtain he | ⟨v, r, _, hv, he⟩ := exec_overdueExpiry_cases n s <;>
      obtain rfl := Host.Outcome.next.inj (he.symm.trans ht)
    · exact h
    · have hp := LineKept.of_pass hv
      exact h.congr (by simp [hp.bath]) (by simp [hp.working])
  case dryingExpiry d =>
    obtain he | ⟨v, n, timer, _, hv, he⟩ := exec_dryingExpiry_cases d s <;>
      obtain rfl := Host.Outcome.next.inj (he.symm.trans ht)
    · exact h
    · have hp := LineKept.of_pass hv
      exact h.congr (by simp [hp.bath]) (by simp [hp.working])
  case overdryExpiry d =>
    obtain he | ⟨v, n, timer, raised, _, hv, he⟩ := exec_overdryExpiry_cases d s <;>
      obtain rfl := Host.Outcome.next.inj (he.symm.trans ht)
    · exact h
    · have hp := LineKept.of_pass hv
      exact h.congr (by simp [hp.bath]) (by simp [hp.working])

/-! ## The drawer assignment (R141) -/

/-- A drawer that is filled, taken out or given leaves no more free than before. -/
theorem DrawersGiven.setDrawer {s t : State} (h : DrawersGiven s) {i : Fin 8} {x : Drawer} (hx : x ≠ .empty)
    (hd : t.drawers = s.drawers.set i x) (hw : t.working.line.drawers = s.working.line.drawers)
    (hq : t.dryQueue = s.dryQueue) : DrawersGiven t := by
  refine h.imp (fun g => hq.trans g) fun g => ?_
  rw [State.freeDrawer, List.find?_eq_none] at g ⊢
  intro j hj
  have := g j hj
  simp only [State.inService, hd, hw, Fin.getElem_fin, Vector.getElem_set] at this ⊢
  by_cases e : i.val = j.val
  · simp [e, hx]
  · simpa [e] using this

theorem DrawersGiven.of_empty {s : State} (h : s.dryQueue = []) : DrawersGiven s := .inl h

theorem DrawersGiven.shrink {s t : State} (h : DrawersGiven s) (hd : t.drawers = s.drawers)
    (hw : t.working.line.drawers = s.working.line.drawers) (hq : s.dryQueue = [] → t.dryQueue = []) : DrawersGiven t := by
  refine h.imp hq fun g => ?_
  unfold State.freeDrawer State.inService at g ⊢
  rwa [hd, hw]

theorem State.vacateDrawer_given {s : State} (h : DrawersGiven s) (i : Fin 8) : DrawersGiven (s.vacateDrawer i) := by
  unfold State.vacateDrawer
  split
  · exact h.setDrawer (x := .out) (by simp) rfl rfl rfl
  · exact State.assignDrawers_given _

theorem State.cancelDocket_given {s : State} (h : DrawersGiven s) (d : Docket) : DrawersGiven (s.cancelDocket d) := by
  unfold State.cancelDocket; dsimp only
  split
  case h_3 => exact h.shrink (by simp) (by simp) (by simp +contextual)
  case h_9 =>
    unfold State.cancelAtDryer
    split
    · split
      · exact State.assignDrawers_given _
      · exact h.congr (by simp) (by simp) (by simp)
    · exact h.congr (by simp) (by simp) (by simp)
  all_goals exact h.congr (by simp) (by simp) (by simp)

theorem State.setLineItem_given {s : State} (h : DrawersGiven s) (i : LineItem) (v : Nat) :
    DrawersGiven (s.setLineItem i v) := by
  unfold State.setLineItem
  cases i <;> simp only [State.handOff]
  case drawers => exact State.assignDrawers_given _
  all_goals exact h.congr (by simp) (by simp [LineSettings.set]) (by simp)

theorem State.handOnRecall_given {s t : State} (h : DrawersGiven t) (hd : s.drawers = t.drawers)
    (hq : s.dryQueue = t.dryQueue) : DrawersGiven (s.handOnRecall t.working) := by
  have hfirst : DrawersGiven (if s.working.line.drawers ≠ t.working.line.drawers then s.assignDrawers else s) := by
    split
    · exact State.assignDrawers_given _
    · rename_i hc
      exact h.congr hd (Decidable.not_not.mp hc) hq
  unfold State.handOnRecall; dsimp only
  refine hfirst.congr ?_ ?_ ?_ <;> · split <;> split <;> split <;> split <;> simp

theorem State.disposeExit_given {s : State} (h : DrawersGiven s) (d : Docket) (p : WashPass) :
    DrawersGiven (s.disposeExit d p) := by
  unfold State.disposeExit
  split
  · exact h.congr (by simp) (by simp) (by simp)
  · split
    · exact h.congr (by simp) (by simp) (by simp)
    · exact State.joinDry_given _ _

theorem drawerLoadedReply_given {s : State} (h : DrawersGiven s) (d n : Nat) : DrawersGiven (drawerLoadedReply d n s).1 := by
  unfold drawerLoadedReply
  split
  · exact h
  · rename_i i _
    split
    · exact h
    · rename_i x _
      split
      · split
        · exact h
        · exact h.setDrawer (i := i) (x := .drying n { startedAt := s.now, seconds := x.drySeconds }) (by simp) (by simp)
            (by simp) (by simp)
      · exact h

theorem unloadReply_given {s : State} (h : DrawersGiven s) (i : Fin 8) (n k : Nat) (short : Bool) :
    DrawersGiven (unloadReply i n k short s).1 := by
  unfold unloadReply
  dsimp only
  refine State.vacateDrawer_given ?_ i
  exact h.congr (by simp) (by simp) (by simp)

theorem drawerUnloadedReply_given {s : State} (h : DrawersGiven s) (d force : Nat) :
    DrawersGiven (drawerUnloadedReply d force s).1 := by
  unfold drawerUnloadedReply
  split
  · exact h
  · split
    · exact h
    · split
      · exact unloadReply_given h ..
      · split
        · exact h
        · exact unloadReply_given h ..
      · exact h

theorem drawerServiceReply_given {s : State} (h : DrawersGiven s) (d dir : Nat) :
    DrawersGiven (drawerServiceReply d dir s).1 := by
  unfold drawerServiceReply
  split
  · exact h
  · split
    · split
      · exact h.setDrawer (x := .out) (by simp) rfl rfl rfl
      · exact h
    split
    · split
      · exact State.assignDrawers_given _
      · exact h
    · exact h

theorem takenOf_given {c : Instr} {s t : State} {x : Taken} (hx : takenOf s c = some x) (h : DrawersGiven t) :
    DrawersGiven (x.owner t).1 := by
  refine takenOf_keeps hx h fun hread => ?_
  cases c <;> cases hread <;> cases hx <;> dsimp only
  case setSetting =>
    unfold setSettingReply
    split
    · split
      · exact h
      · exact State.setLineItem_given h _ _
    · split
      · exact h
      · exact h.congr rfl rfl rfl
    · exact h
  case recall.refl =>
    unfold recallReply
    split
    · exact h
    · split <;> exact State.handOnRecall_given h (by simp) (by simp)
  case cancel =>
    unfold cancelReply
    split
    · exact h
    · split
      · exact h
      · exact State.cancelDocket_given h _
  case releasePass | releaseRewash =>
    unfold releaseReply
    split
    · exact h
    · split
      · exact h
      · split
        · exact h
        split
        · exact State.joinDry_given _ _
        split
        · exact h
        · exact h.congr (by simp) (by simp) (by simp)
  case lineClear => exact .of_empty rfl
  case exit =>
    unfold exitReply
    split
    · exact h
    · split
      · exact h
      split
      · exact h
      · split
        · exact h
        · exact State.disposeExit_given (h.congr (by simp) (by simp) (by simp)) _ _
  case drawerLoaded => exact drawerLoadedReply_given h _ _
  case drawerUnloaded => exact drawerUnloadedReply_given h _ _
  case drawerServiceOut | drawerServiceIn => exact drawerServiceReply_given h _ _
  case setRecipe =>
    unfold setRecipeReply
    split
    · split
      · exact h
      split
      · exact h
      · exact h.congr rfl rfl rfl
    · exact h
  case setLevel =>
    unfold setLevelReply
    split
    · exact h
    · split
      · exact h
      · exact h.congr rfl rfl rfl
  case setLampRefValue | setLampRefMeasured =>
    have hset (ch : ChannelId) (v : Nat) : DrawersGiven (t.setLampRef ch v).1 := h.congr rfl rfl rfl
    unfold lampRefReply
    split
    · exact h
    · split
      · exact h
      split
      · exact h
      split
      · exact h
      split
      · exact hset ..
      · split
        · exact h
        · exact hset ..
  case claim | startBack | startMain => exact onUnit_keeps h (fun u => h.congr (by simp) (by simp) (by simp)) _
  case stop | resume | returnDocket =>
    exact onHolder_keeps h (fun u => h.congr (by simp) (by simp) (by simp)) (h.congr (by simp) (by simp) (by simp)) _
  all_goals exact h.congr (by simp) (by simp) (by simp)

theorem exec_event_given {c : Instr} {s t : State} (hx : takenOf s c = none) (h : DrawersGiven s) (ht : exec c s = .next t) :
    DrawersGiven t := by
  refine exec_event_keeps (fun _ _ hk h => h.congr hk.drawers (by rw [hk.working]) hk.dryQueue) hx h ht fun hw => ?_
  cases c <;> cases hw
  case reset => cases ht; exact .of_empty (by simp [State.afterReset_lineKept])
  case storeComplete =>
    obtain ⟨_, he⟩ | ⟨v, j, _, hv, he⟩ := exec_storeComplete_cases s <;>
      obtain rfl := Host.Outcome.next.inj (he.symm.trans ht)
    · exact h
    · have hp := LineKept.of_pass hv
      exact h.congr (by simp [hp.drawers]) (by simp [hp.working]) (by simp [hp.dryQueue])
  case overdueExpiry n =>
    obtain he | ⟨v, r, _, hv, he⟩ := exec_overdueExpiry_cases n s <;>
      obtain rfl := Host.Outcome.next.inj (he.symm.trans ht)
    · exact h
    · have hp := LineKept.of_pass hv
      exact h.congr (by simp [hp.drawers]) (by simp [hp.working]) (by simp [hp.dryQueue])
  case dryingExpiry d =>
    obtain he | ⟨v, n, timer, _, hv, he⟩ := exec_dryingExpiry_cases d s <;>
      obtain rfl := Host.Outcome.next.inj (he.symm.trans ht)
    · exact h
    · have hp := LineKept.of_pass hv
      exact h.setDrawer (i := d) (x := .dry n (overdryTimer v.working.line.overdryLimit v.now) false) (by simp) (by simp [hp.drawers]) (by simp [hp.working])
        (by simp [hp.dryQueue])
  case overdryExpiry d =>
    obtain he | ⟨v, n, timer, raised, _, hv, he⟩ := exec_overdryExpiry_cases d s <;>
      obtain rfl := Host.Outcome.next.inj (he.symm.trans ht)
    · exact h
    · have hp := LineKept.of_pass hv
      exact h.setDrawer (i := d) (x := .dry n none true) (by simp) (by simp [hp.drawers]) (by simp [hp.working])
        (by simp [hp.dryQueue])

end Sys2Proof.Machine
end

section
/-! SUPPORT. Docket numbers through every operation (R1, R3): what is not a REGISTER writes no number, and a REGISTER writes
one that no live docket carries. -/

namespace Sys2Proof.Machine

/-! ## The docket table by slots -/

/-- R1: a docket found stands in a slot under the number looked for. -/
theorem State.docket_slot {s : State} {n : Nat} {d : Docket} (h : s.docket n = some d) : ∃ i : Fin 48, s.slots[i] = some d := by
  obtain ⟨o, ho, hd⟩ := List.exists_of_findSome?_eq_some h
  obtain ⟨rfl, _⟩ := Option.filter_eq_some_iff.mp hd
  obtain ⟨i, hi, he⟩ := List.getElem_of_mem ho
  have hi' : i < 48 := by simpa using hi
  exact ⟨⟨i, hi'⟩, by simpa using he⟩

theorem State.docket_none_iff {s : State} {n : Nat} :
    s.docket n = none ↔ ∀ (i : Fin 48) (d : Docket), s.slots[i] = some d → d.number ≠ n := by
  constructor
  · intro h i d hd hn
    have hmem : some d ∈ s.slots.toList := by
      rw [← hd]
      simp
    have := (List.findSome?_eq_none_iff.mp h) _ hmem
    simp [Option.filter_some, hn] at this
  · intro h
    refine Option.eq_none_iff_forall_ne_some.mpr fun d hd => ?_
    obtain ⟨i, hi⟩ := State.docket_slot hd
    exact h i d hi (State.docket_number hd)

/-! ## The first unused number (R3) -/

/-- The `k`th number after `c`. -/
def laterNumber : Nat → Nat → Nat
  | 0, c => c
  | k + 1, c => laterNumber k (numberAfter c)

theorem laterNumber_succ (k c : Nat) : laterNumber (k + 1) c = numberAfter (laterNumber k c) := by
  induction k generalizing c with
  | zero => rfl
  | succ k ih => exact ih (numberAfter c)

theorem laterNumber_eq (c k : Nat) (hk : k ≤ 49) : laterNumber k c =
    if c < 9999 then (if c + k ≤ 9999 then c + k else c + k - 9999) else if k = 0 then c else k := by
  induction k with
  | zero => simp [laterNumber]; omega
  | succ k ih =>
    rw [laterNumber_succ, ih (by omega)]
    unfold numberAfter
    by_cases h1 : c < 9999
    · simp only [if_pos h1]
      by_cases h2 : c + k ≤ 9999
      · rw [if_pos h2]; (repeat' split) <;> omega
      · rw [if_neg h2]; (repeat' split) <;> omega
    · simp only [if_neg h1, if_neg (Nat.succ_ne_zero k)]
      by_cases h2 : k = 0
      · rw [if_pos h2]; (repeat' split) <;> omega
      · rw [if_neg h2]; (repeat' split) <;> omega

/-- 49 numbers after one another are all different. -/
theorem laterNumber_inj {c j k : Nat} (hj : j ≤ 48) (hk : k ≤ 48) (h : laterNumber j c = laterNumber k c) : j = k := by
  rw [laterNumber_eq c j (by omega), laterNumber_eq c k (by omega)] at h
  (repeat' split at h) <;> omega

/-- The numbers stepped past are live, and the number taken is one after them. -/
theorem State.firstUnused_spec (s : State) (fuel c : Nat) :
    ∃ k ≤ fuel, s.firstUnused fuel c = laterNumber k c ∧ (∀ j < k, (s.docket (laterNumber j c)).isSome = true) ∧
      (k = fuel ∨ s.docket (laterNumber k c) = none) := by
  induction fuel generalizing c with
  | zero => exact ⟨0, Nat.le_refl 0, rfl, by simp, .inl rfl⟩
  | succ fuel ih =>
    unfold State.firstUnused
    split
    · rename_i hlive
      obtain ⟨k, hk, he, hbefore, hlast⟩ := ih (numberAfter c)
      refine ⟨k + 1, by omega, he, fun j hj => ?_, hlast.imp (congrArg (· + 1)) id⟩
      cases j with
      | zero => exact hlive
      | succ j => exact hbefore j (by omega)
    · rename_i hfree
      exact ⟨0, by omega, rfl, by simp, .inr (by simpa [laterNumber] using hfree)⟩

/-- Of `n + 1` values below `n` two are equal. -/
theorem exists_equal_values (n : Nat) (f : Nat → Nat) (hf : ∀ k ≤ n, f k < n) :
    ∃ j k, j < k ∧ k ≤ n ∧ f j = f k := by
  induction n generalizing f with
  | zero => exact absurd (hf 0 (Nat.le_refl 0)) (Nat.not_lt_zero _)
  | succ n ih =>
    by_cases hlast : ∃ j ≤ n, f j = f (n + 1)
    · obtain ⟨j, hj, he⟩ := hlast
      exact ⟨j, n + 1, by omega, Nat.le_refl _, he⟩
    · have hne (j : Nat) (hj : j ≤ n) : f j ≠ f (n + 1) := fun he => hlast ⟨j, hj, he⟩
      -- the last value takes the place of the highest one among the others
      obtain ⟨j, k, hjk, hk, he⟩ := ih (fun k => if f k = n then f (n + 1) else f k) fun k hk => by
        have h1 := hf k (by omega)
        have h2 := hf (n + 1) (Nat.le_refl _)
        have h3 := hne k hk
        split <;> omega
      have hnj := hne j (by omega)
      have hnk := hne k hk
      refine ⟨j, k, hjk, by omega, ?_⟩
      (repeat' split at he) <;> omega

/-- R3: 48 slots cannot hold 49 numbers, so one of 49 is unused. -/
theorem State.exists_unused (s : State) (c : Nat) : ∃ k ≤ 48, s.docket (laterNumber k c) = none := by
  refine Classical.byContradiction fun hno => ?_
  have hslot (k : Nat) : ∃ i : Nat, k ≤ 48 → ∃ (hi : i < 48) (d : Docket), s.slots[i] = some d ∧ d.number = laterNumber k c := by
    by_cases hk : k ≤ 48
    · obtain ⟨d, hd⟩ := Option.ne_none_iff_exists'.mp fun hfree => hno ⟨k, hk, hfree⟩
      obtain ⟨i, hi⟩ := State.docket_slot hd
      exact ⟨i.val, fun _ => ⟨i.isLt, d, hi, State.docket_number hd⟩⟩
    · exact ⟨0, fun h => absurd h hk⟩
  obtain ⟨slot, hslot⟩ := Classical.axiomOfChoice hslot
  obtain ⟨j, k, hjk, hk, heq⟩ := exists_equal_values 48 slot fun k hk => (hslot k hk).1
  obtain ⟨hij, d, hd, hdn⟩ := hslot j (by omega)
  obtain ⟨hik, e, he, hen⟩ := hslot k hk
  have hde : d = e := by
    simp only [heq] at hd
    exact Option.some.inj (hd.symm.trans he)
  exact absurd (laterNumber_inj (by omega) hk (hdn.symm.trans (hde ▸ hen))) (Nat.ne_of_lt hjk)

/-- R3: the number assigned is unused, and every number from the next one on that it steps past is live. -/
theorem State.assignedNumber_unused (s : State) :
    s.docket s.assignedNumber = none ∧
    ∃ k ≤ 48, s.assignedNumber = laterNumber k s.nextNumber ∧
      ∀ j < k, (s.docket (laterNumber j s.nextNumber)).isSome = true := by
  obtain ⟨k, hk, he, hbefore, hlast⟩ := s.firstUnused_spec 49 s.nextNumber
  obtain ⟨m, hm, hfree⟩ := s.exists_unused s.nextNumber
  have hkm : k ≤ m := by
    refine Nat.not_lt.mp fun hlt => ?_
    have := hbefore m hlt
    simp [hfree] at this
  rw [State.assignedNumber, he]
  refine ⟨?_, k, by omega, rfl, hbefore⟩
  rcases hlast with hlast | hlast
  · omega
  · exact hlast

/-- R1: a docket of an unused number in a slot keeps live numbers unique. -/
theorem NumbersUnique.set {s t : State} (h : NumbersUnique s) {i : Fin 48} {d : Docket} (hd : s.docket d.number = none)
    (ht : t.slots = s.slots.set i (some d)) : NumbersUnique t := by
  have hother := State.docket_none_iff.mp hd
  intro j k a b ha hb hn
  simp only [ht, Fin.getElem_fin, Vector.getElem_set] at ha hb
  by_cases hj : i.val = j.val <;> by_cases hk : i.val = k.val
  · exact Fin.ext (hj.symm.trans hk)
  · rw [if_pos hj] at ha
    rw [if_neg hk] at hb
    cases ha
    exact absurd hn.symm (hother k b hb)
  · rw [if_neg hj] at ha
    rw [if_pos hk] at hb
    cases hb
    exact absurd hn (hother j a ha)
  · rw [if_neg hj] at ha
    rw [if_neg hk] at hb
    exact h j k a b ha hb hn

/-! ## The operations keep the numbers -/

theorem NumbersKept.refl (s : State) : NumbersKept s s := .same rfl

theorem NumbersKept.thenSame {s t u : State} (h : NumbersKept s t) (g : u.slots = t.slots) : NumbersKept s u :=
  h.trans (.same g)

theorem NumbersKept.updateDocket {s t : State} (h : NumbersKept s t) (n : Nat) {f : Docket → Docket}
    (hf : ∀ d, (f d).number = d.number := by intro d; rfl) : NumbersKept s (t.updateDocket n f) :=
  h.trans (t.updateDocket_numbersKept n f hf)

section
variable {s t : State} (h : NumbersKept s t)
include h

theorem NumbersKept.raise (p : Port) (k : NoticeKind) (n : Option Nat) : NumbersKept s (t.raise p k n) :=
  h.thenSame (by simp)

theorem NumbersKept.offerFor (e : CounterEvent) (a n : Nat) (w : Bool) : NumbersKept s (t.offerFor e a n w) :=
  h.thenSame (by simp)

theorem NumbersKept.setChan (c : ChannelId) (x : Channel) : NumbersKept s (t.setChan c x) := h.thenSame rfl

theorem NumbersKept.chanToTail (c : ChannelId) (e : LastEnd) : NumbersKept s (t.chanToTail c e) := h.thenSame rfl

theorem NumbersKept.setUnit (u : UnitId) (x : UnitRecord) : NumbersKept s (t.setUnit u x) := h.thenSame rfl

theorem NumbersKept.setFinisher (x : FinisherRecord) : NumbersKept s (t.setFinisher x) := h.thenSame rfl

theorem NumbersKept.setDrawers (x : Vector Drawer 8) : NumbersKept s (t.setDrawers x) := h.thenSame rfl

theorem NumbersKept.setDryQueue (q : List Nat) : NumbersKept s (t.setDryQueue q) := h.thenSame rfl

theorem NumbersKept.setWashQueue (q : List Nat) : NumbersKept s (t.setWashQueue q) := h.thenSame rfl

theorem NumbersKept.setExposurePool (q : List Nat) : NumbersKept s (t.setExposurePool q) := h.thenSame rfl

theorem NumbersKept.setFinishPool (q : List Nat) : NumbersKept s (t.setFinishPool q) := h.thenSame rfl

theorem NumbersKept.setBelt (b : List BeltRecord) (v : Option Nat) : NumbersKept s (t.setBelt b v) := h.thenSame rfl

theorem NumbersKept.setTpm (b : Bool) : NumbersKept s (t.setTpm b) := h.thenSame rfl

theorem NumbersKept.setPort (p : Port) (r : PortRecord) : NumbersKept s (t.setPort p r) := h.thenSame rfl

end

theorem foldl_numbersKept {β : Type} (f : State → β → State) (h : ∀ t x, NumbersKept t (f t x)) (l : List β) (s : State) :
    NumbersKept s (l.foldl f s) := by
  induction l generalizing s with
  | nil => exact .refl s
  | cons x l ih => exact (h s x).trans (ih _)

section
variable (s : State)

theorem State.updateRunDocket_numbersKept (r : RunDocket) {f : Docket → Docket} (hf : ∀ d, (f d).number = d.number) :
    NumbersKept s (s.updateRunDocket r f) := by
  unfold State.updateRunDocket
  split
  · exact s.updateDocket_numbersKept _ _ hf
  · exact .refl s

theorem State.joinWash_numbersKept (n : Nat) : NumbersKept s (s.joinWash n) := by
  have hjoin : NumbersKept s ((s.setWashQueue (s.joinClass s.washQueue n)).updateDocket n fun d =>
      { d with state := .washQueued, sub := .none }) := (NumbersKept.same (by simp)).updateDocket n fun _ => rfl
  unfold State.joinWash
  dsimp only
  split
  · exact hjoin.thenSame (by simp)
  · exact hjoin

theorem State.enterHeld_numbersKept (n : Nat) (r : HoldReason) (st : HoldStage) (l : HoldLocation) :
    NumbersKept s (s.enterHeld n r st l) :=
  (((NumbersKept.refl s).updateDocket n).raise _ _ _).offerFor _ _ _ _

theorem State.enterScrapped_numbersKept (n : Nat) : NumbersKept s (s.enterScrapped n) :=
  ((NumbersKept.refl s).updateDocket n).offerFor _ _ _ _

theorem State.flagBeltStopped_numbersKept : NumbersKept s s.flagBeltStopped := by
  unfold State.flagBeltStopped
  refine foldl_numbersKept _ (fun t r => ?_) _ s
  exact (NumbersKept.refl t).updateDocket r.docket

theorem State.updatePermit_numbersKept : NumbersKept s s.updatePermit := by
  unfold State.updatePermit
  split
  · exact .same rfl
  · split
    · exact ((NumbersKept.refl s).setTpm _).trans (State.flagBeltStopped_numbersKept _)
    · exact .same rfl

theorem State.giveDrawer_numbersKept (d : Fin 8) (n : Nat) : NumbersKept s (s.giveDrawer d n) :=
  ((((NumbersKept.refl s).setDrawers _).setDryQueue _).updateDocket n).raise _ _ _

theorem State.assignUpTo_numbersKept (k : Nat) : NumbersKept s (State.assignUpTo k s) := by
  induction k generalizing s with
  | zero => exact .refl s
  | succ k ih =>
    unfold State.assignUpTo
    split
    · exact (s.giveDrawer_numbersKept _ _).trans (ih _)
    · exact .refl s

theorem State.assignDrawers_numbersKept : NumbersKept s s.assignDrawers := s.assignUpTo_numbersKept 8

theorem State.joinDry_numbersKept (n : Nat) : NumbersKept s (s.joinDry n) := by
  unfold State.joinDry
  exact NumbersKept.trans (((NumbersKept.refl s).setDryQueue _).updateDocket n) (State.assignDrawers_numbersKept _)

theorem State.stageReached_numbersKept (u : UnitId) (n : Nat) (st : Stage) : NumbersKept s (s.stageReached u n st) := by
  cases st with
  | back =>
    exact (((NumbersKept.refl s).setUnit u _).updateDocket n).raise _ _ _
  | main =>
    exact ((((NumbersKept.refl s).setUnit u .vacant).trans (State.joinWash_numbersKept _ n)).raise _ _ _).offerFor
      _ _ _ _

theorem State.haltUnit_numbersKept (u : UnitId) (n : Nat) (st : Stage) (r : HoldReason) :
    NumbersKept s (s.haltUnit u n st r) :=
  (((NumbersKept.refl s).setUnit u (.halted n st r)).trans (State.enterHeld_numbersKept _ _ _ _ _)).raise _ _ _

theorem State.finishComplete_numbersKept (n : Nat) : NumbersKept s (s.finishComplete n) :=
  (((((NumbersKept.refl s).setFinisher .vacant).updateDocket n).raise _ _ _).raise _ _ _).offerFor _ _ _ _

theorem Docket.deliver_number (d : Docket) (c : ChannelId) (x : Nat) : (d.deliver c x).number = d.number := by
  cases c <;> rfl

theorem State.recordDose_numbersKept (c : ChannelId) (r : RunDocket) (x y : Nat) : NumbersKept s (s.recordDose c r x y) :=
  (s.updateRunDocket_numbersKept r fun d => d.deliver_number c x).thenSame (by simp [State.recordDose])

theorem State.startChannel_numbersKept (c : ChannelId) (d : Docket) (x y : Nat) : NumbersKept s (s.startChannel c d x y) := by
  unfold State.startChannel
  dsimp only
  split
  · exact ((NumbersKept.refl s).setChan _ _).trans (State.recordDose_numbersKept _ _ _ _ _)
  · exact .same rfl

theorem State.endTail_numbersKept (c : ChannelId) : NumbersKept s (s.endTail c) := by
  unfold State.endTail
  dsimp only
  split
  · split
    · exact (s.recordDose_numbersKept _ _ _ _).setChan _ _
    · exact (s.updateRunDocket_numbersKept _ fun d => (d.takePartial_kept c _).1).setChan _ _
    · exact (NumbersKept.refl s).setChan _ _
  · exact (NumbersKept.refl s).setChan _ _

theorem State.endTailIfZero_numbersKept (c : ChannelId) : NumbersKept s (s.endTailIfZero c) := by
  unfold State.endTailIfZero
  split
  · exact s.endTail_numbersKept c
  · exact .refl s

theorem State.finisherReached_numbersKept (n : Nat) (x y : Mark) (c : ChannelId) :
    NumbersKept s (s.finisherReached n x y c) := by
  unfold State.finisherReached
  dsimp only
  generalize (if c = .FC then Mark.reached else x) = a
  generalize (if c = .FA then Mark.reached else y) = b
  split
  · exact s.finishComplete_numbersKept n
  · exact .same rfl

theorem State.finisherHalt_numbersKept (n : Nat) (x y : Mark) (h : HoldReason) : NumbersKept s (s.finisherHalt n x y h) :=
  (((NumbersKept.refl s).setFinisher (.halted n x y h)).trans (State.enterHeld_numbersKept _ _ _ _ _)).raise _ _ _

theorem State.haltFinisher_numbersKept (n : Nat) (x y : Mark) (c : ChannelId) (r : AbortReason) (h : HoldReason) :
    NumbersKept s (s.haltFinisher n x y c r h) := by
  unfold State.haltFinisher
  dsimp only
  generalize (if c = .FC then y else x) = o
  split
  · exact (NumbersKept.trans ((NumbersKept.refl s).chanToTail _ _)
      (State.finisherHalt_numbersKept _ n x y h)).trans (State.endTailIfZero_numbersKept _ _)
  · exact s.finisherHalt_numbersKept n x y h

theorem State.reportReached_numbersKept (c : ChannelId) (n : Nat) : NumbersKept s (s.reportReached c n) := by
  unfold State.reportReached
  split
  · split
    · exact s.stageReached_numbersKept _ _ _
    · exact .refl s
  · split
    · split
      · exact s.finisherReached_numbersKept _ _ _ _
      · exact .refl s
    · exact .refl s

theorem State.reportAborted_numbersKept (c : ChannelId) (n : Nat) (r : AbortReason) :
    NumbersKept s (s.reportAborted c n r) := by
  unfold State.reportAborted
  split
  · exact .refl s
  · split
    · split
      · exact s.haltUnit_numbersKept _ _ _ _
      · exact .refl s
    · split
      · split
        · exact s.haltFinisher_numbersKept _ _ _ _ _ _
        · exact .refl s
      · exact .refl s

theorem State.reachRun_numbersKept (c : ChannelId) : NumbersKept s (s.reachRun c) :=
  (NumbersKept.trans ((NumbersKept.refl s).chanToTail _ _) (State.reportReached_numbersKept _ _ _)).trans
    (State.endTailIfZero_numbersKept _ _)

theorem State.abortRun_numbersKept (c : ChannelId) (r : AbortReason) : NumbersKept s (s.abortRun c r) := by
  unfold State.abortRun
  split
  · exact (NumbersKept.trans ((NumbersKept.refl s).chanToTail _ _) (State.reportAborted_numbersKept _ _ _ _)).trans
      (State.endTailIfZero_numbersKept _ _)
  · exact .refl s

theorem State.abortAll_numbersKept (cs : List ChannelId) (r : AbortReason) : NumbersKept s (s.abortAll cs r) :=
  foldl_numbersKept _ (fun t c => t.abortRun_numbersKept c r) cs s

theorem State.abortUnit_numbersKept (u : UnitId) (r : AbortReason) : NumbersKept s (s.abortUnit u r) := by
  unfold State.abortUnit
  split
  · exact s.abortRun_numbersKept _ _
  · exact .refl s

theorem State.abortFinisher_numbersKept (r : AbortReason) : NumbersKept s (s.abortFinisher r) := by
  unfold State.abortFinisher
  split
  · exact s.abortAll_numbersKept _ _
  · exact .refl s

theorem State.enterLost_numbersKept (p : Port) : NumbersKept s (s.enterLost p) := by
  have hraised : NumbersKept s ((s.setPort p { s.port p with state := .lost }).raiseSilent p) := .same (by simp)
  unfold State.enterLost
  dsimp only
  split
  · exact hraised
  · exact hraised.trans (State.abortUnit_numbersKept _ _ _)
  · exact hraised.trans (State.abortUnit_numbersKept _ _ _)
  · exact hraised.trans (State.abortFinisher_numbersKept _ _)
  · exact hraised.trans (State.updatePermit_numbersKept _)

theorem State.checkSilence_numbersKept : NumbersKept s s.checkSilence := by
  refine foldl_numbersKept _ (fun t p => ?_) _ s
  split
  · split
    · exact t.enterLost_numbersKept p
    · exact .refl t
  · exact .refl t

theorem State.onlineEntry_numbersKept (p : Port) : NumbersKept s (s.onlineEntry p) := by
  unfold State.onlineEntry
  dsimp only
  split
  · exact ((NumbersKept.refl s).setPort _ _).trans (State.updatePermit_numbersKept _)
  · exact .same rfl

theorem State.cancelHolder_numbersKept (n : Nat) : NumbersKept s (s.cancelHolder n) := by
  have hunit (u : UnitId) : NumbersKept s (s.cancelAtUnit u n) := by
    have hscrap : NumbersKept s ((s.setUnit u .vacant).enterScrapped n) :=
      ((NumbersKept.refl s).setUnit u .vacant).trans (State.enterScrapped_numbersKept _ _)
    unfold State.cancelAtUnit
    dsimp only
    split
    · exact hscrap.trans (State.abortRun_numbersKept _ _ _)
    · exact hscrap
  have hfin : NumbersKept s (s.cancelAtFinisher n) := by
    have hscrap : NumbersKept s ((s.setFinisher .vacant).enterScrapped n) :=
      ((NumbersKept.refl s).setFinisher .vacant).trans (State.enterScrapped_numbersKept _ _)
    unfold State.cancelAtFinisher
    dsimp only
    split
    · exact hscrap.trans (State.abortAll_numbersKept _ _ _)
    · exact hscrap
  unfold State.cancelHolder
  split
  · exact hunit .A
  split
  · exact hunit .B
  split
  · exact hfin
  · exact s.enterScrapped_numbersKept n

theorem State.markScrap_numbersKept (n : Nat) (m : ScrapMark) : NumbersKept s (s.markScrap n m) :=
  (NumbersKept.refl s).updateDocket n

theorem State.cancelAtDryer_numbersKept (n : Nat) (drawer : Option (Fin 8)) : NumbersKept s (s.cancelAtDryer n drawer) := by
  unfold State.cancelAtDryer
  split
  · split
    · exact (((NumbersKept.refl s).setDrawers _).trans (State.enterScrapped_numbersKept _ _)).trans
        (State.assignDrawers_numbersKept _)
    · exact s.markScrap_numbersKept _ _
  · exact s.markScrap_numbersKept _ _

theorem State.cancelDocket_numbersKept (d : Docket) : NumbersKept s (s.cancelDocket d) := by
  unfold State.cancelDocket
  dsimp only
  split
  · exact ((NumbersKept.refl s).setExposurePool _).trans (State.enterScrapped_numbersKept _ _)
  · exact ((NumbersKept.refl s).setWashQueue _).trans (State.enterScrapped_numbersKept _ _)
  · exact ((NumbersKept.refl s).setDryQueue _).trans (State.enterScrapped_numbersKept _ _)
  · exact ((NumbersKept.refl s).setFinishPool _).trans (State.enterScrapped_numbersKept _ _)
  · exact s.cancelHolder_numbersKept _
  · exact s.cancelHolder_numbersKept _
  · exact s.cancelHolder_numbersKept _
  · exact s.markScrap_numbersKept _ _
  · exact s.cancelAtDryer_numbersKept _ _
  · exact .refl s
  · exact .refl s

theorem State.finishRun_numbersKept (n : Nat) (c a : Mark) : NumbersKept s (s.finishRun n c a) := by
  unfold State.finishRun
  split
  · exact s.finishComplete_numbersKept n
  · exact ((NumbersKept.refl s).setFinisher _).updateDocket n

theorem State.resumeFinish_numbersKept (c : ChannelId) (m : Mark) (d : Docket) : NumbersKept s (s.resumeFinish c m d) := by
  unfold State.resumeFinish
  split
  · exact s.startChannel_numbersKept _ _ _ _
  · exact .refl s

theorem State.unloadDocket_numbersKept (n : Nat) (mark : Option ScrapMark) : NumbersKept s (s.unloadDocket n mark) := by
  have hoff : NumbersKept s (s.updateDocket n fun x => { x with drawer := none }) :=
    (NumbersKept.refl s).updateDocket n
  unfold State.unloadDocket
  dsimp only
  split
  · exact hoff.trans (State.enterScrapped_numbersKept _ _)
  · have hcount (t : State) (k : Nat) : NumbersKept t { t with nextOrder := k } := .same rfl
    exact ((hoff.updateDocket n).setFinishPool _).trans (hcount _ _)

theorem State.vacateDrawer_numbersKept (i : Fin 8) : NumbersKept s (s.vacateDrawer i) := by
  unfold State.vacateDrawer
  split
  · exact .same rfl
  · exact ((NumbersKept.refl s).setDrawers _).trans (State.assignDrawers_numbersKept _)

theorem State.passOver_numbersKept (ns : List Nat) : NumbersKept s (s.passOver ns) :=
  foldl_numbersKept _ (fun t n => ((NumbersKept.refl t).updateDocket n).offerFor _ _ _ _) ns s

theorem State.feedDocket_numbersKept (d : Docket) (v : Nat) : NumbersKept s (s.feedDocket d v) := by
  unfold State.feedDocket
  exact ((((NumbersKept.refl s).setWashQueue _).setBelt _ _).updateDocket _).offerFor _ _ _ _

theorem State.exitBelt_numbersKept (d : Docket) (p : WashPass) : NumbersKept s (s.exitBelt d p) := by
  have hadd (t : State) (m : Nat) : NumbersKept t (t.addMass d m) := .same (by simp [State.addMass])
  have hpass (x : Docket) : (x.updateNewest fun _ => s.passAtExit d p).number = x.number := rfl
  unfold State.exitBelt
  dsimp only
  refine NumbersKept.trans (NumbersKept.offerFor (NumbersKept.updateDocket ((NumbersKept.refl s).setBelt _ _) _ ?_) _ _ _ _)
    (hadd _ _)
  exact fun x => hpass x

theorem State.disposeExit_numbersKept (d : Docket) (p : WashPass) : NumbersKept s (s.disposeExit d p) := by
  unfold State.disposeExit
  split
  · exact s.enterScrapped_numbersKept _
  · split
    · exact s.enterHeld_numbersKept _ _ _ _
    · exact s.joinDry_numbersKept _

theorem State.handOff_numbersKept (i : LineItem) : NumbersKept s (s.handOff i) := by
  cases i
  case drawers => exact s.assignDrawers_numbersKept
  case transportFailsafe => exact s.updatePermit_numbersKept
  case silenceLimit => exact s.checkSilence_numbersKept
  all_goals exact .same (by simp [State.handOff])

theorem State.handOnRecall_numbersKept (old : WorkingCopy) : NumbersKept s (s.handOnRecall old) := by
  unfold State.handOnRecall
  dsimp only
  have h1 : NumbersKept s (if s.working.line.drawers ≠ old.line.drawers then s.assignDrawers else s) := by
    split
    · exact s.assignDrawers_numbersKept
    · exact .refl s
  generalize (if s.working.line.drawers ≠ old.line.drawers then s.assignDrawers else s) = t1 at h1 ⊢
  have h2 (b : Prop) [Decidable b] : NumbersKept s (if b then t1.recomputeBath t1.bath else t1) := by
    split
    · exact h1.thenSame (by simp)
    · exact h1
  have h3 (b : Prop) [Decidable b] {t : State} (h : NumbersKept s t) : NumbersKept s (if b then t.updatePermit else t) := by
    split
    · exact h.trans (State.updatePermit_numbersKept _)
    · exact h
  have h4 (b : Prop) [Decidable b] {t : State} (h : NumbersKept s t) : NumbersKept s (if b then t.checkSilence else t) := by
    split
    · exact h.trans (State.checkSilence_numbersKept _)
    · exact h
  split
  · exact (h4 _ (h3 _ (h2 _))).thenSame rfl
  · exact h4 _ (h3 _ (h2 _))

end

end Sys2Proof.Machine
end

section
/-! SUPPORT. Unique numbers (R1), routed notices (R165) and the clock (R184) through every owning rule and every event. -/

namespace Sys2Proof.Machine

/-! ## The owning rules that write no docket, unit or finisher -/

@[simp] theorem setRecipeReply_rest (index valid : Nat) (name : List Byte) (x : Snapshot) (s : State) :
    (setRecipeReply index valid name x s).1.slots = s.slots ∧
    (setRecipeReply index valid name x s).1.channels = s.channels ∧
    (setRecipeReply index valid name x s).1.units = s.units ∧
    (setRecipeReply index valid name x s).1.finisher = s.finisher ∧
    (setRecipeReply index valid name x s).1.ports = s.ports := by
  unfold setRecipeReply
  (repeat' split) <;> simp [refuse]

@[simp] theorem setLevelReply_rest (kind level : Nat) (s : State) :
    (setLevelReply kind level s).1.slots = s.slots ∧ (setLevelReply kind level s).1.channels = s.channels ∧
    (setLevelReply kind level s).1.units = s.units ∧ (setLevelReply kind level s).1.finisher = s.finisher := by
  unfold setLevelReply
  split
  · simp [refuse]
  · split
    · simp [refuse]
    · exact ⟨rfl, rfl, rfl, rfl⟩

@[simp] theorem storeReply_rest (skey : Bool) (s : State) :
    (storeReply skey s).1.slots = s.slots ∧ (storeReply skey s).1.channels = s.channels ∧
    (storeReply skey s).1.units = s.units ∧ (storeReply skey s).1.finisher = s.finisher ∧
    (storeReply skey s).1.ports = s.ports := by
  unfold storeReply
  (repeat' split) <;> simp [refuse]

@[simp] theorem clearChannelReply_rest (p : Port) (code : Nat) (s : State) :
    (clearChannelReply p code s).1.slots = s.slots ∧ (clearChannelReply p code s).1.units = s.units ∧
    (clearChannelReply p code s).1.finisher = s.finisher ∧ (clearChannelReply p code s).1.ports = s.ports := by
  unfold clearChannelReply
  split
  · simp [refuse]
  · (repeat' split) <;> simp [refuse]

@[simp] theorem lampRefReply_rest (p : Port) (code form value : Nat) (s : State) :
    (lampRefReply p code form value s).1.slots = s.slots ∧
    (lampRefReply p code form value s).1.channels = s.channels ∧
    (lampRefReply p code form value s).1.units = s.units ∧
    (lampRefReply p code form value s).1.finisher = s.finisher ∧
    (lampRefReply p code form value s).1.ports = s.ports := by
  unfold lampRefReply
  split
  · simp [refuse]
  · split
    · simp [refuse]
    split
    · simp [refuse]
    split
    · simp [refuse]
    split
    · simp [State.setLampRef]
    · split <;> simp [refuse, State.setLampRef]

@[simp] theorem reportBathReply_rest (load volume : Nat) (s : State) :
    (reportBathReply load volume s).1.slots = s.slots ∧ (reportBathReply load volume s).1.channels = s.channels ∧
    (reportBathReply load volume s).1.units = s.units ∧ (reportBathReply load volume s).1.finisher = s.finisher := by
  simp [reportBathReply]

@[simp] theorem replenishReply_rest (drained added : Nat) (s : State) :
    (replenishReply drained added s).1.slots = s.slots ∧ (replenishReply drained added s).1.channels = s.channels ∧
    (replenishReply drained added s).1.units = s.units ∧
    (replenishReply drained added s).1.finisher = s.finisher := by
  unfold replenishReply
  split <;> simp [refuse]

@[simp] theorem statusReply_rest (p : Port) (prior : PortState) (s : State) :
    (statusReply p prior s).1.slots = s.slots ∧ (statusReply p prior s).1.channels = s.channels ∧
    (statusReply p prior s).1.units = s.units ∧ (statusReply p prior s).1.finisher = s.finisher := by
  simp [statusReply]

@[simp] theorem ackReply_rest (p : Port) (s : State) :
    (ackReply p s).1.slots = s.slots ∧ (ackReply p s).1.channels = s.channels ∧ (ackReply p s).1.units = s.units ∧
    (ackReply p s).1.finisher = s.finisher := by
  unfold ackReply
  dsimp only
  split <;> simp

@[simp] theorem setThresholdReply_rest (p : Port) (v : Nat) (s : State) :
    (setThresholdReply p v s).1.slots = s.slots ∧ (setThresholdReply p v s).1.channels = s.channels ∧
    (setThresholdReply p v s).1.units = s.units ∧ (setThresholdReply p v s).1.finisher = s.finisher := by
  simp [setThresholdReply]

@[simp] theorem setCounterReply_rest (k event recipe cls unit : Nat) (s : State) :
    (setCounterReply k event recipe cls unit s).1.slots = s.slots ∧
    (setCounterReply k event recipe cls unit s).1.channels = s.channels ∧
    (setCounterReply k event recipe cls unit s).1.units = s.units ∧
    (setCounterReply k event recipe cls unit s).1.finisher = s.finisher ∧
    (setCounterReply k event recipe cls unit s).1.ports = s.ports := by
  unfold setCounterReply
  split
  · split <;> simp [refuse]
  · simp [refuse]

@[simp] theorem clearCountersReply_rest (s : State) :
    (clearCountersReply s).1.slots = s.slots ∧ (clearCountersReply s).1.channels = s.channels ∧
    (clearCountersReply s).1.units = s.units ∧ (clearCountersReply s).1.finisher = s.finisher ∧
    (clearCountersReply s).1.ports = s.ports := by
  simp [clearCountersReply]

/-! ## Numbers through the owning rules -/

section
variable (s : State)

theorem State.registerDocket_slots (i : Fin 48) (d : Docket) : (s.registerDocket i d).slots = s.slots.set i (some d) := by
  unfold State.registerDocket
  dsimp only
  split <;> simp

/-- R3, R13: a REGISTER keeps live numbers unique. -/
theorem registerReply_numbers {s : State} (h : NumbersUnique s) (recipe area coverage pref cls : Nat) :
    NumbersUnique (registerReply recipe area coverage pref cls s).1 := by
  unfold registerReply
  split
  · split
    · split
      · exact h
      split
      · exact h
      · split
        · exact h
        · exact h.set s.assignedNumber_unused.1 (s.registerDocket_slots _ _)
    · exact h
  · exact h

theorem cancelReply_numbersKept (n : Nat) : NumbersKept s (cancelReply n s).1 := by
  unfold cancelReply
  split
  · exact .refl s
  · split
    · exact .refl s
    · exact s.cancelDocket_numbersKept _

theorem releaseReply_numbersKept (n form : Nat) : NumbersKept s (releaseReply n form s).1 := by
  unfold releaseReply
  split
  · exact .refl s
  · split
    · exact .refl s
    · split
      · exact .refl s
      split
      · exact ((NumbersKept.refl s).updateDocket n).trans (State.joinDry_numbersKept _ _)
      split
      · exact .refl s
      · exact ((NumbersKept.refl s).updateDocket n).trans (State.joinWash_numbersKept _ _)

theorem retireReply_numbersKept (n : Nat) : NumbersKept s (retireReply n s).1 := by
  unfold retireReply
  split
  · exact .refl s
  · split
    · exact .refl s
    · exact s.freeSlotOf_numbersKept n

theorem lineClearReply_numbersKept : NumbersKept s (lineClearReply s).1 := by
  intro i e he
  have : (Vector.replicate 48 (none : Option Docket))[i] = some e := he
  simp at this

theorem setSettingReply_numbersKept (item channel value : Nat) : NumbersKept s (setSettingReply item channel value s).1 := by
  have hset (w : WorkingCopy) : NumbersKept s (s.setWorking w) := .same rfl
  unfold setSettingReply
  split
  · split
    · exact .refl s
    · exact (hset _).trans (State.handOff_numbersKept _ _)
  · split
    · exact .refl s
    · exact hset _
  · exact .refl s

theorem recallReply_numbersKept : NumbersKept s (recallReply s).1 := by
  have hset (w : WorkingCopy) : NumbersKept s (s.setWorking w) := .same rfl
  have hstore (t : State) (x : Store) : NumbersKept t (t.setStore x) := .same rfl
  unfold recallReply
  split
  · exact .refl s
  · split
    · exact (hset _).trans (State.handOnRecall_numbersKept _ _)
    · exact (((hset _).trans (hstore _ _)).raise _ _ _).trans (State.handOnRecall_numbersKept _ _)

theorem claimReply_numbersKept (n : Nat) (u : UnitId) : NumbersKept s (claimReply n u s).1 := by
  unfold claimReply
  split
  · exact .refl s
  · split
    · exact .refl s
    · split
      · exact .refl s
      split
      · exact .refl s
      split
      · exact .refl s
      · exact (((NumbersKept.refl s).setExposurePool _).setUnit _ _).updateDocket n

theorem startStageReply_numbersKept (st : Stage) (n : Nat) (u : UnitId) : NumbersKept s (startStageReply st n u s).1 := by
  unfold startStageReply
  split
  · exact .refl s
  · split
    · exact .refl s
    · split
      · exact .refl s
      · split
        · exact .refl s
        · dsimp only
          split
          · exact (s.startChannel_numbersKept _ _ _ _).trans (State.stageReached_numbersKept _ _ _ _)
          · exact ((s.startChannel_numbersKept _ _ _ _).setUnit _ _).updateDocket n

theorem unitStopReply_numbersKept (n : Nat) (u : UnitId) : NumbersKept s (unitStopReply n u s).1 := by
  unfold unitStopReply
  split
  · exact .refl s
  · split
    · exact .refl s
    · split
      · exact s.abortUnit_numbersKept _ _
      · exact .refl s

theorem unitResumeReply_numbersKept (n : Nat) (u : UnitId) : NumbersKept s (unitResumeReply n u s).1 := by
  unfold unitResumeReply
  split
  · exact .refl s
  · split
    · exact .refl s
    · split
      · dsimp only
        split
        · exact .refl s
        · split
          · exact ((s.startChannel_numbersKept _ _ _ _).updateDocket n).trans (State.stageReached_numbersKept _ _ _ _)
          · exact (((s.startChannel_numbersKept _ _ _ _).updateDocket n).setUnit _ _).updateDocket n
      · exact .refl s

theorem unitReturnReply_numbersKept (n : Nat) (u : UnitId) : NumbersKept s (unitReturnReply n u s).1 := by
  unfold unitReturnReply
  split
  · exact .refl s
  · split
    · exact .refl s
    split
    · exact .refl s
    · exact (((NumbersKept.refl s).setUnit _ _).setExposurePool _).updateDocket n

theorem feedReply_numbersKept : NumbersKept s (feedReply s).1 := by
  have hrefused : NumbersKept s s.offerRefused := by
    unfold State.offerRefused
    split
    · exact (NumbersKept.refl s).offerFor _ _ _ _
    · exact .same (by simp)
  unfold feedReply
  split
  · exact .refl s
  · split
    · exact .refl s
    split
    · exact hrefused
    split
    · exact .refl s
    · split
      · exact hrefused
      · split
        · exact hrefused
        · rename_i c _ _ d _
          dsimp only
          exact (s.passOver_numbersKept c.passed).trans (State.feedDocket_numbersKept _ d c.speed)

theorem exitReply_numbersKept (n : Nat) : NumbersKept s (exitReply n s).1 := by
  unfold exitReply
  split
  · exact .refl s
  · split
    · exact .refl s
    split
    · exact .refl s
    · split
      · exact .refl s
      · exact (s.exitBelt_numbersKept _ _).trans (State.disposeExit_numbersKept _ _ _)

theorem drawerLoadedReply_numbersKept (d n : Nat) : NumbersKept s (drawerLoadedReply d n s).1 := by
  unfold drawerLoadedReply
  split
  · exact .refl s
  · split
    · exact .refl s
    · split
      · split
        · exact .refl s
        · refine NumbersKept.updateDocket ?_ n ?_
          · exact (NumbersKept.refl s).setDrawers _
          · exact fun _ => rfl
      · exact .refl s

theorem unloadReply_numbersKept (i : Fin 8) (n k : Nat) (short : Bool) : NumbersKept s (unloadReply i n k short s).1 := by
  unfold unloadReply
  dsimp only
  exact (((NumbersKept.refl s).updateDocket n).trans (State.unloadDocket_numbersKept _ _ _)).trans
    (State.vacateDrawer_numbersKept _ _)

theorem drawerUnloadedReply_numbersKept (d force : Nat) : NumbersKept s (drawerUnloadedReply d force s).1 := by
  unfold drawerUnloadedReply
  split
  · exact .refl s
  · split
    · exact .refl s
    · split
      · exact unloadReply_numbersKept s _ _ _ _
      · split
        · exact .refl s
        · exact unloadReply_numbersKept s _ _ _ _
      · exact .refl s

theorem drawerServiceReply_numbersKept (d dir : Nat) : NumbersKept s (drawerServiceReply d dir s).1 := by
  unfold drawerServiceReply
  split
  · exact .refl s
  · split
    · split
      · exact (NumbersKept.refl s).setDrawers _
      · exact .refl s
    split
    · split
      · exact ((NumbersKept.refl s).setDrawers _).trans (State.assignDrawers_numbersKept _)
      · exact .refl s
    · exact .refl s

theorem claimFinishReply_numbersKept (n : Nat) : NumbersKept s (claimFinishReply n s).1 := by
  unfold claimFinishReply
  split
  · exact .refl s
  · split
    · exact .refl s
    · split
      · exact .refl s
      · exact (((NumbersKept.refl s).setFinishPool _).setFinisher _).updateDocket n

theorem startFinishReply_numbersKept (n : Nat) : NumbersKept s (startFinishReply n s).1 := by
  unfold startFinishReply
  split
  · exact .refl s
  · split
    · exact .refl s
    split
    · exact .refl s
    · split
      · exact .refl s
      · exact ((s.startChannel_numbersKept _ _ _ _).trans (State.startChannel_numbersKept _ _ _ _ _)).trans
          (State.finishRun_numbersKept _ _ _ _)

theorem finisherStopReply_numbersKept (n : Nat) : NumbersKept s (finisherStopReply n s).1 := by
  unfold finisherStopReply
  split
  · exact .refl s
  · split
    · exact .refl s
    · split
      · exact s.abortFinisher_numbersKept _
      · exact .refl s

theorem finisherResumeReply_numbersKept (n : Nat) : NumbersKept s (finisherResumeReply n s).1 := by
  unfold finisherResumeReply
  split
  · exact .refl s
  · split
    · exact .refl s
    · split
      · split
        · exact .refl s
        · exact (((s.resumeFinish_numbersKept _ _ _).trans (State.resumeFinish_numbersKept _ _ _ _)).updateDocket n).trans
            (State.finishRun_numbersKept _ _ _ _)
      · exact .refl s

theorem finisherReturnReply_numbersKept (n : Nat) : NumbersKept s (finisherReturnReply n s).1 := by
  unfold finisherReturnReply
  split
  · exact .refl s
  · split
    · exact .refl s
    split
    · exact .refl s
    · exact (((NumbersKept.refl s).setFinisher _).setFinishPool _).updateDocket n

end

theorem takenOf_numbers {c : Instr} {s t : State} {x : Taken} (hx : takenOf s c = some x) (h : NumbersUnique t) :
    NumbersUnique (x.owner t).1 := by
  refine takenOf_keeps hx h fun hread => ?_
  cases c <;> cases hread <;> cases hx <;> dsimp only
  case register => exact registerReply_numbers h _ _ _ _ _
  case cancel => exact (cancelReply_numbersKept t _).unique h
  case releasePass | releaseRewash => exact (releaseReply_numbersKept t _ _).unique h
  case retire => exact (retireReply_numbersKept t _).unique h
  case lineClear => exact (lineClearReply_numbersKept t).unique h
  case setSetting => exact (setSettingReply_numbersKept t _ _ _).unique h
  case recall.refl => exact (recallReply_numbersKept t).unique h
  case claim => exact onUnit_keeps h (fun u => (claimReply_numbersKept t _ u).unique h) _
  case startBack | startMain => exact onUnit_keeps h (fun u => (startStageReply_numbersKept t _ _ u).unique h) _
  case stop =>
    exact onHolder_keeps h (fun u => (unitStopReply_numbersKept t _ u).unique h)
      ((finisherStopReply_numbersKept t _).unique h) _
  case resume =>
    exact onHolder_keeps h (fun u => (unitResumeReply_numbersKept t _ u).unique h)
      ((finisherResumeReply_numbersKept t _).unique h) _
  case returnDocket =>
    exact onHolder_keeps h (fun u => (unitReturnReply_numbersKept t _ u).unique h)
      ((finisherReturnReply_numbersKept t _).unique h) _
  case feed => exact (feedReply_numbersKept t).unique h
  case exit => exact (exitReply_numbersKept t _).unique h
  case drawerLoaded => exact (drawerLoadedReply_numbersKept t _ _).unique h
  case drawerUnloaded => exact (drawerUnloadedReply_numbersKept t _ _).unique h
  case drawerServiceOut | drawerServiceIn => exact (drawerServiceReply_numbersKept t _ _).unique h
  case claimFinish => exact (claimFinishReply_numbersKept t _).unique h
  case startFinish => exact (startFinishReply_numbersKept t _).unique h
  case finisherStop => exact (finisherStopReply_numbersKept t _).unique h
  case finisherResume => exact (finisherResumeReply_numbersKept t _).unique h
  case finisherReturn => exact (finisherReturnReply_numbersKept t _).unique h
  all_goals exact (NumbersKept.same (by simp)).unique h

end Sys2Proof.Machine
end

section
/-! SUPPORT. Unique numbers (R1), routed notices (R165) and the clock (R184) through every event. -/

namespace Sys2Proof.Machine

theorem NumbersKept.of_pass {s v : State} {ms : Nat} (h : v = s.pass ms) : NumbersKept s v := .same (by rw [h]; simp)

theorem NumbersKept.of_passMicros {s v : State} {us : Nat} (h : v = s.passMicros us) : NumbersKept s v :=
  .same (by rw [h]; simp)

theorem NumbersKept.updateRunDocket {s t : State} (h : NumbersKept s t) (r : RunDocket) {f : Docket → Docket}
    (hf : ∀ d, (f d).number = d.number := by intro d; rfl) : NumbersKept s (t.updateRunDocket r f) :=
  h.trans (t.updateRunDocket_numbersKept r hf)

theorem exec_event_numbers {c : Instr} {s t : State} (hx : takenOf s c = none) (h : NumbersUnique s)
    (ht : exec c s = .next t) : NumbersUnique t := by
  refine NumbersKept.unique ?_ h
  have hline (b : Bool) : NumbersKept s { s with sstop := b } := .same rfl
  cases c <;> cases hx
  case reset =>
    cases ht
    intro i e he
    simp [State.afterReset_lineKept] at he
  case sstopAsserted =>
    cases ht
    unfold State.stopShop
    exact ((hline true).trans (State.abortAll_numbersKept _ _ _)).trans (State.updatePermit_numbersKept _)
  case sstopReleased =>
    cases ht
    exact (hline false).trans (State.updatePermit_numbersKept _)
  case sensorPulse ch =>
    cases ht
    dsimp only
    split
    · split
      · exact (((NumbersKept.refl s).setChan _ _).setChan _ _).trans (State.reachRun_numbersKept _ _)
      · exact ((NumbersKept.refl s).setChan _ _).setChan _ _
    · exact ((NumbersKept.refl s).setChan _ _).setChan _ _
    · exact .same (by simp)
    · exact ((NumbersKept.refl s).setChan _ _).setChan _ _
  case graceEnd ch =>
    obtain ⟨_, he⟩ | ⟨v, _, _, hv, he⟩ := exec_graceEnd_cases ch s <;>
      obtain rfl := Host.Outcome.next.inj (he.symm.trans ht)
    · exact .refl s
    · exact (NumbersKept.of_pass hv).setChan _ _
  case windowEnd ch =>
    obtain he | ⟨v, w, c, _, _, hv, _, ⟨r, _, _, he⟩ | ⟨_, he⟩⟩ := exec_windowEnd_cases ch s <;>
      obtain rfl := Host.Outcome.next.inj (he.symm.trans ht)
    · exact .refl s
    · exact ((((NumbersKept.of_pass hv).setChan _ _).updateRunDocket r).raise _ _ _).raise _ _ _
    · exact (NumbersKept.of_pass hv).setChan _ _
  case dimWatchExpiry ch =>
    obtain he | ⟨v, f, c, _, _, hv, _, ⟨r, _, _, he⟩ | ⟨_, he⟩⟩ := exec_dimWatchExpiry_cases ch s <;>
      obtain rfl := Host.Outcome.next.inj (he.symm.trans ht)
    · exact .refl s
    · exact (((NumbersKept.of_passMicros hv).setChan _ _).updateRunDocket r).raise _ _ _
    · exact (NumbersKept.of_passMicros hv).setChan _ _
  case deadWatchExpiry ch =>
    obtain he | ⟨v, f, _, _, hv, he⟩ := exec_deadWatchExpiry_cases ch s <;>
      obtain rfl := Host.Outcome.next.inj (he.symm.trans ht)
    · exact .refl s
    · exact (NumbersKept.of_pass hv).trans (State.abortRun_numbersKept _ _ _)
  case overtimeExpiry ch =>
    obtain he | ⟨v, l, _, _, hv, he⟩ := exec_overtimeExpiry_cases ch s <;>
      obtain rfl := Host.Outcome.next.inj (he.symm.trans ht)
    · exact .refl s
    · exact (NumbersKept.of_pass hv).trans (State.abortRun_numbersKept _ _ _)
  case tailExpiry ch =>
    obtain he | ⟨v, f, _, _, hv, he⟩ := exec_tailExpiry_cases ch s <;>
      obtain rfl := Host.Outcome.next.inj (he.symm.trans ht)
    · exact .refl s
    · exact (NumbersKept.of_pass hv).trans (State.endTail_numbersKept _ _)
  case lineSecond => cases ht; exact .of_pass rfl
  case storeComplete =>
    obtain ⟨_, he⟩ | ⟨v, j, _, hv, he⟩ := exec_storeComplete_cases s <;>
      obtain rfl := Host.Outcome.next.inj (he.symm.trans ht)
    · exact .refl s
    · exact (NumbersKept.of_pass hv).thenSame (by simp)
  case overdueExpiry n =>
    obtain he | ⟨v, r, _, hv, he⟩ := exec_overdueExpiry_cases n s <;>
      obtain rfl := Host.Outcome.next.inj (he.symm.trans ht)
    · exact .refl s
    · exact ((((NumbersKept.of_pass hv).setBelt _ _).updateDocket n).raise _ _ _).raise _ _ _
  case dryingExpiry d =>
    obtain he | ⟨v, n, timer, _, hv, he⟩ := exec_dryingExpiry_cases d s <;>
      obtain rfl := Host.Outcome.next.inj (he.symm.trans ht)
    · exact .refl s
    · exact ((((NumbersKept.of_pass hv).setDrawers _).updateDocket n).raise _ _ _).offerFor _ _ _ _
  case overdryExpiry d =>
    obtain he | ⟨v, n, timer, raised, _, hv, he⟩ := exec_overdryExpiry_cases d s <;>
      obtain rfl := Host.Outcome.next.inj (he.symm.trans ht)
    · exact .refl s
    · exact ((((NumbersKept.of_pass hv).setDrawers _).updateDocket n).raise _ _ _).raise _ _ _
  case portLost p =>
    obtain he | ⟨v, h, _, _, hv, he⟩ := exec_portLost_cases p s <;>
      obtain rfl := Host.Outcome.next.inj (he.symm.trans ht)
    · exact .refl s
    · exact (NumbersKept.of_pass hv).trans (State.enterLost_numbersKept _ _)
  case byteGapTimeout p b =>
    obtain he | ⟨v, f, _, hv, he⟩ := exec_byteGapTimeout_cases p b s <;>
      obtain rfl := Host.Outcome.next.inj (he.symm.trans ht)
    · exact .refl s
    · exact (NumbersKept.of_pass hv).setPort _ _
  case missingStopBit => cases ht; split <;> exact .same (by simp)
  case frameOverrun => cases ht; split <;> exact .same (by simp)
  case unknownRequest p kind =>
    cases ht
    split
    · exact .refl s
    split
    · exact .same (by simp)
    · exact (s.onlineEntry_numbersKept p).thenSame (by simp)
  case badLen | frameCrcError | answerSent | frameBegins | frameByte => cases ht; exact .same (by simp)

end Sys2Proof.Machine
end

section
/-! SUPPORT. The owning rules that change a port by raises only (R165, R166, R167). -/

namespace Sys2Proof.Machine

section
variable (s : State)

theorem State.registerDocket_raisedOnly (i : Fin 48) (d : Docket) : RaisedOnly s (s.registerDocket i d) := by
  unfold State.registerDocket
  dsimp only
  split
  · exact RaisedOnly.raise (.same (by simp) (by simp)) _ _ _
  · exact .same (by simp) (by simp)

theorem registerReply_raisedOnly (recipe area coverage pref cls : Nat) :
    RaisedOnly s (registerReply recipe area coverage pref cls s).1 := by
  unfold registerReply
  split
  · split
    · split
      · exact .refl s
      split
      · exact .refl s
      · split
        · exact .refl s
        · exact s.registerDocket_raisedOnly _ _
    · exact .refl s
  · exact .refl s

theorem State.cancelAtUnit_raisedOnly (u : UnitId) (n : Nat) : RaisedOnly s (s.cancelAtUnit u n) := by
  have hscrap : RaisedOnly s ((s.setUnit u .vacant).enterScrapped n) := .same (by simp) (by simp)
  unfold State.cancelAtUnit
  dsimp only
  split
  · exact hscrap.trans (State.abortRun_raisedOnly _ _ _)
  · exact hscrap

theorem State.cancelAtFinisher_raisedOnly (n : Nat) : RaisedOnly s (s.cancelAtFinisher n) := by
  have hscrap : RaisedOnly s ((s.setFinisher .vacant).enterScrapped n) := .same (by simp) (by simp)
  unfold State.cancelAtFinisher
  dsimp only
  split
  · exact hscrap.trans (State.abortAll_raisedOnly _ _ _)
  · exact hscrap

theorem State.cancelDocket_raisedOnly (d : Docket) : RaisedOnly s (s.cancelDocket d) := by
  have hholder : RaisedOnly s (s.cancelHolder d.number) := by
    unfold State.cancelHolder
    split
    · exact s.cancelAtUnit_raisedOnly _ _
    split
    · exact s.cancelAtUnit_raisedOnly _ _
    split
    · exact s.cancelAtFinisher_raisedOnly _
    · exact .same (by simp) (by simp)
  have hdryer : RaisedOnly s (s.cancelAtDryer d.number d.drawer) := by
    unfold State.cancelAtDryer
    split
    · split
      · exact RaisedOnly.trans (.same (by simp) (by simp)) (State.assignDrawers_raisedOnly _)
      · exact .same (by simp) (by simp)
    · exact .same (by simp) (by simp)
  unfold State.cancelDocket
  dsimp only
  split
  case h_5 | h_6 | h_7 => exact hholder
  case h_9 => exact hdryer
  all_goals exact .same (by simp) (by simp)

theorem cancelReply_raisedOnly (n : Nat) : RaisedOnly s (cancelReply n s).1 := by
  unfold cancelReply
  split
  · exact .refl s
  · split
    · exact .refl s
    · exact s.cancelDocket_raisedOnly _

theorem releaseReply_raisedOnly (n form : Nat) : RaisedOnly s (releaseReply n form s).1 := by
  unfold releaseReply
  split
  · exact .refl s
  · split
    · exact .refl s
    · split
      · exact .refl s
      split
      · exact RaisedOnly.trans (.same (by simp) (by simp)) (State.joinDry_raisedOnly _ _)
      split
      · exact .refl s
      · exact RaisedOnly.trans (.same (by simp) (by simp)) (State.joinWash_raisedOnly _ _)

theorem retireReply_raisedOnly (n : Nat) : RaisedOnly s (retireReply n s).1 := by
  unfold retireReply
  split
  · exact .refl s
  · split
    · exact .refl s
    · exact .same (by simp [State.freeSlotOf]) (by simp [State.freeSlotOf])

theorem storeReply_raisedOnly (skey : Bool) : RaisedOnly s (storeReply skey s).1 := by
  refine .same (by simp) (by simp)

theorem clearChannelReply_raisedOnly (p : Port) (code : Nat) : RaisedOnly s (clearChannelReply p code s).1 :=
  .same (by simp) (by simp)

theorem claimReply_raisedOnly (n : Nat) (u : UnitId) : RaisedOnly s (claimReply n u s).1 := by
  unfold claimReply
  split
  · exact .refl s
  · split
    · exact .refl s
    · split
      · exact .refl s
      split
      · exact .refl s
      split
      · exact .refl s
      · exact .same (by simp) (by simp)

theorem startStageReply_raisedOnly (st : Stage) (n : Nat) (u : UnitId) : RaisedOnly s (startStageReply st n u s).1 := by
  unfold startStageReply
  split
  · exact .refl s
  · split
    · exact .refl s
    · split
      · exact .refl s
      · split
        · exact .refl s
        · dsimp only
          split
          · exact RaisedOnly.trans (.same (by simp) (by simp)) (State.stageReached_raisedOnly _ _ _ _)
          · exact .same (by simp) (by simp)

theorem unitStopReply_raisedOnly (n : Nat) (u : UnitId) : RaisedOnly s (unitStopReply n u s).1 := by
  unfold unitStopReply
  split
  · exact .refl s
  · split
    · exact .refl s
    · split
      · exact s.abortUnit_raisedOnly _ _
      · exact .refl s

theorem unitResumeReply_raisedOnly (n : Nat) (u : UnitId) : RaisedOnly s (unitResumeReply n u s).1 := by
  unfold unitResumeReply
  split
  · exact .refl s
  · split
    · exact .refl s
    · split
      · dsimp only
        split
        · exact .refl s
        · split
          · exact RaisedOnly.trans (.same (by simp) (by simp)) (State.stageReached_raisedOnly _ _ _ _)
          · exact .same (by simp) (by simp)
      · exact .refl s

theorem unitReturnReply_raisedOnly (n : Nat) (u : UnitId) : RaisedOnly s (unitReturnReply n u s).1 := by
  unfold unitReturnReply
  split
  · exact .refl s
  · split
    · exact .refl s
    split
    · exact .refl s
    · exact .same (by simp) (by simp)

theorem feedReply_raisedOnly : RaisedOnly s (feedReply s).1 := by
  have hrefused : RaisedOnly s s.offerRefused := .same (by simp) (by simp)
  unfold feedReply
  split
  · exact .refl s
  · split
    · exact .refl s
    split
    · exact hrefused
    split
    · exact .refl s
    · split
      · exact hrefused
      · split
        · exact hrefused
        · exact .same (by simp) (by simp)

theorem State.exitBelt_raisedOnly (d : Docket) (p : WashPass) : RaisedOnly s (s.exitBelt d p) := by
  have hadd (t : State) (m : Nat) : RaisedOnly t (t.addMass d m) := by
    unfold State.addMass
    exact RaisedOnly.trans (.same (by simp) (by simp)) (State.recomputeBath_raisedOnly _ _)
  unfold State.exitBelt
  dsimp only
  exact RaisedOnly.trans (.same (by simp) (by simp)) (hadd _ _)

theorem State.disposeExit_raisedOnly (d : Docket) (p : WashPass) : RaisedOnly s (s.disposeExit d p) := by
  unfold State.disposeExit
  split
  · exact .same (by simp) (by simp)
  · split
    · exact s.enterHeld_raisedOnly _ _ _ _
    · exact s.joinDry_raisedOnly _

theorem exitReply_raisedOnly (n : Nat) : RaisedOnly s (exitReply n s).1 := by
  unfold exitReply
  split
  · exact .refl s
  · split
    · exact .refl s
    split
    · exact .refl s
    · split
      · exact .refl s
      · exact (s.exitBelt_raisedOnly _ _).trans (State.disposeExit_raisedOnly _ _ _)

theorem reportBathReply_raisedOnly (load volume : Nat) : RaisedOnly s (reportBathReply load volume s).1 :=
  s.judgeBath_raisedOnly _

theorem replenishReply_raisedOnly (drained added : Nat) : RaisedOnly s (replenishReply drained added s).1 := by
  unfold replenishReply
  split
  · exact .refl s
  · exact s.recomputeBath_raisedOnly _

theorem drawerLoadedReply_raisedOnly (d n : Nat) : RaisedOnly s (drawerLoadedReply d n s).1 := by
  unfold drawerLoadedReply
  split
  · exact .refl s
  · split
    · exact .refl s
    · split
      · split
        · exact .refl s
        · exact .same (by simp) (by simp)
      · exact .refl s

theorem State.vacateDrawer_raisedOnly (i : Fin 8) : RaisedOnly s (s.vacateDrawer i) := by
  unfold State.vacateDrawer
  split
  · exact .same (by simp) (by simp)
  · exact RaisedOnly.trans (.same (by simp) (by simp)) (State.assignDrawers_raisedOnly _)

theorem drawerUnloadedReply_raisedOnly (d force : Nat) : RaisedOnly s (drawerUnloadedReply d force s).1 := by
  have hunload (i : Fin 8) (n k : Nat) (short : Bool) : RaisedOnly s (unloadReply i n k short s).1 := by
    unfold unloadReply
    dsimp only
    exact RaisedOnly.trans (.same (by simp) (by simp)) (State.vacateDrawer_raisedOnly _ _)
  unfold drawerUnloadedReply
  split
  · exact .refl s
  · split
    · exact .refl s
    · split
      · exact hunload _ _ _ _
      · split
        · exact .refl s
        · exact hunload _ _ _ _
      · exact .refl s

theorem drawerServiceReply_raisedOnly (d dir : Nat) : RaisedOnly s (drawerServiceReply d dir s).1 := by
  unfold drawerServiceReply
  split
  · exact .refl s
  · split
    · split
      · exact .same (by simp) (by simp)
      · exact .refl s
    split
    · split
      · exact RaisedOnly.trans (.same (by simp) (by simp)) (State.assignDrawers_raisedOnly _)
      · exact .refl s
    · exact .refl s

theorem claimFinishReply_raisedOnly (n : Nat) : RaisedOnly s (claimFinishReply n s).1 := by
  unfold claimFinishReply
  split
  · exact .refl s
  · split
    · exact .refl s
    · split
      · exact .refl s
      · exact .same (by simp) (by simp)

theorem State.finishRun_raisedOnly (n : Nat) (c a : Mark) : RaisedOnly s (s.finishRun n c a) := by
  unfold State.finishRun
  split
  · exact s.finishComplete_raisedOnly n
  · exact .same (by simp) (by simp)

theorem startFinishReply_raisedOnly (n : Nat) : RaisedOnly s (startFinishReply n s).1 := by
  unfold startFinishReply
  split
  · exact .refl s
  · split
    · exact .refl s
    split
    · exact .refl s
    · split
      · exact .refl s
      · exact RaisedOnly.trans (.same (by simp) (by simp)) (State.finishRun_raisedOnly _ _ _ _)

theorem finisherStopReply_raisedOnly (n : Nat) : RaisedOnly s (finisherStopReply n s).1 := by
  unfold finisherStopReply
  split
  · exact .refl s
  · split
    · exact .refl s
    · split
      · exact s.abortFinisher_raisedOnly _
      · exact .refl s

theorem finisherResumeReply_raisedOnly (n : Nat) : RaisedOnly s (finisherResumeReply n s).1 := by
  unfold finisherResumeReply
  split
  · exact .refl s
  · split
    · exact .refl s
    · split
      · split
        · exact .refl s
        · exact RaisedOnly.trans (.same (by simp) (by simp)) (State.finishRun_raisedOnly _ _ _ _)
      · exact .refl s

theorem finisherReturnReply_raisedOnly (n : Nat) : RaisedOnly s (finisherReturnReply n s).1 := by
  unfold finisherReturnReply
  split
  · exact .refl s
  · split
    · exact .refl s
    split
    · exact .refl s
    · exact .same (by simp) (by simp)

end

/-- The owning rules that write a port or the settings by more than a raise. -/
def writesPorts : Instr → Bool
  | .lineClear _ | .setRecipe .. | .setSetting .. | .setLevel .. | .recall _ | .setLampRefValue .. | .setLampRefMeasured ..
  | .status _ | .ack _ | .setThreshold .. => true
  | _ => false

theorem takenOf_raisedOnly {c : Instr} {s : State} {x : Taken} (hx : takenOf s c = some x) (hw : writesPorts c = false)
    (t : State) : RaisedOnly t (x.owner t).1 := by
  refine takenOf_keeps (P := RaisedOnly t) hx (.refl t) fun hread => ?_
  cases c <;> cases hread <;> cases hw <;> cases hx <;> dsimp only
  case register => exact registerReply_raisedOnly t _ _ _ _ _
  case cancel => exact cancelReply_raisedOnly t _
  case releasePass | releaseRewash => exact releaseReply_raisedOnly t _ _
  case retire => exact retireReply_raisedOnly t _
  case store => exact storeReply_raisedOnly t _
  case clearChannel => exact clearChannelReply_raisedOnly t _ _
  case claim => exact onUnit_keeps (.refl t) (fun u => claimReply_raisedOnly t _ u) _
  case startBack | startMain => exact onUnit_keeps (.refl t) (fun u => startStageReply_raisedOnly t _ _ u) _
  case stop => exact onHolder_keeps (.refl t) (fun u => unitStopReply_raisedOnly t _ u) (finisherStopReply_raisedOnly t _) _
  case resume =>
    exact onHolder_keeps (.refl t) (fun u => unitResumeReply_raisedOnly t _ u) (finisherResumeReply_raisedOnly t _) _
  case returnDocket =>
    exact onHolder_keeps (.refl t) (fun u => unitReturnReply_raisedOnly t _ u) (finisherReturnReply_raisedOnly t _) _
  case feed => exact feedReply_raisedOnly t
  case exit => exact exitReply_raisedOnly t _
  case reportBath => exact reportBathReply_raisedOnly t _ _
  case replenish => exact replenishReply_raisedOnly t _ _
  case drawerLoaded => exact drawerLoadedReply_raisedOnly t _ _
  case drawerUnloaded => exact drawerUnloadedReply_raisedOnly t _ _
  case drawerServiceOut | drawerServiceIn => exact drawerServiceReply_raisedOnly t _ _
  case claimFinish => exact claimFinishReply_raisedOnly t _
  case startFinish => exact startFinishReply_raisedOnly t _
  case finisherStop => exact finisherStopReply_raisedOnly t _
  case finisherResume => exact finisherResumeReply_raisedOnly t _
  case finisherReturn => exact finisherReturnReply_raisedOnly t _
  case setCounter | clearCounters => exact .same (by simp) (by simp)

end Sys2Proof.Machine
end

section
/-! SUPPORT. Routed notices (R165) and the clock (R184) through every owning rule and every event. -/

namespace Sys2Proof.Machine

/-! ## Notices at the ports they are routed to (R165) -/

/-- `t` holds at each port no notice kind that `s` does not hold there. -/
theorem NoticesRouted.of_subset {s t : State} (h : NoticesRouted s)
    (hn : ∀ (p : Port) (k : Fin 17), (t.port p).notices[k] ≠ none → (s.port p).notices[k] ≠ none) : NoticesRouted t := by
  intro p k hk
  refine h p k ?_
  rw [Option.isSome_iff_ne_none] at hk ⊢
  exact hn p k.idx hk

theorem NoticesRouted.congr {s t : State} (h : NoticesRouted s) (hp : t.ports = s.ports) : NoticesRouted t := by
  refine h.of_subset fun p k hk => ?_
  rwa [State.port, hp] at hk

/-- A port replaced by one that holds no more notices. -/
theorem NoticesRouted.setPort {s : State} (h : NoticesRouted s) (p : Port) {r : PortRecord}
    (hn : ∀ k : Fin 17, r.notices[k] ≠ none → (s.port p).notices[k] ≠ none) : NoticesRouted (s.setPort p r) := by
  refine h.of_subset fun q k hk => ?_
  rw [State.setPort_port] at hk
  split at hk
  · rename_i e; subst e; exact hn k hk
  · exact hk

theorem State.evaluateAll_routed {s : State} (h : NoticesRouted s) : NoticesRouted s.evaluateAll := by
  refine h.of_subset fun p k hk => ?_
  have hport : (s.evaluateAll.port p) = (s.port p).evaluate s.working.levels := by
    simp only [State.port, State.evaluateAll, PerPort.get_map]
  rw [hport] at hk
  exact hk

theorem State.enterLost_routed {s : State} (h : NoticesRouted s) (p : Port) : NoticesRouted (s.enterLost p) := by
  have hraised : NoticesRouted ((s.setPort p { s.port p with state := .lost }).raiseSilent p) :=
    (State.raiseSilent_raisedOnly _ p).routed (h.setPort p fun _ hk => hk)
  unfold State.enterLost
  dsimp only
  split
  · exact hraised
  · exact (State.abortUnit_raisedOnly _ _ _).routed hraised
  · exact (State.abortUnit_raisedOnly _ _ _).routed hraised
  · exact (State.abortFinisher_raisedOnly _ _).routed hraised
  · exact hraised.congr (by simp)

theorem State.checkSilence_routed {s : State} (h : NoticesRouted s) : NoticesRouted s.checkSilence := by
  unfold State.checkSilence
  generalize arrange (Config.turn s.now) allPorts = l
  induction l generalizing s with
  | nil => exact h
  | cons p l ih =>
    refine ih ?_
    dsimp only
    split
    · split
      · exact State.enterLost_routed h p
      · exact h
    · exact h

theorem State.handOff_routed {s : State} (h : NoticesRouted s) (i : LineItem) : NoticesRouted (s.handOff i) := by
  cases i
  case drawers => exact (State.assignDrawers_raisedOnly _).routed h
  case loadWarn | loadStop | bathVolMin => exact (State.recomputeBath_raisedOnly _ _).routed h
  case silenceLimit => exact State.checkSilence_routed h
  all_goals exact h.congr (by simp [State.handOff])

theorem State.handOnRecall_routed {s : State} (h : NoticesRouted s) (old : WorkingCopy) :
    NoticesRouted (s.handOnRecall old) := by
  have h1 : NoticesRouted (if s.working.line.drawers ≠ old.line.drawers then s.assignDrawers else s) := by
    split
    · exact (State.assignDrawers_raisedOnly _).routed h
    · exact h
  have h2 (b : Prop) [Decidable b] {t : State} (h : NoticesRouted t) :
      NoticesRouted (if b then t.recomputeBath t.bath else t) := by
    split
    · exact (State.recomputeBath_raisedOnly _ _).routed h
    · exact h
  have h3 (b : Prop) [Decidable b] {t : State} (h : NoticesRouted t) : NoticesRouted (if b then t.updatePermit else t) := by
    split
    · exact h.congr (by simp)
    · exact h
  have h4 (b : Prop) [Decidable b] {t : State} (h : NoticesRouted t) : NoticesRouted (if b then t.checkSilence else t) := by
    split
    · exact State.checkSilence_routed h
    · exact h
  unfold State.handOnRecall
  dsimp only
  split
  · exact State.evaluateAll_routed (h4 _ (h3 _ (h2 _ h1)))
  · exact h4 _ (h3 _ (h2 _ h1))

theorem State.onlineEntry_routed {s : State} (h : NoticesRouted s) (p : Port) : NoticesRouted (s.onlineEntry p) := by
  have hset : NoticesRouted (s.setPort p { s.port p with state := .online, lastHeard := some s.now, receiver := .hunting }) :=
    h.setPort p fun _ hk => hk
  unfold State.onlineEntry
  dsimp only
  split
  · exact hset.congr (by simp)
  · exact hset

/-- What raises keep is kept by the owning rules that do no more to a port. -/
theorem takenOf_raised {P : State → Prop} (hP : ∀ s t, RaisedOnly s t → P s → P t) {c : Instr} {s t : State} {x : Taken}
    (hx : takenOf s c = some x) (h : P t) (hw : writesPorts c = true → P (x.owner t).1) : P (x.owner t).1 := by
  cases hc : writesPorts c with
  | false => exact hP _ _ (takenOf_raisedOnly hx hc t) h
  | true => exact hw hc

theorem takenOf_routed {c : Instr} {s t : State} {x : Taken} (hx : takenOf s c = some x) (h : NoticesRouted t) :
    NoticesRouted (x.owner t).1 := by
  have hset (w : WorkingCopy) : NoticesRouted (t.setWorking w) := h.congr rfl
  have hstore (w : WorkingCopy) (x : Store) : NoticesRouted ((t.setWorking w).setStore x) := h.congr rfl
  refine takenOf_raised (fun _ _ hr h => hr.routed h) hx h fun hw => ?_
  cases c <;> cases hw <;> cases hx <;> dsimp only
  case lineClear =>
    refine h.of_subset fun p k hk => absurd ?_ hk
    have hport : ((lineClearReply t).1.port p) = (t.port p).lineClear := by
      simp only [lineClearReply, State.lineClear, State.port, PerPort.get_map]
    rw [hport]
    simp [PortRecord.lineClear]
  case setRecipe | setLampRefValue | setLampRefMeasured => exact h.congr (by simp)
  case setSetting =>
    unfold setSettingReply
    split
    · split
      · exact h
      · dsimp only
        unfold State.setLineItem
        exact State.handOff_routed (hset _) _
    · split
      · exact h
      · exact h.congr rfl
    · exact h
  case setLevel =>
    unfold setLevelReply
    split
    · exact h
    · split
      · exact h
      · exact State.evaluateAll_routed (hset _)
  case recall.refl =>
    unfold recallReply
    split
    · exact h
    · split
      · exact State.handOnRecall_routed (hset _) _
      · exact State.handOnRecall_routed ((State.raise_raisedOnly _ _ _ _).routed (hstore _ _)) _
  case status => exact h.setPort _ fun _ hk => hk
  case ack =>
    unfold ackReply
    dsimp only
    split
    · exact h
    · refine h.setPort _ fun k hk hnone => hk ?_
      simp only [Fin.getElem_fin] at hnone
      simp [PortRecord.acked, hnone, ackNotice]
  case setThreshold => exact h.setPort _ fun _ hk => hk

theorem NoticesRouted.of_pass {s v : State} (h : NoticesRouted s) {ms : Nat} (hv : v = s.pass ms) : NoticesRouted v :=
  h.congr (by rw [hv]; simp)

theorem NoticesRouted.of_passMicros {s v : State} (h : NoticesRouted s) {us : Nat} (hv : v = s.passMicros us) :
    NoticesRouted v := h.congr (by rw [hv]; simp)

theorem State.receiveByte_routed {s : State} (h : NoticesRouted s) (p : Port) (b : Byte) :
    NoticesRouted (s.receiveByte p b) := by
  refine h.setPort p fun k hk => ?_
  have : ((s.port p).byte s.now b).notices = (s.port p).notices := by
    unfold PortRecord.byte
    split
    · rfl
    · (repeat' split) <;> rfl
    · (repeat' split) <;> rfl
  rwa [this] at hk

theorem State.afterReset_routed (i : StoredImage) (rate sstop : Bool) (q : List Instr) :
    NoticesRouted (State.afterReset i rate sstop q) := by
  have hfresh (u : State) (hp : u.ports = ⟨.fresh, .fresh, .fresh, .fresh, .fresh⟩) : NoticesRouted u := by
    intro p k hk
    rw [State.port, hp] at hk
    cases p <;> simp [PerPort.get, PortRecord.fresh] at hk
  unfold State.afterReset
  dsimp only
  split
  · exact hfresh _ rfl
  · exact (State.raise_raisedOnly _ _ _ _).routed (hfresh _ rfl)

theorem exec_event_routed {c : Instr} {s t : State} (hx : takenOf s c = none) (h : NoticesRouted s)
    (ht : exec c s = .next t) : NoticesRouted t := by
  cases c <;> cases hx
  case reset => cases ht; exact State.afterReset_routed _ _ _ _
  case sstopAsserted =>
    cases ht
    unfold State.stopShop
    have hstop : NoticesRouted { s with sstop := true } := h.congr rfl
    have habort := (State.abortAll_raisedOnly { s with sstop := true } (arrange (Config.turn s.now) allChannels)
      .stopped).routed hstop
    exact habort.congr (by simp)
  case sstopReleased => cases ht; exact h.congr (by simp)
  case sensorPulse ch =>
    cases ht
    have hset (c : Channel) : NoticesRouted (s.setChan ch c) := h.congr rfl
    have hset2 (c d : Channel) : NoticesRouted ((s.setChan ch c).setChan ch d) := h.congr rfl
    dsimp only
    split
    · split
      · exact (State.reachRun_raisedOnly _ _).routed (hset2 _ _)
      · exact hset2 _ _
    · exact hset2 _ _
    · unfold State.idlePulse
      dsimp only
      split
      · exact (RaisedOnly.raise (State.raise_raisedOnly _ _ _ _) _ _ _).routed (hset2 _ _)
      · exact hset2 _ _
    · exact hset2 _ _
  case graceEnd ch =>
    obtain ⟨_, he⟩ | ⟨v, _, _, hv, he⟩ := exec_graceEnd_cases ch s <;>
      obtain rfl := Host.Outcome.next.inj (he.symm.trans ht)
    · exact h
    · exact (h.of_pass hv).congr rfl
  case windowEnd ch =>
    obtain he | ⟨v, w, c, _, _, hv, _, ⟨r, _, _, he⟩ | ⟨_, he⟩⟩ := exec_windowEnd_cases ch s <;>
      obtain rfl := Host.Outcome.next.inj (he.symm.trans ht)
    · exact h
    · exact (RaisedOnly.raise (State.raise_raisedOnly _ _ _ _) _ _ _).routed ((h.of_pass hv).congr (by simp))
    · exact (h.of_pass hv).congr rfl
  case dimWatchExpiry ch =>
    obtain he | ⟨v, f, c, _, _, hv, _, ⟨r, _, _, he⟩ | ⟨_, he⟩⟩ := exec_dimWatchExpiry_cases ch s <;>
      obtain rfl := Host.Outcome.next.inj (he.symm.trans ht)
    · exact h
    · exact (State.raise_raisedOnly _ _ _ _).routed ((h.of_passMicros hv).congr (by simp))
    · exact (h.of_passMicros hv).congr rfl
  case deadWatchExpiry ch =>
    obtain he | ⟨v, f, _, _, hv, he⟩ := exec_deadWatchExpiry_cases ch s <;>
      obtain rfl := Host.Outcome.next.inj (he.symm.trans ht)
    · exact h
    · exact (State.abortRun_raisedOnly _ _ _).routed (h.of_pass hv)
  case overtimeExpiry ch =>
    obtain he | ⟨v, l, _, _, hv, he⟩ := exec_overtimeExpiry_cases ch s <;>
      obtain rfl := Host.Outcome.next.inj (he.symm.trans ht)
    · exact h
    · exact (State.abortRun_raisedOnly _ _ _).routed (h.of_pass hv)
  case tailExpiry ch =>
    obtain he | ⟨v, f, _, _, hv, he⟩ := exec_tailExpiry_cases ch s <;>
      obtain rfl := Host.Outcome.next.inj (he.symm.trans ht)
    · exact h
    · exact (h.of_pass hv).congr (by simp)
  case lineSecond => cases ht; exact h.of_pass rfl
  case storeComplete =>
    obtain ⟨_, he⟩ | ⟨v, j, _, hv, he⟩ := exec_storeComplete_cases s <;>
      obtain rfl := Host.Outcome.next.inj (he.symm.trans ht)
    · exact h
    · exact (State.raise_raisedOnly _ _ _ _).routed ((h.of_pass hv).congr rfl)
  case overdueExpiry n =>
    obtain he | ⟨v, r, _, hv, he⟩ := exec_overdueExpiry_cases n s <;>
      obtain rfl := Host.Outcome.next.inj (he.symm.trans ht)
    · exact h
    · exact (RaisedOnly.raise (State.raise_raisedOnly _ _ _ _) _ _ _).routed ((h.of_pass hv).congr (by simp))
  case dryingExpiry d =>
    obtain he | ⟨v, n, timer, _, hv, he⟩ := exec_dryingExpiry_cases d s <;>
      obtain rfl := Host.Outcome.next.inj (he.symm.trans ht)
    · exact h
    · exact (RaisedOnly.offerFor (State.raise_raisedOnly _ _ _ _) _ _ _ _).routed ((h.of_pass hv).congr (by simp))
  case overdryExpiry d =>
    obtain he | ⟨v, n, timer, raised, _, hv, he⟩ := exec_overdryExpiry_cases d s <;>
      obtain rfl := Host.Outcome.next.inj (he.symm.trans ht)
    · exact h
    · exact (RaisedOnly.raise (State.raise_raisedOnly _ _ _ _) _ _ _).routed ((h.of_pass hv).congr (by simp))
  case portLost p =>
    obtain he | ⟨v, _, _, _, hv, he⟩ := exec_portLost_cases p s <;>
      obtain rfl := Host.Outcome.next.inj (he.symm.trans ht)
    · exact h
    · exact State.enterLost_routed (h.of_pass hv) p
  case byteGapTimeout p b =>
    obtain he | ⟨v, f, _, hv, he⟩ := exec_byteGapTimeout_cases p b s <;>
      obtain rfl := Host.Outcome.next.inj (he.symm.trans ht)
    · exact h
    · exact (h.of_pass hv).setPort p fun _ hk => hk
  case missingStopBit p =>
    cases ht
    split
    · exact h
    · exact h.setPort p fun _ hk => hk
  case frameOverrun p =>
    cases ht
    split
    · exact h.setPort p fun _ hk => hk
    · exact h
  case unknownRequest p kind =>
    cases ht
    split
    · exact h
    split
    · exact h.setPort p fun _ hk => hk
    · exact (State.onlineEntry_routed h p).setPort p fun _ hk => hk
  case frameCrcError p | answerSent p => cases ht; exact h.setPort p fun _ hk => hk
  case badLen | frameBegins | frameByte => cases ht; exact State.receiveByte_routed h _ _

/-! ## The clock (R184) -/

theorem ClockInRange.congr {s t : State} (h : ClockInRange s) (hn : t.now = s.now) (hm : t.micro = s.micro) :
    ClockInRange t := ⟨hn ▸ h.now, hm ▸ h.micro⟩

theorem ClockInRange.pass {s v : State} (h : ClockInRange s) {ms : Nat} (hv : v = s.pass ms) : ClockInRange v := by
  have hmicro := h.micro
  constructor
  · rw [hv, (State.pass_clock s ms).1, Config.timeModulus]; omega
  · rw [hv, (State.pass_clock s ms).2]; split <;> omega

theorem ClockInRange.passMicros {s v : State} {us : Nat} (hv : v = s.passMicros us) : ClockInRange v := by
  constructor
  · rw [hv, (State.passMicros_clock s us).1, Config.timeModulus]; omega
  · rw [hv, (State.passMicros_clock s us).2]; omega

theorem takenOf_clock {c : Instr} {s t : State} {x : Taken} (hx : takenOf s c = some x) (h : ClockInRange t) :
    ClockInRange (x.owner t).1 := by
  refine takenOf_keeps hx h fun hread => ?_
  cases c <;> cases hread <;> cases hx <;> dsimp only
  case claim | startBack | startMain => exact onUnit_keeps h (fun u => h.congr (by simp) (by simp)) _
  case stop | resume | returnDocket =>
    exact onHolder_keeps h (fun u => h.congr (by simp) (by simp)) (h.congr (by simp) (by simp)) _
  all_goals exact h.congr (by simp) (by simp)

theorem exec_event_clock {c : Instr} {s t : State} (hx : takenOf s c = none) (h : ClockInRange s)
    (ht : exec c s = .next t) : ClockInRange t := by
  cases c <;> cases hx
  case reset => cases ht; constructor <;> simp [State.afterReset_lineKept]
  case sstopAsserted => cases ht; exact h.congr (by simp [State.stopShop]) (by simp [State.stopShop])
  case sstopReleased => cases ht; exact h.congr (by simp) (by simp)
  case sensorPulse ch =>
    cases ht
    dsimp only
    split
    · split
      · exact h.congr (by simp) (by simp)
      · exact h.congr (by simp) (by simp)
    all_goals exact h.congr (by simp) (by simp)
  case graceEnd ch =>
    obtain ⟨_, he⟩ | ⟨v, _, _, hv, he⟩ := exec_graceEnd_cases ch s <;>
      obtain rfl := Host.Outcome.next.inj (he.symm.trans ht)
    · exact h
    · exact (h.pass hv).congr rfl rfl
  case windowEnd ch =>
    obtain he | ⟨v, w, c, _, _, hv, _, ⟨r, _, _, he⟩ | ⟨_, he⟩⟩ := exec_windowEnd_cases ch s <;>
      obtain rfl := Host.Outcome.next.inj (he.symm.trans ht)
    · exact h
    · exact (h.pass hv).congr (by simp) (by simp)
    · exact (h.pass hv).congr rfl rfl
  case dimWatchExpiry ch =>
    obtain he | ⟨v, f, c, _, _, hv, _, ⟨r, _, _, he⟩ | ⟨_, he⟩⟩ := exec_dimWatchExpiry_cases ch s <;>
      obtain rfl := Host.Outcome.next.inj (he.symm.trans ht)
    · exact h
    · exact (ClockInRange.passMicros hv).congr (by simp) (by simp)
    · exact (ClockInRange.passMicros hv).congr rfl rfl
  case deadWatchExpiry ch =>
    obtain he | ⟨v, f, _, _, hv, he⟩ := exec_deadWatchExpiry_cases ch s <;>
      obtain rfl := Host.Outcome.next.inj (he.symm.trans ht)
    · exact h
    · exact (h.pass hv).congr (by simp) (by simp)
  case overtimeExpiry ch =>
    obtain he | ⟨v, l, _, _, hv, he⟩ := exec_overtimeExpiry_cases ch s <;>
      obtain rfl := Host.Outcome.next.inj (he.symm.trans ht)
    · exact h
    · exact (h.pass hv).congr (by simp) (by simp)
  case tailExpiry ch =>
    obtain he | ⟨v, f, _, _, hv, he⟩ := exec_tailExpiry_cases ch s <;>
      obtain rfl := Host.Outcome.next.inj (he.symm.trans ht)
    · exact h
    · exact (h.pass hv).congr (by simp) (by simp)
  case lineSecond => cases ht; exact h.pass rfl
  case storeComplete =>
    obtain ⟨_, he⟩ | ⟨v, j, _, hv, he⟩ := exec_storeComplete_cases s <;>
      obtain rfl := Host.Outcome.next.inj (he.symm.trans ht)
    · exact h
    · exact (h.pass hv).congr (by simp) (by simp)
  case overdueExpiry n =>
    obtain he | ⟨v, r, _, hv, he⟩ := exec_overdueExpiry_cases n s <;>
      obtain rfl := Host.Outcome.next.inj (he.symm.trans ht)
    · exact h
    · exact (h.pass hv).congr (by simp) (by simp)
  case dryingExpiry d =>
    obtain he | ⟨v, n, timer, _, hv, he⟩ := exec_dryingExpiry_cases d s <;>
      obtain rfl := Host.Outcome.next.inj (he.symm.trans ht)
    · exact h
    · exact (h.pass hv).congr (by simp) (by simp)
  case overdryExpiry d =>
    obtain he | ⟨v, n, timer, raised, _, hv, he⟩ := exec_overdryExpiry_cases d s <;>
      obtain rfl := Host.Outcome.next.inj (he.symm.trans ht)
    · exact h
    · exact (h.pass hv).congr (by simp) (by simp)
  case portLost p =>
    obtain he | ⟨v, _, _, _, hv, he⟩ := exec_portLost_cases p s <;>
      obtain rfl := Host.Outcome.next.inj (he.symm.trans ht)
    · exact h
    · exact (h.pass hv).congr (by simp) (by simp)
  case byteGapTimeout p b =>
    obtain he | ⟨v, f, _, hv, he⟩ := exec_byteGapTimeout_cases p b s <;>
      obtain rfl := Host.Outcome.next.inj (he.symm.trans ht)
    · exact h
    · exact (h.pass hv).congr rfl rfl
  case missingStopBit | frameOverrun => cases ht; split <;> exact h.congr (by simp) (by simp)
  case unknownRequest => cases ht; (repeat' split) <;> exact h.congr (by simp) (by simp)
  case badLen | frameCrcError | answerSent | frameBegins | frameByte => cases ht; exact h.congr (by simp) (by simp)

end Sys2Proof.Machine
end

section
/-! SUPPORT. R76, R153: an owner runs exactly while its channels are EXPOSING for its docket, stated per owner, and through
every operation on an owner. -/

namespace Sys2Proof.Machine

/-! ## A channel against its owner -/

/-- What a channel is EXPOSING for: the docket number of its run, absent while it is not EXPOSING. -/
def Channel.glow (c : Channel) : Option (Option Nat) :=
  if c.state = .exposing then some (c.run.map RunDocket.number) else none

theorem Channel.glow_of_dark {c : Channel} (h : c.state ≠ .exposing) : c.glow = none := if_neg h

theorem Channel.glow_eq_some {c : Channel} {n : Nat} :
    c.glow = some (some n) ↔ c.state = .exposing ∧ c.run.map RunDocket.number = some n := by
  simp [Channel.glow]

theorem Channel.glow_eq_none {c : Channel} : c.glow = none ↔ c.state ≠ .exposing := by simp [Channel.glow]

/-- The docket a unit runs the stage `st` of. -/
def UnitRecord.runs : UnitRecord → Stage → Option Nat
  | .running n st', st => if st' = st then some n else none
  | _, _ => none

/-- The docket a finisher runs the channel `ch` for. -/
def FinisherRecord.runs : FinisherRecord → ChannelId → Option Nat
  | .running n c _, .FC => if c = .openMark then some n else none
  | .running n _ a, .FA => if a = .openMark then some n else none
  | _, _ => none

@[simp] theorem UnitRecord.runs_vacant (st : Stage) : UnitRecord.vacant.runs st = none := rfl
@[simp] theorem UnitRecord.runs_loaded (n : Nat) (st : Stage) : (UnitRecord.loaded n).runs st = none := rfl
@[simp] theorem UnitRecord.runs_halted (n : Nat) (st st' : Stage) (r : HoldReason) :
    (UnitRecord.halted n st' r).runs st = none := rfl
@[simp] theorem UnitRecord.runs_running (n : Nat) (st st' : Stage) :
    (UnitRecord.running n st').runs st = if st' = st then some n else none := rfl

@[simp] theorem FinisherRecord.runs_vacant (ch : ChannelId) : FinisherRecord.vacant.runs ch = none := rfl
@[simp] theorem FinisherRecord.runs_loaded (n : Nat) (ch : ChannelId) : (FinisherRecord.loaded n).runs ch = none := rfl
@[simp] theorem FinisherRecord.runs_halted (n : Nat) (c a : Mark) (r : HoldReason) (ch : ChannelId) :
    (FinisherRecord.halted n c a r).runs ch = none := rfl
@[simp] theorem FinisherRecord.runs_running_FC (n : Nat) (c a : Mark) :
    (FinisherRecord.running n c a).runs .FC = if c = .openMark then some n else none := rfl
@[simp] theorem FinisherRecord.runs_running_FA (n : Nat) (c a : Mark) :
    (FinisherRecord.running n c a).runs .FA = if a = .openMark then some n else none := rfl

/-- R76 at one unit. -/
def UnitAgrees (s : State) (u : UnitId) : Prop :=
  ∀ st, (s.chan (stageChannel u st)).glow = ((s.unit u).runs st).map some

/-- R153. -/
structure FinisherAgrees (s : State) : Prop where
  uvc      : (s.chan .FC).glow = (s.finisher.runs .FC).map some
  uva      : (s.chan .FA).glow = (s.finisher.runs .FA).map some
  someOpen : ∀ n, s.finisher ≠ .running n .reached .reached

theorem ownersAgree_iff {s : State} : OwnersAgree s ↔ (∀ u, UnitAgrees s u) ∧ FinisherAgrees s := by
  constructor
  · intro ⟨hunits, hfin, hstages, huvc, huva⟩
    refine ⟨fun u st => ?_, ?_, ?_, fun n hn => ?_⟩
    · by_cases hs : (s.chan (stageChannel u st)).state = .exposing
      · obtain ⟨n, hn⟩ := hstages u st hs
        obtain ⟨_, _, hd⟩ := hunits u n st hn
        rw [Channel.glow_eq_some.mpr ⟨hs, hd⟩, hn]
        simp [UnitRecord.runs]
      · rw [Channel.glow_of_dark hs]
        cases hu : s.unit u with
        | running n st' =>
          by_cases he : st' = st
          · subst he; exact absurd (hunits u n st' hu).channel hs
          · simp [UnitRecord.runs, he]
        | vacant | loaded _ | halted _ _ _ => rfl
    · by_cases hs : (s.chan .FC).state = .exposing
      · obtain ⟨n, a, hf⟩ := huvc hs
        rw [Channel.glow_eq_some.mpr ((hfin n _ a hf).uvc rfl), hf]
        rfl
      · rw [Channel.glow_of_dark hs]
        cases hf : s.finisher with
        | running n c a =>
          cases c with
          | openMark => exact absurd ((hfin n _ a hf).uvc rfl).1 hs
          | reached => rfl
        | vacant | loaded _ | halted _ _ _ _ => rfl
    · by_cases hs : (s.chan .FA).state = .exposing
      · obtain ⟨n, c, hf⟩ := huva hs
        rw [Channel.glow_eq_some.mpr ((hfin n c _ hf).uva rfl), hf]
        rfl
      · rw [Channel.glow_of_dark hs]
        cases hf : s.finisher with
        | running n c a =>
          cases a with
          | openMark => exact absurd ((hfin n c _ hf).uva rfl).1 hs
          | reached => rfl
        | vacant | loaded _ | halted _ _ _ _ => rfl
    · simpa using (hfin n _ _ hn).someOpen
  · intro ⟨hunits, huvc, huva, hopen⟩
    refine ⟨fun u n st hu => ?_, fun n c a hf => ?_, fun u st hs => ?_, fun hs => ?_, fun hs => ?_⟩
    · have := hunits u st
      rw [hu] at this
      obtain ⟨hs, hd⟩ := Channel.glow_eq_some.mp (this.trans (by simp [UnitRecord.runs] : _ = some (some n)))
      exact ⟨hu, hs, hd⟩
    · rw [hf] at huvc huva
      refine ⟨hf, ?_, fun hc => ?_, fun ha => ?_⟩
      · cases c with
        | openMark => exact .inl rfl
        | reached =>
          cases a with
          | openMark => exact .inr rfl
          | reached => exact absurd hf (hopen n)
      · exact Channel.glow_eq_some.mp (huvc.trans (by simp [FinisherRecord.runs, hc]))
      · exact Channel.glow_eq_some.mp (huva.trans (by simp [FinisherRecord.runs, ha]))
    · have := hunits u st
      rw [Channel.glow, if_pos hs] at this
      cases hu : s.unit u with
      | running n st' =>
        rw [hu] at this
        by_cases he : st' = st
        · exact ⟨n, by rw [he]⟩
        · simp [UnitRecord.runs, he] at this
      | vacant | loaded _ | halted _ _ _ => rw [hu] at this; simp [UnitRecord.runs] at this
    · rw [Channel.glow, if_pos hs] at huvc
      cases hf : s.finisher with
      | running n c a =>
        cases c with
        | openMark => exact ⟨n, a, rfl⟩
        | reached => rw [hf] at huvc; simp [FinisherRecord.runs] at huvc
      | vacant | loaded _ | halted _ _ _ _ => rw [hf] at huvc; simp [FinisherRecord.runs] at huvc
    · rw [Channel.glow, if_pos hs] at huva
      cases hf : s.finisher with
      | running n c a =>
        cases a with
        | openMark => exact ⟨n, c, rfl⟩
        | reached => rw [hf] at huva; simp [FinisherRecord.runs] at huva
      | vacant | loaded _ | halted _ _ _ _ => rw [hf] at huva; simp [FinisherRecord.runs] at huva

theorem stageChannel_ne_finisher (u : UnitId) (st : Stage) : stageChannel u st ≠ .FC ∧ stageChannel u st ≠ .FA := by
  cases u <;> cases st <;> decide

theorem stageChannel_inj {u v : UnitId} {st st' : Stage} : stageChannel u st = stageChannel v st' ↔ u = v ∧ st = st' := by
  cases u <;> cases v <;> cases st <;> cases st' <;> decide

theorem channel_owned (ch : ChannelId) : (∃ u st, ch = stageChannel u st) ∨ ch = .FC ∨ ch = .FA := by
  cases ch
  · exact .inl ⟨.A, .back, rfl⟩
  · exact .inl ⟨.A, .main, rfl⟩
  · exact .inl ⟨.B, .back, rfl⟩
  · exact .inl ⟨.B, .main, rfl⟩
  · exact .inr (.inl rfl)
  · exact .inr (.inr rfl)

section
variable {s t : State} (h : OwnersAgree s)
include h

/-- The owners are the same and every channel is EXPOSING for the same docket, or for none, as before. -/
theorem OwnersAgree.congr (hu : t.units = s.units) (hf : t.finisher = s.finisher)
    (hg : ∀ ch, (t.chan ch).glow = (s.chan ch).glow) : OwnersAgree t := by
  obtain ⟨hunits, huvc, huva, hopen⟩ := ownersAgree_iff.mp h
  refine ownersAgree_iff.mpr ⟨fun u st => ?_, ?_, ?_, ?_⟩
  · rw [hg, hunits u st, State.unit, State.unit, hu]
  · rw [hg, huvc, hf]
  · rw [hg, huva, hf]
  · rw [hf]; exact hopen

theorem OwnersAgree.same (hu : t.units = s.units) (hf : t.finisher = s.finisher) (hc : t.channels = s.channels) :
    OwnersAgree t := h.congr hu hf fun ch => by rw [State.chan, hc]; rfl

/-- One unit and its channels written, so that they agree, and nothing else. -/
theorem OwnersAgree.unitWritten (u : UnitId) {x : UnitRecord} (hu : t.units = s.units.set u x)
    (hf : t.finisher = s.finisher)
    (hown : ∀ st, (t.chan (stageChannel u st)).glow = (x.runs st).map some)
    (hg : ∀ ch, (∀ st, ch ≠ stageChannel u st) → (t.chan ch).glow = (s.chan ch).glow) : OwnersAgree t := by
  obtain ⟨hunits, huvc, huva, hopen⟩ := ownersAgree_iff.mp h
  have hunit (v : UnitId) : t.unit v = if v = u then x else s.unit v := by
    rw [State.unit, hu, PerUnit.get_set]
    rfl
  refine ownersAgree_iff.mpr ⟨fun v st => ?_, ?_, ?_, ?_⟩
  · rw [hunit]
    split
    · rename_i e; subst e; exact hown st
    · rename_i e
      rw [hg _ fun st' hst => e (stageChannel_inj.mp hst).1, hunits v st]
  · rw [hg _ fun st hst => (stageChannel_ne_finisher u st).1 hst.symm, huvc, hf]
  · rw [hg _ fun st hst => (stageChannel_ne_finisher u st).2 hst.symm, huva, hf]
  · rw [hf]; exact hopen

/-- The finisher and its channels written, so that they agree, and nothing else. -/
theorem OwnersAgree.finisherWritten (hu : t.units = s.units) (hf : FinisherAgrees t)
    (hg : ∀ ch, ch ≠ .FC → ch ≠ .FA → (t.chan ch).glow = (s.chan ch).glow) : OwnersAgree t := by
  obtain ⟨hunits, _⟩ := ownersAgree_iff.mp h
  refine ownersAgree_iff.mpr ⟨fun u st => ?_, hf⟩
  rw [hg _ (stageChannel_ne_finisher u st).1 (stageChannel_ne_finisher u st).2, hunits u st, State.unit, State.unit, hu]

theorem OwnersAgree.stage_glow (u : UnitId) (st : Stage) :
    (s.chan (stageChannel u st)).glow = ((s.unit u).runs st).map some := (ownersAgree_iff.mp h).1 u st

theorem OwnersAgree.finisherAgrees : FinisherAgrees s := (ownersAgree_iff.mp h).2

/-- A channel that is EXPOSING is owned by a stage that runs, or by the finisher. -/
theorem OwnersAgree.owner_of_exposing {ch : ChannelId} (hs : (s.chan ch).state = .exposing) :
    (∃ u n st, ch = stageChannel u st ∧ RunsStage s u n st) ∨
    (∃ n c a, RunsFinish s n c a ∧ ((ch = .FC ∧ c = .openMark) ∨ (ch = .FA ∧ a = .openMark))) := by
  obtain ⟨hunits, hfin, hstages, huvc, huva⟩ := h
  obtain ⟨u, st, rfl⟩ | rfl | rfl := channel_owned ch
  · obtain ⟨n, hn⟩ := hstages u st hs
    exact .inl ⟨u, n, st, rfl, hunits u n st hn⟩
  · obtain ⟨n, a, hn⟩ := huvc hs
    exact .inr ⟨n, _, a, hfin n _ a hn, .inl ⟨rfl, rfl⟩⟩
  · obtain ⟨n, c, hn⟩ := huva hs
    exact .inr ⟨n, c, _, hfin n c _ hn, .inr ⟨rfl, rfl⟩⟩

end

/-! ## Halts (R83, R158) -/

/-- What `unitHalted` leaves of the owners and the channels. -/
theorem unitHalted_owners (s : State) (u : UnitId) (n : Nat) (st : Stage) (r : AbortReason) (reason : HoldReason) :
    (unitHalted s u n st r reason).units = s.units.set u (.halted n st reason) ∧
    (unitHalted s u n st r reason).finisher = s.finisher ∧
    (unitHalted s u n st r reason).channels =
      s.channels.set (stageChannel u st) ((s.chan (stageChannel u st)).abortedAt r s.now) := by
  unfold unitHalted
  simp

theorem State.chan_of_set {s t : State} {c : ChannelId} {x : Channel} (h : t.channels = s.channels.set c x) (d : ChannelId) :
    t.chan d = if d = c then x else s.chan d := by
  rw [State.chan, h, PerChannel.get_set]
  rfl

theorem OwnersAgree.unitHalted {s : State} (h : OwnersAgree s) {u : UnitId} {n : Nat} {st : Stage}
    (hrun : s.unit u = .running n st) (r : AbortReason) (reason : HoldReason) :
    OwnersAgree (unitHalted s u n st r reason) := by
  obtain ⟨hu, hf, hc⟩ := unitHalted_owners s u n st r reason
  refine h.unitWritten u hu hf (fun st' => ?_) fun ch hch => ?_
  · rw [State.chan_of_set hc]
    split
    · exact Channel.glow_of_dark (Channel.abortedAt_dark _ _ _).2
    · rename_i hne
      rw [h.stage_glow, hrun]
      have hst : st ≠ st' := fun e => hne (by rw [e])
      simp [hst]
  · rw [State.chan_of_set hc, if_neg (hch st)]

theorem OwnersAgree.finisherHalted {s : State} (h : OwnersAgree s) {n : Nat} {c a : Mark}
    (hrun : s.finisher = .running n c a) (r : AbortReason) (reason : HoldReason) :
    OwnersAgree (finisherHalted s n c a r reason) := by
  have hc := finisherHalted_channels s n c a r reason
  have hu : (Machine.finisherHalted s n c a r reason).units = s.units := by
    unfold Machine.finisherHalted
    cases c <;> cases a <;> simp
  have hf : (Machine.finisherHalted s n c a r reason).finisher = .halted n c a reason := by
    unfold Machine.finisherHalted
    cases c <;> cases a <;> simp
  obtain ⟨huvc, huva, _⟩ := h.finisherAgrees
  rw [hrun] at huvc huva
  refine h.finisherWritten hu ⟨?_, ?_, by simp [hf]⟩ fun ch hfc hfa => ?_
  · rw [hf, State.chan, hc]
    cases c with
    | openMark => cases a <;> simpa using Channel.glow_of_dark (Channel.abortedAt_dark _ r _).2
    | reached => cases a <;> simpa [State.chan] using huvc
  · rw [hf, State.chan, hc]
    cases a with
    | openMark => cases c <;> simpa using Channel.glow_of_dark (Channel.abortedAt_dark _ r _).2
    | reached => cases c <;> simpa [State.chan] using huva
  · rw [State.chan, hc]
    cases c <;> cases a <;> simp [hfc, hfa, State.chan]

/-- R66: an abort that has a hold reason keeps the owners in agreement. -/
theorem OwnersAgree.abortRun {s : State} (h : OwnersAgree s) (ch : ChannelId) {r : AbortReason} {reason : HoldReason}
    (hr : r.hold = some reason) : OwnersAgree (s.abortRun ch r) := by
  by_cases hs : (s.chan ch).state = .exposing
  · obtain ⟨u, n, st, rfl, hrun⟩ | ⟨n, c, a, hrun, hch⟩ := h.owner_of_exposing hs
    · rw [hrun.abortRun_eq hr]
      exact h.unitHalted hrun.unit r reason
    · rw [hrun.abortRun_eq hch hr]
      exact h.finisherHalted hrun.finisher r reason
  · rw [State.abortRun_of_not_exposing hs]
    exact h

theorem OwnersAgree.abortAll {s : State} (h : OwnersAgree s) (chs : List ChannelId) {r : AbortReason} {reason : HoldReason}
    (hr : r.hold = some reason) : OwnersAgree (s.abortAll chs r) := by
  unfold State.abortAll
  induction chs generalizing s with
  | nil => exact h
  | cons c cs ih => exact ih (h.abortRun c hr)

theorem OwnersAgree.abortUnit {s : State} (h : OwnersAgree s) (u : UnitId) {r : AbortReason} {reason : HoldReason}
    (hr : r.hold = some reason) : OwnersAgree (s.abortUnit u r) := by
  unfold State.abortUnit
  split
  · exact h.abortRun _ hr
  · exact h

theorem OwnersAgree.abortFinisher {s : State} (h : OwnersAgree s) {r : AbortReason} {reason : HoldReason}
    (hr : r.hold = some reason) : OwnersAgree (s.abortFinisher r) := by
  unfold State.abortFinisher
  split
  · exact h.abortAll _ hr
  · exact h

theorem OwnersAgree.enterLost {s : State} (h : OwnersAgree s) (p : Port) : OwnersAgree (s.enterLost p) := by
  have hraised : OwnersAgree ((s.setPort p { s.port p with state := .lost }).raiseSilent p) :=
    h.same (by simp) (by simp) (by simp)
  unfold State.enterLost
  dsimp only
  split
  · exact hraised
  · exact hraised.abortUnit _ rfl
  · exact hraised.abortUnit _ rfl
  · exact hraised.abortFinisher rfl
  · exact hraised.same (by simp) (by simp) (by simp)

theorem OwnersAgree.checkSilence {s : State} (h : OwnersAgree s) : OwnersAgree s.checkSilence := by
  unfold State.checkSilence
  generalize arrange (Config.turn s.now) allPorts = l
  induction l generalizing s with
  | nil => exact h
  | cons p l ih =>
    refine ih ?_
    dsimp only
    split
    · split
      · exact h.enterLost p
      · exact h
    · exact h

end Sys2Proof.Machine
end

section
/-! SUPPORT. R76, R153 through the starts, the reports of a reached run, the cancels and every command; the records that every
step keeps in agreement. -/

namespace Sys2Proof.Machine

/-! ## Starts and reached runs on the channels -/

theorem State.startChannel_channels (s : State) (ch : ChannelId) (d : Docket) (target initial : Nat) :
    (s.startChannel ch d target initial).channels = s.channels.set ch
      (if target ≤ initial then (s.chan ch).completed (s.working.channels.get ch) d target initial
       else (s.chan ch).started (s.working.channels.get ch) d target initial s.now s.microNow) := by
  unfold State.startChannel
  dsimp only
  split <;> simp

theorem Channel.started_glow (c : Channel) (x : ChanSettings) (d : Docket) (target initial now micro : Nat) :
    (c.started x d target initial now micro).glow = some (some d.number) := by
  have hrun : (c.started x d target initial now micro).state = .exposing ∧
      (c.started x d target initial now micro).run = some d.asRun := by
    simp only [Channel.started]
    split <;> exact ⟨rfl, rfl⟩
  exact Channel.glow_eq_some.mpr ⟨hrun.1, by rw [hrun.2]; rfl⟩

/-- R51, R53: an IDLE channel asked to run is EXPOSING for the docket, or complete and dark. -/
theorem State.startChannel_glow (s : State) {ch : ChannelId} (hi : (s.chan ch).state = .idle) (d : Docket)
    (target initial : Nat) : ((s.startChannel ch d target initial).chan ch).glow =
      if target ≤ initial then none else some (some d.number) := by
  rw [State.chan_of_set (s.startChannel_channels ch d target initial), if_pos rfl]
  split
  · exact Channel.glow_of_dark (by simp [Channel.completed, hi])
  · exact Channel.started_glow _ _ _ _ _ _ _

theorem State.startChannel_chan_ne (s : State) {ch c : ChannelId} (h : c ≠ ch) (d : Docket) (target initial : Nat) :
    (s.startChannel ch d target initial).chan c = s.chan c := by
  rw [State.chan_of_set (s.startChannel_channels ch d target initial), if_neg h]

theorem State.endTail_channels (s : State) (c : ChannelId) :
    (s.endTail c).channels = s.channels.set c (s.chan c).toIdle := by
  unfold State.endTail
  dsimp only
  split
  · split <;> simp [State.chan]
  · simp

theorem State.endTailIfZero_chan_ne (s : State) {ch c : ChannelId} (h : c ≠ ch) :
    (s.endTailIfZero ch).chan c = s.chan c := by
  unfold State.endTailIfZero
  split
  · rw [State.chan_of_set (s.endTail_channels ch), if_neg h]
  · rfl

/-- A channel that has left EXPOSING stays dark at the end of its tail. -/
theorem State.endTailIfZero_glow {s : State} {ch : ChannelId} (h : (s.chan ch).state ≠ .exposing) :
    ((s.endTailIfZero ch).chan ch).glow = none :=
  Channel.glow_of_dark fun g => h ((s.endTailIfZero_lampsFall ch).lit ch g)

theorem State.chanToTail_chan (s : State) (ch c : ChannelId) (e : LastEnd) :
    (s.chanToTail ch e).chan c = if c = ch then (s.chan ch).toTail e s.now else s.chan c := State.setChan_chan ..

/-- R157: the finisher after one of its channels was reached. -/
theorem State.finisherReached_finisher (s : State) (n : Nat) (c a : Mark) (ch : ChannelId) :
    (s.finisherReached n c a ch).finisher =
      if (if ch = .FC then Mark.reached else c) = .reached ∧ (if ch = .FA then Mark.reached else a) = .reached then .vacant
      else .running n (if ch = .FC then .reached else c) (if ch = .FA then .reached else a) := by
  unfold State.finisherReached
  dsimp only
  generalize (if ch = .FC then Mark.reached else c) = c'
  generalize (if ch = .FA then Mark.reached else a) = a'
  split <;> simp [State.finishComplete]

/-- What a unit's record is after its stage was reached (R81, R82). -/
def reachedUnit (n : Nat) : Stage → UnitRecord
  | .back => .loaded n
  | .main => .vacant

@[simp] theorem reachedUnit_runs (n : Nat) (st st' : Stage) : (reachedUnit n st).runs st' = none := by cases st <;> rfl

theorem State.stageReached_units (s : State) (u : UnitId) (n : Nat) (st : Stage) :
    (s.stageReached u n st).units = s.units.set u (reachedUnit n st) := by
  cases st <;> simp [State.stageReached, State.backReached, State.mainReached, reachedUnit]

/-- R66: an abort with the reason CANCELLED darkens the channel and reports to nobody. -/
theorem State.abortRun_cancelled_chan (t : State) (ch c : ChannelId) :
    (c ≠ ch → (t.abortRun ch .cancelled).chan c = t.chan c) ∧ ((t.abortRun ch .cancelled).chan ch).glow = none := by
  have habort : t.abortRun ch .cancelled = if (t.chan ch).state = .exposing then
      (t.chanToTail ch (.aborted .cancelled)).endTailIfZero ch else t := rfl
  refine ⟨fun hc => ?_, Channel.glow_of_dark (t.abortRun_dark ch .cancelled)⟩
  rw [habort]
  split
  · rw [State.endTailIfZero_chan_ne _ hc, State.chanToTail_chan, if_neg hc]
  · rfl

theorem State.abortRun_cancelled_owners {t : State} {ch : ChannelId} :
    (t.abortRun ch .cancelled).units = t.units ∧ (t.abortRun ch .cancelled).finisher = t.finisher := by
  have habort : t.abortRun ch .cancelled = if (t.chan ch).state = .exposing then
      (t.chanToTail ch (.aborted .cancelled)).endTailIfZero ch else t := rfl
  rw [habort]
  split <;> simp

/-! ## The operations on the owners -/

section
variable {s : State} (h : OwnersAgree s)
include h

/-- R81, R82: a reached stage frees its unit. -/
theorem OwnersAgree.reachStage {u : UnitId} {n : Nat} {st : Stage} (hrun : RunsStage s u n st) :
    OwnersAgree (s.reachRun (stageChannel u st)) := by
  obtain ⟨hunit, hstate, hdocket⟩ := hrun
  obtain ⟨t, ht⟩ : ∃ t, t = (s.chanToTail (stageChannel u st) .reached).stageReached u n st := ⟨_, rfl⟩
  have hreach : s.reachRun (stageChannel u st) = t.endTailIfZero (stageChannel u st) := by
    rw [State.reachRun, Channel.runNumber_of_map hdocket, State.reportReached, channelOwner_stageChannel, ht]
    dsimp only
    rw [if_pos (show (s.chanToTail (stageChannel u st) .reached).unit u = .running n st from hunit)]
  have hunits : t.units = s.units.set u (reachedUnit n st) := by
    rw [ht, State.stageReached_units]
    simp
  have hfin : t.finisher = s.finisher := by simp [ht]
  have hchan (c : ChannelId) : t.chan c = (s.chanToTail (stageChannel u st) .reached).chan c := by
    simp [State.chan, ht]
  rw [hreach]
  refine h.unitWritten u (x := reachedUnit n st) (by simp [hunits]) (by simp [hfin]) (fun st' => ?_) fun ch hch => ?_
  · rw [reachedUnit_runs]
    by_cases he : stageChannel u st' = stageChannel u st
    · rw [he]
      refine State.endTailIfZero_glow ?_
      rw [hchan, State.chanToTail_chan, if_pos rfl]
      simp [Channel.toTail]
    · rw [State.endTailIfZero_chan_ne _ he, hchan, State.chanToTail_chan, if_neg he, h.stage_glow, hunit]
      have hst : st ≠ st' := fun e => he (by rw [e])
      simp [hst]
  · rw [State.endTailIfZero_chan_ne _ (hch st), hchan, State.chanToTail_chan, if_neg (hch st)]

/-- R157: a reached finisher channel marks REACHED, or frees the finisher. -/
theorem OwnersAgree.reachFinish {n : Nat} {c a : Mark} (hrun : RunsFinish s n c a) {ch : ChannelId}
    (hch : (ch = .FC ∧ c = .openMark) ∨ (ch = .FA ∧ a = .openMark)) : OwnersAgree (s.reachRun ch) := by
  obtain ⟨huvc, huva, _⟩ := h.finisherAgrees
  obtain ⟨hfin, _, hruns, hrunsA⟩ := hrun
  rw [hfin] at huvc huva
  have hdocket : (s.chan ch).run.map RunDocket.number = some n := by
    obtain ⟨rfl, hc⟩ | ⟨rfl, ha⟩ := hch
    · exact (hruns hc).2
    · exact (hrunsA ha).2
  obtain ⟨t, ht⟩ : ∃ t, t = (s.chanToTail ch .reached).finisherReached n c a ch := ⟨_, rfl⟩
  have hreach : s.reachRun ch = t.endTailIfZero ch := by
    have howner : channelOwner ch = .finisher := by obtain ⟨rfl, _⟩ | ⟨rfl, _⟩ := hch <;> rfl
    have hmark : (FinisherRecord.running n c a).markOf ch = some .openMark := by
      obtain ⟨rfl, rfl⟩ | ⟨rfl, rfl⟩ := hch <;> rfl
    have hfin' : (s.chanToTail ch .reached).finisher = .running n c a := hfin
    rw [State.reachRun, Channel.runNumber_of_map hdocket, State.reportReached, howner, ht]
    dsimp only
    rw [hfin']
    dsimp only
    rw [if_pos ⟨rfl, hmark⟩]
  have hunits : t.units = s.units := by simp [ht]
  have hchan (d : ChannelId) : t.chan d = (s.chanToTail ch .reached).chan d := by simp [State.chan, ht]
  have hfin2 : t.finisher = if (if ch = .FC then Mark.reached else c) = .reached ∧
      (if ch = .FA then Mark.reached else a) = .reached then .vacant
      else .running n (if ch = .FC then .reached else c) (if ch = .FA then .reached else a) := by
    rw [ht, State.finisherReached_finisher]
  have hdark : ((t.endTailIfZero ch).chan ch).glow = none := by
    refine State.endTailIfZero_glow ?_
    rw [hchan, State.chanToTail_chan, if_pos rfl]
    simp [Channel.toTail]
  have hother (d : ChannelId) (hd : d ≠ ch) : (t.endTailIfZero ch).chan d = s.chan d := by
    rw [State.endTailIfZero_chan_ne _ hd, hchan, State.chanToTail_chan, if_neg hd]
  rw [hreach]
  refine h.finisherWritten (by simp [hunits]) ?_ fun d hfc hfa => ?_
  · obtain ⟨rfl, rfl⟩ | ⟨rfl, rfl⟩ := hch
    · refine ⟨?_, ?_, fun m => ?_⟩
      · rw [hdark]
        cases a <;> simp [hfin2]
      · rw [hother .FA (by decide), huva]
        cases a <;> simp [hfin2]
      · cases a <;> simp [hfin2]
    · refine ⟨?_, ?_, fun m => ?_⟩
      · rw [hother .FC (by decide), huvc]
        cases c <;> simp [hfin2]
      · rw [hdark]
        cases c <;> simp [hfin2]
      · cases c <;> simp [hfin2]
  · refine congrArg Channel.glow (hother d ?_)
    obtain ⟨rfl, _⟩ | ⟨rfl, _⟩ := hch
    · exact hfc
    · exact hfa

theorem OwnersAgree.reachRun {ch : ChannelId} (hs : (s.chan ch).state = .exposing) : OwnersAgree (s.reachRun ch) := by
  obtain ⟨u, n, st, rfl, hrun⟩ | ⟨n, c, a, hrun, hch⟩ := h.owner_of_exposing hs
  · exact h.reachStage hrun
  · exact h.reachFinish hrun hch

/-- A unit that runs no stage, replaced by one that runs none. -/
theorem OwnersAgree.unitAtRest {t : State} {u : UnitId} {x : UnitRecord} (hold : ∀ st, (s.unit u).runs st = none)
    (hnew : ∀ st, x.runs st = none) (hu : t.units = s.units.set u x) (hf : t.finisher = s.finisher)
    (hc : t.channels = s.channels) : OwnersAgree t := by
  have hchan (ch : ChannelId) : t.chan ch = s.chan ch := by simp [State.chan, hc]
  refine h.unitWritten u hu hf (fun st => ?_) fun ch _ => by rw [hchan]
  rw [hchan, h.stage_glow, hold, hnew]

/-- A finisher that runs no docket, replaced by one that runs none. -/
theorem OwnersAgree.finisherAtRest {t : State} (hold : ∀ ch, s.finisher.runs ch = none)
    (hnew : t.finisher = .vacant ∨ ∃ n, t.finisher = .loaded n) (hu : t.units = s.units) (hc : t.channels = s.channels) :
    OwnersAgree t := by
  have hchan (ch : ChannelId) : t.chan ch = s.chan ch := by simp [State.chan, hc]
  obtain ⟨huvc, huva, _⟩ := h.finisherAgrees
  refine h.finisherWritten hu ⟨?_, ?_, ?_⟩ fun ch _ _ => by rw [hchan]
  · rw [hchan, huvc, hold]
    obtain hv | ⟨n, hl⟩ := hnew <;> simp [*]
  · rw [hchan, huva, hold]
    obtain hv | ⟨n, hl⟩ := hnew <;> simp [*]
  · obtain hv | ⟨n, hl⟩ := hnew <;> simp [*]

/-- R51, R76: a stage started on an IDLE channel runs, unless it was complete at once. -/
theorem OwnersAgree.startStage {u : UnitId} {st : Stage} {n target initial : Nat} {d : Docket} (hd : d.number = n)
    (hrest : ∀ st', (s.unit u).runs st' = none) (hi : (s.chan (stageChannel u st)).state = .idle) {t : State}
    {x : UnitRecord} (hx : ∀ st', x.runs st' = if target ≤ initial then none else (UnitRecord.running n st).runs st')
    (hu : t.units = s.units.set u x) (hf : t.finisher = s.finisher)
    (hc : t.channels = (s.startChannel (stageChannel u st) d target initial).channels) : OwnersAgree t := by
  have hchan (ch : ChannelId) : t.chan ch = (s.startChannel (stageChannel u st) d target initial).chan ch := by
    simp [State.chan, hc]
  refine h.unitWritten u hu hf (fun st' => ?_) fun ch hch => ?_
  · rw [hx, hchan]
    by_cases he : stageChannel u st' = stageChannel u st
    · obtain ⟨_, rfl⟩ := stageChannel_inj.mp he
      rw [s.startChannel_glow hi, hd]
      split <;> simp
    · rw [s.startChannel_chan_ne he, h.stage_glow, hrest]
      have hst : st ≠ st' := fun e => he (by rw [e])
      split <;> simp [hst]
  · rw [hchan, s.startChannel_chan_ne (hch st)]

/-- R53, R156, R160: the finisher RUNNING with OPEN channels that are EXPOSING, or complete. -/
theorem OwnersAgree.finisherRuns {t : State} {n : Nat} {c a : Mark}
    (hf : t.finisher = if c = .reached ∧ a = .reached then .vacant else .running n c a) (hu : t.units = s.units)
    (hfc : (t.chan .FC).glow = if c = .openMark then some (some n) else none)
    (hfa : (t.chan .FA).glow = if a = .openMark then some (some n) else none)
    (hg : ∀ ch, ch ≠ .FC → ch ≠ .FA → (t.chan ch).glow = (s.chan ch).glow) : OwnersAgree t := by
  refine h.finisherWritten hu ⟨?_, ?_, ?_⟩ hg
  · rw [hfc, hf]
    cases c <;> cases a <;> simp
  · rw [hfa, hf]
    cases c <;> cases a <;> simp
  · rw [hf]
    cases c <;> cases a <;> simp

/-- R66, R93: the cancelled run of a unit that is VACANT already. -/
theorem OwnersAgree.cancelAtUnit (u : UnitId) (n : Nat) : OwnersAgree (s.cancelAtUnit u n) := by
  obtain ⟨t, ht⟩ : ∃ t, t = (s.setUnit u .vacant).enterScrapped n := ⟨_, rfl⟩
  have hunits : t.units = s.units.set u .vacant := by simp [ht]
  have hfin : t.finisher = s.finisher := by simp [ht]
  have hchan (c : ChannelId) : t.chan c = s.chan c := by simp [State.chan, ht]
  unfold State.cancelAtUnit
  dsimp only
  rw [← ht]
  cases hu : s.unit u with
  | running m st =>
    dsimp only
    obtain ⟨hother, hdark⟩ : (∀ c, c ≠ stageChannel u st →
        (t.abortRun (stageChannel u st) .cancelled).chan c = s.chan c) ∧ _ :=
      ⟨fun c hc => ((t.abortRun_cancelled_chan _ c).1 hc).trans (hchan c), (t.abortRun_cancelled_chan _ .FC).2⟩
    refine h.unitWritten u (x := .vacant) ?_ ?_ (fun st' => ?_) fun ch hch => by rw [hother _ (hch st)]
    · rw [State.abortRun_cancelled_owners.1, hunits]
    · rw [State.abortRun_cancelled_owners.2, hfin]
    · by_cases he : stageChannel u st' = stageChannel u st
      · rw [he, hdark]
        rfl
      · rw [hother _ he, h.stage_glow, hu]
        have hst : st ≠ st' := fun e => he (by rw [e])
        simp [hst]
  | vacant | loaded _ | halted _ _ _ =>
    exact h.unitAtRest (x := .vacant) (by simp [hu]) (by simp) hunits hfin (by simp [ht])

/-- R66, R163: the cancelled run of a finisher that is VACANT already. -/
theorem OwnersAgree.cancelAtFinisher (n : Nat) : OwnersAgree (s.cancelAtFinisher n) := by
  obtain ⟨t, ht⟩ : ∃ t, t = (s.setFinisher .vacant).enterScrapped n := ⟨_, rfl⟩
  have hunits : t.units = s.units := by simp [ht]
  have hfin : t.finisher = .vacant := by simp [ht]
  have hchan (c : ChannelId) : t.chan c = s.chan c := by simp [State.chan, ht]
  obtain ⟨huvc, huva, _⟩ := h.finisherAgrees
  unfold State.cancelAtFinisher
  dsimp only
  rw [← ht]
  cases hf : s.finisher with
  | running m c a =>
    rw [hf] at huvc huva
    dsimp only
    have hC := fun d => t.abortRun_cancelled_chan .FC d
    have hA := fun d => t.abortRun_cancelled_chan .FA d
    have hCA := fun d => (t.abortRun .FC .cancelled).abortRun_cancelled_chan .FA d
    cases c <;> cases a
    · refine h.finisherRuns (t := (t.abortRun .FC .cancelled).abortRun .FA .cancelled) (n := m) (c := .reached)
        (a := .reached) ?_ ?_ ?_ ?_ fun ch hc ha => ?_
      · rw [State.abortRun_cancelled_owners.2, State.abortRun_cancelled_owners.2, hfin]; rfl
      · rw [State.abortRun_cancelled_owners.1, State.abortRun_cancelled_owners.1, hunits]
      · rw [(hCA .FC).1 (by decide), (hC .FC).2]; rfl
      · rw [(hCA .FA).2]; rfl
      · rw [(hCA ch).1 ha, (hC ch).1 hc, hchan]
    · refine h.finisherRuns (t := t.abortRun .FC .cancelled) (n := m) (c := .reached)
        (a := .reached) ?_ ?_ ?_ ?_ fun ch hc ha => ?_
      · rw [State.abortRun_cancelled_owners.2, hfin]; rfl
      · rw [State.abortRun_cancelled_owners.1, hunits]
      · rw [(hC .FC).2]; rfl
      · rw [(hC .FA).1 (by decide), hchan, huva]; rfl
      · rw [(hC ch).1 hc, hchan]
    · refine h.finisherRuns (t := t.abortRun .FA .cancelled) (n := m) (c := .reached)
        (a := .reached) ?_ ?_ ?_ ?_ fun ch hc ha => ?_
      · rw [State.abortRun_cancelled_owners.2, hfin]; rfl
      · rw [State.abortRun_cancelled_owners.1, hunits]
      · rw [(hA .FC).1 (by decide), hchan, huvc]; rfl
      · rw [(hA .FA).2]; rfl
      · rw [(hA ch).1 ha, hchan]
    · exact absurd hf (h.finisherAgrees.someOpen m)
  | vacant | loaded _ | halted _ _ _ _ =>
    exact h.finisherAtRest (by simp [hf]) (.inl hfin) hunits (by simp [ht])

end

end Sys2Proof.Machine
end

section
/-! SUPPORT. R76, R153 through every owning rule and every event. -/

namespace Sys2Proof.Machine

/-! ## The owning rules of the docket table, the washout and the dryer write no owner -/

@[simp] theorem registerReply_holders (recipe area coverage pref cls : Nat) (s : State) : (registerReply recipe area coverage pref cls s).1.units = s.units ∧
    (registerReply recipe area coverage pref cls s).1.finisher = s.finisher ∧ (registerReply recipe area coverage pref cls s).1.channels = s.channels := by
  unfold registerReply
  split
  · split
    · split
      · exact ⟨rfl, rfl, rfl⟩
      split
      · exact ⟨rfl, rfl, rfl⟩
      · split
        · exact ⟨rfl, rfl, rfl⟩
        · simp
    · exact ⟨rfl, rfl, rfl⟩
  · exact ⟨rfl, rfl, rfl⟩

@[simp] theorem releaseReply_holders (n form : Nat) (s : State) : (releaseReply n form s).1.units = s.units ∧
    (releaseReply n form s).1.finisher = s.finisher ∧ (releaseReply n form s).1.channels = s.channels := by
  unfold releaseReply
  split
  · exact ⟨rfl, rfl, rfl⟩
  · split
    · exact ⟨rfl, rfl, rfl⟩
    · split
      · exact ⟨rfl, rfl, rfl⟩
      split
      · simp
      split
      · exact ⟨rfl, rfl, rfl⟩
      · simp

@[simp] theorem retireReply_holders (n : Nat) (s : State) : (retireReply n s).1.units = s.units ∧
    (retireReply n s).1.finisher = s.finisher ∧ (retireReply n s).1.channels = s.channels := by
  unfold retireReply
  split
  · exact ⟨rfl, rfl, rfl⟩
  · split
    · exact ⟨rfl, rfl, rfl⟩
    · simp [State.freeSlotOf]

@[simp] theorem feedReply_holders (s : State) : (feedReply s).1.units = s.units ∧
    (feedReply s).1.finisher = s.finisher ∧ (feedReply s).1.channels = s.channels := by
  unfold feedReply
  split
  · exact ⟨rfl, rfl, rfl⟩
  · split
    · exact ⟨rfl, rfl, rfl⟩
    split
    · simp [refuse]
    split
    · exact ⟨rfl, rfl, rfl⟩
    · split
      · simp [refuse]
      · split <;> simp [refuse]

@[simp] theorem exitReply_holders (n : Nat) (s : State) : (exitReply n s).1.units = s.units ∧
    (exitReply n s).1.finisher = s.finisher ∧ (exitReply n s).1.channels = s.channels := by
  unfold exitReply
  split
  · exact ⟨rfl, rfl, rfl⟩
  · split
    · exact ⟨rfl, rfl, rfl⟩
    split
    · exact ⟨rfl, rfl, rfl⟩
    · split
      · exact ⟨rfl, rfl, rfl⟩
      · simp

@[simp] theorem drawerLoadedReply_holders (d n : Nat) (s : State) : (drawerLoadedReply d n s).1.units = s.units ∧
    (drawerLoadedReply d n s).1.finisher = s.finisher ∧ (drawerLoadedReply d n s).1.channels = s.channels := by
  unfold drawerLoadedReply
  split
  · exact ⟨rfl, rfl, rfl⟩
  · split
    · exact ⟨rfl, rfl, rfl⟩
    · split
      · split
        · exact ⟨rfl, rfl, rfl⟩
        · simp
      · exact ⟨rfl, rfl, rfl⟩

@[simp] theorem unloadReply_holders (i : Fin 8) (n k : Nat) (short : Bool) (s : State) : (unloadReply i n k short s).1.units = s.units ∧
    (unloadReply i n k short s).1.finisher = s.finisher ∧ (unloadReply i n k short s).1.channels = s.channels := by
  simp [unloadReply]

@[simp] theorem drawerUnloadedReply_holders (d force : Nat) (s : State) : (drawerUnloadedReply d force s).1.units = s.units ∧
    (drawerUnloadedReply d force s).1.finisher = s.finisher ∧ (drawerUnloadedReply d force s).1.channels = s.channels := by
  unfold drawerUnloadedReply
  split
  · exact ⟨rfl, rfl, rfl⟩
  · split
    · exact ⟨rfl, rfl, rfl⟩
    · split
      · simp
      · split
        · exact ⟨rfl, rfl, rfl⟩
        · simp
      · exact ⟨rfl, rfl, rfl⟩

@[simp] theorem drawerServiceReply_holders (d dir : Nat) (s : State) : (drawerServiceReply d dir s).1.units = s.units ∧
    (drawerServiceReply d dir s).1.finisher = s.finisher ∧ (drawerServiceReply d dir s).1.channels = s.channels := by
  unfold drawerServiceReply
  split
  · exact ⟨rfl, rfl, rfl⟩
  · split
    · split
      · exact ⟨rfl, rfl, rfl⟩
      · exact ⟨rfl, rfl, rfl⟩
    split
    · split
      · simp
      · exact ⟨rfl, rfl, rfl⟩
    · exact ⟨rfl, rfl, rfl⟩

/-! ## The owning rules of the units and the finisher -/

section
variable {s : State} (h : OwnersAgree s)
include h

theorem claimReply_owners (n : Nat) (u : UnitId) : OwnersAgree (claimReply n u s).1 := by
  unfold claimReply
  split
  · exact h
  · rename_i hv
    split
    · exact h
    · split
      · exact h
      split
      · exact h
      split
      · exact h
      · exact h.unitAtRest (u := u) (x := .loaded n) (by simp [Decidable.not_not.mp hv]) (by simp) (by simp) (by simp) (by simp)

theorem unitReturnReply_owners (n : Nat) (u : UnitId) : OwnersAgree (unitReturnReply n u s).1 := by
  unfold unitReturnReply
  split
  · exact h
  · split
    · exact h
    · split
      · exact h
      · rename_i hu
        have hl : s.unit u = .loaded n := Decidable.not_not.mp (not_or.mp hu).1
        exact h.unitAtRest (u := u) (x := .vacant) (by simp [hl]) (by simp) (by simp) (by simp) (by simp)

theorem startStageReply_owners (st : Stage) (n : Nat) (u : UnitId) : OwnersAgree (startStageReply st n u s).1 := by
  unfold startStageReply
  split
  · exact h
  · rename_i d hd
    split
    · exact h
    · split
      · exact h
      · rename_i hl
        obtain ⟨hl, _⟩ := Decidable.not_not.mp hl
        split
        · exact h
        · rename_i hfree
          have hi := (State.startRefusal_none hfree).2 _ (List.mem_singleton_self _)
          dsimp only
          split
          · rename_i ht
            exact h.startStage (State.docket_number hd) (by simp [hl]) hi (x := reachedUnit n st) (target := d.stageTarget st)
              (initial := 0) (by simp [ht]) (by simp [State.stageReached_units]) (by simp) (by simp)
          · rename_i ht
            exact h.startStage (State.docket_number hd) (by simp [hl]) hi (x := .running n st) (target := d.stageTarget st)
              (initial := 0) (by simp [ht]) (by simp) (by simp) (by simp)

theorem unitStopReply_owners (n : Nat) (u : UnitId) : OwnersAgree (unitStopReply n u s).1 := by
  unfold unitStopReply
  split
  · exact h
  · split
    · exact h
    · split
      · exact h.abortUnit u rfl
      · exact h

theorem unitResumeReply_owners (n : Nat) (u : UnitId) : OwnersAgree (unitResumeReply n u s).1 := by
  unfold unitResumeReply
  split
  · exact h
  · rename_i d hd
    split
    · exact h
    · split
      · rename_i m st r hhalted
        dsimp only
        split
        · exact h
        · rename_i hfree
          have hi := (State.startRefusal_none hfree).2 _ (List.mem_singleton_self _)
          split
          · rename_i ht
            exact h.startStage (State.docket_number hd) (by simp [hhalted]) hi (x := reachedUnit n st)
              (target := d.stageTarget st) (initial := d.stagePartial) (by simp [ht]) (by simp [State.stageReached_units])
              (by simp) (by simp)
          · rename_i ht
            exact h.startStage (State.docket_number hd) (by simp [hhalted]) hi (x := .running n st)
              (target := d.stageTarget st) (initial := d.stagePartial) (by simp [ht]) (by simp) (by simp) (by simp)
      · exact h

theorem claimFinishReply_owners (n : Nat) : OwnersAgree (claimFinishReply n s).1 := by
  unfold claimFinishReply
  split
  · exact h
  · rename_i hv
    split
    · exact h
    · split
      · exact h
      · exact h.finisherAtRest (by simp [Decidable.not_not.mp hv]) (.inr ⟨n, by simp⟩) (by simp) (by simp)

theorem finisherReturnReply_owners (n : Nat) : OwnersAgree (finisherReturnReply n s).1 := by
  unfold finisherReturnReply
  split
  · exact h
  · split
    · exact h
    · split
      · exact h
      · rename_i hl
        exact h.finisherAtRest (by simp [Decidable.not_not.mp hl]) (.inl (by simp)) (by simp) (by simp)

theorem finisherStopReply_owners (n : Nat) : OwnersAgree (finisherStopReply n s).1 := by
  unfold finisherStopReply
  split
  · exact h
  · split
    · exact h
    · split
      · exact h.abortFinisher rfl
      · exact h

omit h in
theorem State.finishRun_owners (s : State) (n : Nat) (c a : Mark) : (s.finishRun n c a).units = s.units ∧
    (s.finishRun n c a).channels = s.channels ∧
    (s.finishRun n c a).finisher = if c = .reached ∧ a = .reached then .vacant else .running n c a := by
  unfold State.finishRun
  split <;> simp [State.finishComplete]

omit h in
theorem markAfter_eq_open (target initial : Nat) : markAfter target initial = .openMark ↔ ¬target ≤ initial := by
  unfold markAfter
  split <;> simp [*]

theorem startFinishReply_owners (n : Nat) : OwnersAgree (startFinishReply n s).1 := by
  unfold startFinishReply
  split
  · exact h
  · rename_i d hd
    split
    · exact h
    · split
      · exact h
      · rename_i hl
        split
        · exact h
        · rename_i hfree
          obtain ⟨_, hidle⟩ := State.startRefusal_none hfree
          have hA : ((s.startChannel .FC d (d.finishTarget .FC) 0).chan .FA).state = .idle := by
            rw [s.startChannel_chan_ne (by decide)]
            exact hidle _ (by simp)
          obtain ⟨t, ht⟩ : ∃ t, t = (s.startChannel .FC d (d.finishTarget .FC) 0).startChannel .FA d (d.finishTarget .FA) 0 :=
            ⟨_, rfl⟩
          have hg (ch : ChannelId) : ch ≠ .FC → ch ≠ .FA → t.chan ch = s.chan ch := fun hc ha => by
            rw [ht, State.startChannel_chan_ne _ ha, State.startChannel_chan_ne _ hc]
          dsimp only
          rw [← ht]
          obtain ⟨hru, hrc, hrf⟩ := t.finishRun_owners n (markAfter (d.finishTarget .FC) 0) (markAfter (d.finishTarget .FA) 0)
          have hchan (ch : ChannelId) : (t.finishRun n (markAfter (d.finishTarget .FC) 0)
              (markAfter (d.finishTarget .FA) 0)).chan ch = t.chan ch := by simp only [State.chan, hrc]
          refine h.finisherRuns hrf (by rw [hru, ht]; simp) ?_ ?_ fun ch hc ha => by rw [hchan, hg ch hc ha]
          · rw [hchan, ht, State.startChannel_chan_ne _ (by decide), s.startChannel_glow (hidle _ (by simp)),
              State.docket_number hd]
            simp only [markAfter_eq_open, ite_not]
          · rw [hchan, ht, State.startChannel_glow _ hA, State.docket_number hd]
            simp only [markAfter_eq_open, ite_not]

omit h in
/-- R160: a channel of a HALTED finisher after the RESUME. -/
theorem State.resumeFinish_glow {s : State} {ch : ChannelId} {m : Mark} {d : Docket}
    (hi : m = .openMark → (s.chan ch).state = .idle) (hr : m = .reached → (s.chan ch).glow = none) :
    ((s.resumeFinish ch m d).chan ch).glow = if markAfterResume m ch d = .openMark then some (some d.number) else none := by
  unfold State.resumeFinish markAfterResume
  cases m with
  | openMark =>
    simp only [if_true, s.startChannel_glow (hi rfl), markAfter_eq_open, ite_not]
  | reached => simpa using hr rfl

omit h in
theorem State.resumeFinish_chan_ne (s : State) {ch c : ChannelId} (hc : c ≠ ch) (m : Mark) (d : Docket) :
    (s.resumeFinish ch m d).chan c = s.chan c := by
  unfold State.resumeFinish
  split
  · exact s.startChannel_chan_ne hc d _ _
  · rfl

/-- R160: the OPEN channels of a HALTED finisher asked to run on, and the finisher RUNNING or complete. -/
theorem resumeFinish_owners {m n : Nat} {c a : Mark} {r : HoldReason} {d : Docket} (hd : d.number = n)
    (hhalted : s.finisher = .halted m c a r) (hfree : s.startRefusal s.finisher.openChannels = none) {t : State}
    (ht : t.channels = ((s.resumeFinish .FC c d).resumeFinish .FA a d).channels) (hu : t.units = s.units) :
    OwnersAgree (t.finishRun n (markAfterResume c .FC d) (markAfterResume a .FA d)) := by
  obtain ⟨huvc, huva, _⟩ := h.finisherAgrees
  rw [hhalted] at huvc huva
  obtain ⟨_, hidle⟩ := State.startRefusal_none hfree
  rw [hhalted] at hidle
  have hC : c = .openMark → (s.chan .FC).state = .idle := fun hc => by
    refine hidle .FC ?_
    subst hc
    simp [FinisherRecord.openChannels, FinisherRecord.markOf]
  have hA : a = .openMark → (s.chan .FA).state = .idle := fun ha => by
    refine hidle .FA ?_
    subst ha
    simp [FinisherRecord.openChannels, FinisherRecord.markOf]
  obtain ⟨hru, hrc, hrf⟩ := t.finishRun_owners n (markAfterResume c .FC d) (markAfterResume a .FA d)
  have hchan (ch : ChannelId) : (t.finishRun n (markAfterResume c .FC d) (markAfterResume a .FA d)).chan ch =
      ((s.resumeFinish .FC c d).resumeFinish .FA a d).chan ch := by rw [State.chan, hrc, ht]; rfl
  refine h.finisherRuns hrf (hru.trans hu) ?_ ?_ fun ch hc ha => by
    rw [hchan, State.resumeFinish_chan_ne _ ha, State.resumeFinish_chan_ne _ hc]
  · rw [hchan, State.resumeFinish_chan_ne _ (by decide), State.resumeFinish_glow hC fun _ => huvc, hd]
  · rw [hchan, State.resumeFinish_glow (fun ha => by rw [State.resumeFinish_chan_ne _ (by decide)]; exact hA ha)
      (fun _ => by rw [State.resumeFinish_chan_ne _ (by decide)]; exact huva), hd]

theorem finisherResumeReply_owners (n : Nat) : OwnersAgree (finisherResumeReply n s).1 := by
  unfold finisherResumeReply
  split
  · exact h
  · rename_i d hd
    split
    · exact h
    · split
      · rename_i hhalted
        split
        · exact h
        · rename_i hfree
          dsimp only
          exact resumeFinish_owners h (State.docket_number hd) hhalted hfree (by simp) (by simp)
      · exact h

theorem cancelReply_owners (n : Nat) : OwnersAgree (cancelReply n s).1 := by
  have hholder (m : Nat) : OwnersAgree (s.cancelHolder m) := by
    unfold State.cancelHolder
    split
    · exact h.cancelAtUnit _ _
    split
    · exact h.cancelAtUnit _ _
    split
    · exact h.cancelAtFinisher _
    · exact h.same (by simp) (by simp) (by simp)
  unfold cancelReply
  split
  · exact h
  · split
    · exact h
    · dsimp only
      unfold State.cancelDocket
      dsimp only
      split
      case h_5 | h_6 | h_7 => exact hholder _
      all_goals exact h.same (by simp) (by simp) (by simp)

end

/-- The owners, with every channel dark, agree when none runs. -/
theorem OwnersAgree.of_vacant {s : State} (hu : s.units = ⟨.vacant, .vacant⟩) (hf : s.finisher = .vacant)
    (hc : ∀ ch, (s.chan ch).state ≠ .exposing) : OwnersAgree s := by
  refine ownersAgree_iff.mpr ⟨fun u st => ?_, ?_, ?_, ?_⟩
  · rw [Channel.glow_of_dark (hc _), State.unit, hu]
    cases u <;> rfl
  · rw [Channel.glow_of_dark (hc _), hf]; rfl
  · rw [Channel.glow_of_dark (hc _), hf]; rfl
  · simp [hf]

theorem lineClear_owners (s : State) : OwnersAgree s.lineClear := by
  refine .of_vacant rfl rfl fun ch => ?_
  have hchan : (s.lineClear.chan ch) = (s.chan ch).lineClear := by
    simp only [State.lineClear, State.chan, PerChannel.get_map]
  rw [hchan]
  unfold Channel.lineClear
  split <;> simp [*]

theorem clearChannelReply_owners {s : State} (h : OwnersAgree s) (p : Port) (code : Nat) :
    OwnersAgree (clearChannelReply p code s).1 := by
  unfold clearChannelReply
  split
  · exact h
  · rename_i ch _
    split
    · exact h
    · split
      · exact h
      · rename_i hfault
        split
        · exact h
        · refine h.congr rfl rfl fun c => ?_
          dsimp only
          rw [State.setChan_chan]
          split
          · rename_i e
            subst e
            rw [Channel.glow_of_dark (by simp), Channel.glow_of_dark (by simp [Decidable.not_not.mp hfault])]
          · rfl

theorem takenOf_owners {c : Instr} {s t : State} {x : Taken} (hx : takenOf s c = some x) (h : OwnersAgree t) :
    OwnersAgree (x.owner t).1 := by
  refine takenOf_keeps hx h fun hread => ?_
  cases c <;> cases hread <;> cases hx <;> dsimp only
  case cancel => exact cancelReply_owners h _
  case lineClear => exact lineClear_owners t
  case setSetting =>
    have hset (w : WorkingCopy) : OwnersAgree (t.setWorking w) := h.same rfl rfl rfl
    unfold setSettingReply
    split
    · split
      · exact h
      · dsimp only
        unfold State.setLineItem State.handOff
        split
        case h_6 => exact (hset _).checkSilence
        all_goals exact h.same (by simp) (by simp) (by simp)
    · split
      · exact h
      · exact hset _
    · exact h
  case recall.refl =>
    have hrecall (u : State) (old : WorkingCopy) (hu : OwnersAgree u) : OwnersAgree (u.handOnRecall old) := by
      have hsil (b : Prop) [Decidable b] (v : State) (hv : OwnersAgree v) : OwnersAgree (if b then v.checkSilence else v) := by
        split
        · exact hv.checkSilence
        · exact hv
      unfold State.handOnRecall
      dsimp only
      split
      · refine OwnersAgree.same (hsil _ _ ?_) rfl rfl rfl
        refine hu.same ?_ ?_ ?_ <;> · split <;> split <;> split <;> simp
      · refine hsil _ _ ?_
        refine hu.same ?_ ?_ ?_ <;> · split <;> split <;> split <;> simp
    unfold recallReply
    split
    · exact h
    · split
      · exact hrecall _ _ (h.same rfl rfl rfl)
      · exact hrecall _ _ (h.same (by simp) (by simp) (by simp))
  case clearChannel => exact clearChannelReply_owners h _ _
  case claim => exact onUnit_keeps h (fun u => claimReply_owners h _ u) _
  case startBack | startMain => exact onUnit_keeps h (fun u => startStageReply_owners h _ _ u) _
  case stop => exact onHolder_keeps h (fun u => unitStopReply_owners h _ u) (finisherStopReply_owners h _) _
  case resume => exact onHolder_keeps h (fun u => unitResumeReply_owners h _ u) (finisherResumeReply_owners h _) _
  case returnDocket => exact onHolder_keeps h (fun u => unitReturnReply_owners h _ u) (finisherReturnReply_owners h _) _
  case claimFinish => exact claimFinishReply_owners h _
  case startFinish => exact startFinishReply_owners h _
  case finisherStop => exact finisherStopReply_owners h _
  case finisherResume => exact finisherResumeReply_owners h _
  case finisherReturn => exact finisherReturnReply_owners h _
  all_goals exact h.same (by simp) (by simp) (by simp)

end Sys2Proof.Machine
end

section
/-! SUPPORT. R76, R153 through the events; the records that every step keeps in agreement. -/

namespace Sys2Proof.Machine

/-! ## A sensor pulse (R54, R55, R62 to R64) -/

/-- The channel with the moment of its last pulse. -/
def Channel.pulsedAt (c : Channel) (now : Nat) : Channel := { c with lastPulse := some now }

theorem exec_sensorPulse_eq (ch : ChannelId) (s : State) : exec (.sensorPulse ch) s = .next
    (match (s.chan ch).state with
    | .exposing =>
      if (((s.chan ch).pulsedAt s.now).exposedPulse s.now s.microNow).met = true then
        ((s.setChan ch ((s.chan ch).pulsedAt s.now)).setChan ch
          (((s.chan ch).pulsedAt s.now).exposedPulse s.now s.microNow)).reachRun ch
      else (s.setChan ch ((s.chan ch).pulsedAt s.now)).setChan ch
        (((s.chan ch).pulsedAt s.now).exposedPulse s.now s.microNow)
    | .tail => (s.setChan ch ((s.chan ch).pulsedAt s.now)).setChan ch ((s.chan ch).pulsedAt s.now).dosed
    | .idle => (s.setChan ch ((s.chan ch).pulsedAt s.now)).idlePulse ch
    | .fault => (s.setChan ch ((s.chan ch).pulsedAt s.now)).setChan ch
        { (s.chan ch).pulsedAt s.now with stray := satAdd Config.figureMax (s.chan ch).stray 1 }) := rfl

theorem exec_sensorPulse_exposing {s : State} {ch : ChannelId} (h : (s.chan ch).state = .exposing) :
    exec (.sensorPulse ch) s = .next
      (if (((s.chan ch).pulsedAt s.now).exposedPulse s.now s.microNow).met = true then
        (s.setChan ch (((s.chan ch).pulsedAt s.now).exposedPulse s.now s.microNow)).reachRun ch
      else s.setChan ch (((s.chan ch).pulsedAt s.now).exposedPulse s.now s.microNow)) := by
  rw [exec_sensorPulse_eq, h, State.setChan_setChan]

theorem exec_sensorPulse_tail {s : State} {ch : ChannelId} (h : (s.chan ch).state = .tail) :
    exec (.sensorPulse ch) s = .next (s.setChan ch ((s.chan ch).pulsedAt s.now).dosed) := by
  rw [exec_sensorPulse_eq, h]
  exact congrArg Host.Outcome.next (State.setChan_setChan _ _ _ _)

theorem exec_sensorPulse_idle {s : State} {ch : ChannelId} (h : (s.chan ch).state = .idle) :
    exec (.sensorPulse ch) s = .next ((s.setChan ch ((s.chan ch).pulsedAt s.now)).idlePulse ch) := by
  rw [exec_sensorPulse_eq, h]

theorem exec_sensorPulse_fault {s : State} {ch : ChannelId} (h : (s.chan ch).state = .fault) :
    exec (.sensorPulse ch) s = .next (s.setChan ch { (s.chan ch).pulsedAt s.now with
      stray := satAdd Config.figureMax (s.chan ch).stray 1 }) := by
  rw [exec_sensorPulse_eq, h]
  exact congrArg Host.Outcome.next (State.setChan_setChan _ _ _ _)

theorem Channel.exposedPulse_kept (c : Channel) (now us : Nat) :
    (c.exposedPulse now us).state = c.state ∧ (c.exposedPulse now us).permit = c.permit ∧
    (c.exposedPulse now us).run = c.run ∧ (c.exposedPulse now us).latched = c.latched ∧
    (c.exposedPulse now us).target = c.target := by
  unfold Channel.exposedPulse
  split <;> simp [Channel.dosed]

/-! ## The owners through the events -/

theorem OwnersAgree.setChan {s : State} (h : OwnersAgree s) {ch : ChannelId} {c : Channel} (hc : c.glow = (s.chan ch).glow) :
    OwnersAgree (s.setChan ch c) := by
  refine h.congr rfl rfl fun d => ?_
  rw [State.setChan_chan]
  split
  · rename_i e; subst e; exact hc
  · rfl

/-- A channel written with the state and the run it had. -/
theorem Channel.glow_congr {c d : Channel} (hs : c.state = d.state) (hr : c.run = d.run) : c.glow = d.glow := by
  unfold Channel.glow
  rw [hs, hr]

theorem State.pass_glow {s v : State} {ms : Nat} (hv : v = s.pass ms) (ch : ChannelId) :
    (v.chan ch).glow = (s.chan ch).glow := by
  rw [hv]
  show ((s.lineSeconds _).chan ch).glow = _
  rw [State.lineSeconds_chan]
  split <;> rfl

theorem OwnersAgree.of_pass {s v : State} (h : OwnersAgree s) {ms : Nat} (hv : v = s.pass ms) : OwnersAgree v :=
  h.congr (by rw [hv]; simp) (by rw [hv]; simp) (State.pass_glow hv)

theorem OwnersAgree.of_passMicros {s v : State} (h : OwnersAgree s) {us : Nat} (hv : v = s.passMicros us) :
    OwnersAgree v := by
  refine h.congr (by rw [hv]; simp) (by rw [hv]; simp) fun ch => ?_
  rw [hv]
  exact State.pass_glow (s := s) rfl ch

theorem State.idlePulse_chan (s : State) (ch c : ChannelId) (hc : c ≠ ch) : (s.idlePulse ch).chan c = s.chan c := by
  unfold State.idlePulse
  dsimp only
  split <;> simp [hc, State.chan]

theorem State.idlePulse_glow {s : State} {ch : ChannelId} (h : (s.chan ch).state = .idle) :
    ((s.idlePulse ch).chan ch).glow = none := by
  refine Channel.glow_of_dark ?_
  have hidle : (s.channels.get ch).state = .idle := h
  unfold State.idlePulse
  dsimp only
  split <;> simp [State.chan, hidle]

theorem sensorPulse_owners {s t : State} (h : OwnersAgree s) {ch : ChannelId} (ht : exec (.sensorPulse ch) s = .next t) :
    OwnersAgree t := by
  have hpulsed : ((s.chan ch).pulsedAt s.now).glow = (s.chan ch).glow := rfl
  cases hs : (s.chan ch).state with
  | exposing =>
    rw [exec_sensorPulse_exposing hs] at ht
    obtain ⟨hstate, _, hrun, _⟩ := ((s.chan ch).pulsedAt s.now).exposedPulse_kept s.now s.microNow
    have hset := h.setChan (ch := ch) (c := ((s.chan ch).pulsedAt s.now).exposedPulse s.now s.microNow)
      (Channel.glow_congr hstate hrun)
    obtain rfl := Host.Outcome.next.inj ht
    split
    · refine hset.reachRun ?_
      rw [State.setChan_chan, if_pos rfl]
      exact hstate.trans hs
    · exact hset
  | tail =>
    rw [exec_sensorPulse_tail hs] at ht
    obtain rfl := Host.Outcome.next.inj ht
    exact h.setChan rfl
  | idle =>
    rw [exec_sensorPulse_idle hs] at ht
    obtain rfl := Host.Outcome.next.inj ht
    have hset := h.setChan (ch := ch) (c := (s.chan ch).pulsedAt s.now) hpulsed
    have hidle : ((s.setChan ch ((s.chan ch).pulsedAt s.now)).chan ch).state = .idle := by
      rw [State.setChan_chan, if_pos rfl]
      exact hs
    refine hset.congr (by simp) (by simp) fun c => ?_
    by_cases hc : c = ch
    · subst hc
      rw [State.idlePulse_glow hidle, Channel.glow_of_dark (by rw [hidle]; decide)]
    · rw [State.idlePulse_chan _ _ _ hc]
  | fault =>
    rw [exec_sensorPulse_fault hs] at ht
    obtain rfl := Host.Outcome.next.inj ht
    exact h.setChan rfl

theorem exec_event_owners {c : Instr} {s t : State} (hx : takenOf s c = none) (h : OwnersAgree s)
    (ht : exec c s = .next t) : OwnersAgree t := by
  cases c <;> cases hx
  case reset =>
    cases ht
    refine .of_vacant (by simp [State.afterReset_lineKept]) (by simp [State.afterReset_lineKept]) fun ch => ?_
    have hc : (State.afterReset s.imageAtReset ‹Bool› s.sstop s.pending).channels =
        ⟨.fresh, .fresh, .fresh, .fresh, .fresh, .fresh⟩ := by simp [State.afterReset_lineKept]
    rw [State.chan, hc]
    cases ch <;> simp [PerChannel.get, Channel.fresh]
  case sstopAsserted =>
    cases ht
    have hstop : OwnersAgree { s with sstop := true } := h.same rfl rfl rfl
    exact (hstop.abortAll (arrange (Config.turn s.now) allChannels) (r := .stopped) rfl).same (by simp [State.stopShop])
      (by simp [State.stopShop]) (by simp [State.stopShop])
  case sstopReleased => cases ht; exact h.same (by simp) (by simp) (by simp)
  case sensorPulse ch => exact sensorPulse_owners h ht
  case graceEnd ch =>
    obtain ⟨_, he⟩ | ⟨v, _, _, hv, he⟩ := exec_graceEnd_cases ch s <;>
      obtain rfl := Host.Outcome.next.inj (he.symm.trans ht)
    · exact h
    · exact (h.of_pass hv).setChan rfl
  case windowEnd ch =>
    obtain he | ⟨v, w, c, _, _, hv, hc, ⟨r, _, _, he⟩ | ⟨_, he⟩⟩ := exec_windowEnd_cases ch s <;>
      obtain rfl := Host.Outcome.next.inj (he.symm.trans ht)
    · exact h
    · have hset : OwnersAgree (v.setChan ch { c with agedRaised := true }) :=
        (h.of_pass hv).setChan (by rw [hc]; rfl)
      exact hset.same (by simp) (by simp) (by simp)
    · exact (h.of_pass hv).setChan (by rw [hc]; rfl)
  case dimWatchExpiry ch =>
    obtain he | ⟨v, f, c, _, _, hv, hc, ⟨r, _, _, he⟩ | ⟨_, he⟩⟩ := exec_dimWatchExpiry_cases ch s <;>
      obtain rfl := Host.Outcome.next.inj (he.symm.trans ht)
    · exact h
    · have hset : OwnersAgree (v.setChan ch { c with dimRaised := true }) :=
        (h.of_passMicros hv).setChan (by rw [hc]; rfl)
      exact hset.same (by simp) (by simp) (by simp)
    · exact (h.of_passMicros hv).setChan (by rw [hc]; rfl)
  case deadWatchExpiry ch =>
    obtain he | ⟨v, f, _, _, hv, he⟩ := exec_deadWatchExpiry_cases ch s <;>
      obtain rfl := Host.Outcome.next.inj (he.symm.trans ht)
    · exact h
    · exact (h.of_pass hv).abortRun ch rfl
  case overtimeExpiry ch =>
    obtain he | ⟨v, l, _, _, hv, he⟩ := exec_overtimeExpiry_cases ch s <;>
      obtain rfl := Host.Outcome.next.inj (he.symm.trans ht)
    · exact h
    · exact (h.of_pass hv).abortRun ch rfl
  case tailExpiry ch =>
    obtain he | ⟨v, f, hs, _, hv, he⟩ := exec_tailExpiry_cases ch s <;>
      obtain rfl := Host.Outcome.next.inj (he.symm.trans ht)
    · exact h
    · refine (h.of_pass hv).congr (by simp) (by simp) fun d => ?_
      rw [State.chan_of_set (v.endTail_channels ch)]
      split
      · rename_i e
        subst e
        rw [State.pass_glow hv, Channel.glow_of_dark (by simp [Channel.toIdle]), Channel.glow_of_dark (by simp [hs])]
      · rfl
  case lineSecond => cases ht; exact h.of_pass rfl
  case storeComplete =>
    obtain ⟨_, he⟩ | ⟨v, j, _, hv, he⟩ := exec_storeComplete_cases s <;>
      obtain rfl := Host.Outcome.next.inj (he.symm.trans ht)
    · exact h
    · exact (h.of_pass hv).same (by simp) (by simp) (by simp)
  case overdueExpiry n =>
    obtain he | ⟨v, r, _, hv, he⟩ := exec_overdueExpiry_cases n s <;>
      obtain rfl := Host.Outcome.next.inj (he.symm.trans ht)
    · exact h
    · exact (h.of_pass hv).same (by simp) (by simp) (by simp)
  case dryingExpiry d =>
    obtain he | ⟨v, n, timer, _, hv, he⟩ := exec_dryingExpiry_cases d s <;>
      obtain rfl := Host.Outcome.next.inj (he.symm.trans ht)
    · exact h
    · exact (h.of_pass hv).same (by simp) (by simp) (by simp)
  case overdryExpiry d =>
    obtain he | ⟨v, n, timer, raised, _, hv, he⟩ := exec_overdryExpiry_cases d s <;>
      obtain rfl := Host.Outcome.next.inj (he.symm.trans ht)
    · exact h
    · exact (h.of_pass hv).same (by simp) (by simp) (by simp)
  case portLost p =>
    obtain he | ⟨v, _, _, _, hv, he⟩ := exec_portLost_cases p s <;>
      obtain rfl := Host.Outcome.next.inj (he.symm.trans ht)
    · exact h
    · exact (h.of_pass hv).enterLost p
  case byteGapTimeout p b =>
    obtain he | ⟨v, f, _, hv, he⟩ := exec_byteGapTimeout_cases p b s <;>
      obtain rfl := Host.Outcome.next.inj (he.symm.trans ht)
    · exact h
    · exact (h.of_pass hv).same rfl rfl rfl
  case missingStopBit | frameOverrun => cases ht; split <;> exact h.same (by simp) (by simp) (by simp)
  case unknownRequest => cases ht; (repeat' split) <;> exact h.same (by simp) (by simp) (by simp)
  case badLen | frameCrcError | answerSent | frameBegins | frameByte => cases ht; exact h.same (by simp) (by simp) (by simp)

/-! ## Every step -/

/-- A property that does not depend on a port, the permit or the queue, kept by line time, every owning rule and every event, is
kept by a step. -/
theorem step_keeps_of {P : State → Prop} (hports : ∀ s t, NumbersKept s t → LineKept s t → t.now = s.now →
      t.micro = s.micro → t.channels = s.channels → t.units = s.units → t.finisher = s.finisher → P s → P t)
    (hm : ∀ s v, v = s.passMicros 1 → P s → P v)
    (hr : ∀ s c x, takenOf s c = some x → ∀ t, P t → P (x.owner t).1)
    (he : ∀ s c, takenOf s c = none → P s → ∀ t, exec c s = .next t → P t) {s t : State} (hs : P s)
    (ht : step s = .next t) : P t := by
  refine step_keeps (P := P) (fun s q h => ?_) (fun s h => hm s _ rfl h) (fun c s t => ?_) hs ht
  · exact hports s _ (.same rfl) ⟨rfl, rfl, rfl, rfl, rfl, rfl, rfl⟩ rfl rfl rfl rfl rfl h
  · refine exec_keeps (fun s p h => ?_) (fun s p h => ?_) (fun s p k c fs h => ?_) hr he
    · exact hports s _ (.same (by simp)) (by constructor <;> simp) (by simp) (by simp) (by simp) (by simp) (by simp) h
    · exact hports s _ (s.onlineEntry_numbersKept p) (by constructor <;> simp) (by simp) (by simp) (by simp) (by simp)
        (by simp) h
    · exact hports s _ (.same (by simp)) (by constructor <;> simp) (by simp) (by simp) (by simp) (by simp) (by simp) h

theorem step_keeps_routed {s t : State} (h : NoticesRouted s) (ht : step s = .next t) : NoticesRouted t := by
  refine step_keeps (P := NoticesRouted) (fun s q h => h.congr rfl) (fun s h => h.of_passMicros rfl) (fun c s t => ?_) h ht
  refine exec_keeps (P := NoticesRouted) (fun s p h => ?_) (fun s p h => State.onlineEntry_routed h p) (fun s p k c fs h => ?_)
    (fun s c x hx t h => takenOf_routed hx h) (fun s c hx h t ht => exec_event_routed hx h ht)
  · unfold State.countOverrun
    exact h.setPort p fun _ hk => hk
  · unfold State.answer
    exact h.setPort p fun _ hk => hk

/-- Settles O56: each of the seven agreements is kept by the ports' own writes, by line time, by every owning rule and by every
event. -/
theorem everyStepKeepsTheRecordsAgreeing : Obligations.EveryStepKeepsTheRecordsAgreeing := by
  unfold Obligations.EveryStepKeepsTheRecordsAgreeing
  intro s t ht
  refine ⟨fun h => ?_, fun h => step_keeps_routed h ht, fun h => ?_, fun h => ?_, fun h => ?_, fun h => ?_, fun h => ?_⟩
  · exact step_keeps_of (fun _ _ hn _ _ _ _ _ _ h => hn.unique h) (fun _ _ hv h => (NumbersKept.of_passMicros hv).unique h)
      (fun _ _ _ hx _ h => takenOf_numbers hx h) (fun _ _ hx h _ he => exec_event_numbers hx h he) h ht
  · exact step_keeps_of (fun _ _ _ hl _ _ _ _ _ h => h.congr hl.belt hl.beltSpeed)
      (fun _ _ hv h => h.congr (LineKept.of_passMicros hv).belt (LineKept.of_passMicros hv).beltSpeed)
      (fun _ _ _ hx _ h => takenOf_belt hx h) (fun _ _ hx h _ he => exec_event_belt hx h he) h ht
  · exact step_keeps_of (fun _ _ _ hl _ _ _ _ _ h => h.congr hl.bath (by rw [hl.working]))
      (fun _ _ hv h => h.congr (LineKept.of_passMicros hv).bath (by rw [(LineKept.of_passMicros hv).working]))
      (fun _ _ _ hx _ h => takenOf_bath hx h) (fun _ _ hx h _ he => exec_event_bath hx h he) h ht
  · exact step_keeps_of (fun _ _ _ hl _ _ _ _ _ h => h.congr hl.drawers (by rw [hl.working]) hl.dryQueue)
      (fun _ _ hv h => h.congr (LineKept.of_passMicros hv).drawers (by rw [(LineKept.of_passMicros hv).working])
        (LineKept.of_passMicros hv).dryQueue)
      (fun _ _ _ hx _ h => takenOf_given hx h) (fun _ _ hx h _ he => exec_event_given hx h he) h ht
  · exact step_keeps_of (fun _ _ _ _ hn hm _ _ _ h => h.congr hn hm) (fun _ _ hv _ => ClockInRange.passMicros hv)
      (fun _ _ _ hx _ h => takenOf_clock hx h) (fun _ _ hx h _ he => exec_event_clock hx h he) h ht
  · exact step_keeps_of (fun _ _ _ _ _ _ hc hu hf h => h.same hu hf hc) (fun _ _ hv h => h.of_passMicros hv)
      (fun _ _ _ hx _ h => takenOf_owners hx h) (fun _ _ hx h _ he => exec_event_owners hx h he) h ht

end Sys2Proof.Machine
end

section
/-! SUPPORT. The output lines (R48, R70, R116, R167) through every owning rule and every event. -/

namespace Sys2Proof.Machine

/-! ## What the lines depend on -/

theorem PortRecord.called_of_empty {r : PortRecord} (h : r.notices = Vector.replicate 17 none) (l : Vector Nat 17) :
    r.called l = false := by
  simp [PortRecord.called, h]

/-- The lines with the settings replaced by ones that leave the levels and TRANSPORT_FAILSAFE as they were. -/
theorem LinesAgree.setWorking {s : State} (h : LinesAgree s) {w : WorkingCopy} (hl : w.levels = s.working.levels)
    (ht : w.line.transportHold = s.working.line.transportHold) : LinesAgree (s.setWorking w) where
  lamps := h.lamps
  dark := h.dark
  transport := by
    show s.tpm = (s.setWorking w).permitted
    rw [h.transport]
    unfold State.permitted
    rw [show (s.setWorking w).working.line.transportHold = s.working.line.transportHold from ht]
    rfl
  attention p := by
    show (s.port p).attention = (s.port p).called w.levels
    rw [hl]
    exact h.attention p

/-- Every line evaluated anew, where the lamps and the permit agree. -/
theorem LinesAgree.of_evaluateAll {s : State} (hlamps : LampLinesAgree s) (hdark : DarkUnderStop s)
    (ht : TransportAgrees s) : LinesAgree s.evaluateAll where
  lamps := hlamps
  dark := hdark
  transport := by
    show s.tpm = s.evaluateAll.permitted
    rw [ht]
    exact (State.permitted_congr rfl rfl rfl).symm
  attention := s.evaluateAll_attention

/-- The permit set to follow its condition, where the lamps and the attention lines agree. -/
theorem LinesAgree.of_updatePermit {s : State} (hlamps : LampLinesAgree s) (hdark : DarkUnderStop s)
    (ha : AttentionAgrees s) : LinesAgree s.updatePermit where
  lamps c := by simpa [State.chan] using hlamps c
  dark hs c := by simpa [State.chan] using hdark (by simpa using hs) c
  transport := s.updatePermit_transport
  attention p := by simpa [State.port] using ha p

/-- R51: a start, which finds SSTOP released, lights lamps that agree with their channels. -/
theorem LinesAgree.lightLamps {s t : State} (h : LinesAgree s) (hr : RaisedOnly s t) (hl : LampLinesAgree t)
    (hoff : s.sstop = false) (hs : t.sstop = s.sstop) (ht : t.tpm = s.tpm) : LinesAgree t where
  lamps := hl
  dark hst := by rw [hs, hoff] at hst; cases hst
  transport := by
    unfold TransportAgrees
    rw [ht, h.transport]
    exact (State.permitted_congr hs (hr.portState .W) hr.working).symm
  attention := hr.attention h.attention

/-- A rule that lights no lamp, or that lights lamps that agree with their channels while SSTOP is released. -/
theorem LinesAgree.afterStart {s t : State} (h : LinesAgree s) (hr : RaisedOnly s t)
    (hl : LampsFall s t ∨ (s.sstop = false ∧ LampLinesAgree t)) (hs : t.sstop = s.sstop) (ht : t.tpm = s.tpm) :
    LinesAgree t :=
  hl.elim (fun hl => h.keep hr hl hs ht) fun ⟨hoff, hl⟩ => h.lightLamps hr hl hoff hs ht

theorem State.startChannel_lamps {s : State} (h : LampLinesAgree s) (ch : ChannelId) (d : Docket) (target initial : Nat) :
    LampLinesAgree (s.startChannel ch d target initial) := by
  intro c
  rw [State.chan_of_set (s.startChannel_channels ch d target initial)]
  split
  · rename_i e
    subst e
    split
    · simpa using h c
    · simp
  · exact h c

theorem State.resumeFinish_lamps {s : State} (h : LampLinesAgree s) (ch : ChannelId) (m : Mark) (d : Docket) :
    LampLinesAgree (s.resumeFinish ch m d) := by
  unfold State.resumeFinish
  split
  · exact State.startChannel_lamps h _ _ _ _
  · exact h

theorem LampLinesAgree.congr {s t : State} (h : LampLinesAgree s) (hc : t.channels = s.channels) : LampLinesAgree t := by
  intro c
  rw [State.chan, hc]
  exact h c

theorem State.finishRun_lamps {s : State} (h : LampLinesAgree s) (n : Nat) (c a : Mark) :
    LampLinesAgree (s.finishRun n c a) :=
  h.congr (s.finishRun_owners n c a).2.1

/-! ## The starts -/

section
variable {s : State} (h : LinesAgree s)
include h

theorem startStageReply_lines (st : Stage) (n : Nat) (u : UnitId) : LinesAgree (startStageReply st n u s).1 := by
  refine h.afterStart (startStageReply_raisedOnly s st n u) ?_ (by simp) (by simp)
  unfold startStageReply
  split
  · exact .inl (.refl s)
  · rename_i d _
    split
    · exact .inl (.refl s)
    · split
      · exact .inl (.refl s)
      · split
        · exact .inl (.refl s)
        · rename_i hfree
          have lit := State.startChannel_lamps h.lamps (stageChannel u st) d (d.stageTarget st) 0
          refine .inr ⟨(State.startRefusal_none hfree).1, ?_⟩
          dsimp only
          split <;> exact lit.congr (by simp)

theorem unitResumeReply_lines (n : Nat) (u : UnitId) : LinesAgree (unitResumeReply n u s).1 := by
  refine h.afterStart (unitResumeReply_raisedOnly s n u) ?_ (by simp) (by simp)
  unfold unitResumeReply
  split
  · exact .inl (.refl s)
  · rename_i d _
    split
    · exact .inl (.refl s)
    · split
      · rename_i st _ _
        dsimp only
        split
        · exact .inl (.refl s)
        · rename_i hfree
          have lit :=
            State.startChannel_lamps h.lamps (stageChannel u st) d (d.stageTarget st) d.stagePartial
          refine .inr ⟨(State.startRefusal_none hfree).1, ?_⟩
          split <;> exact lit.congr (by simp)
      · exact .inl (.refl s)

theorem startFinishReply_lines (n : Nat) : LinesAgree (startFinishReply n s).1 := by
  refine h.afterStart (startFinishReply_raisedOnly s n) ?_ (by simp) (by simp)
  unfold startFinishReply
  split
  · exact .inl (.refl s)
  · split
    · exact .inl (.refl s)
    · split
      · exact .inl (.refl s)
      · split
        · exact .inl (.refl s)
        · rename_i hfree
          refine .inr ⟨(State.startRefusal_none hfree).1, ?_⟩
          dsimp only
          refine State.finishRun_lamps ?_ _ _ _
          exact State.startChannel_lamps (State.startChannel_lamps h.lamps _ _ _ _) _ _ _ _

theorem finisherResumeReply_lines (n : Nat) : LinesAgree (finisherResumeReply n s).1 := by
  refine h.afterStart (finisherResumeReply_raisedOnly s n) ?_ (by simp) (by simp)
  unfold finisherResumeReply
  split
  · exact .inl (.refl s)
  · rename_i d _
    split
    · exact .inl (.refl s)
    · split
      · rename_i c a _ _
        have lit := State.resumeFinish_lamps (State.resumeFinish_lamps h.lamps .FC c d) .FA a d
        split
        · exact .inl (.refl s)
        · rename_i hfree
          refine .inr ⟨(State.startRefusal_none hfree).1, ?_⟩
          dsimp only
          refine State.finishRun_lamps ?_ _ _ _
          exact lit.congr (by simp)
      · exact .inl (.refl s)

end

end Sys2Proof.Machine
end

section
/-! SUPPORT. The output lines (R48, R70, R116, R167) through every owning rule and every event. -/

namespace Sys2Proof.Machine

/-! ## Line time and channel records -/

theorem LinesAgree.of_pass {s v : State} (h : LinesAgree s) {ms : Nat} (hv : v = s.pass ms) : LinesAgree v := by
  subst hv
  exact h.keep (.same (by simp) (by simp)) (s.pass_lampsFall ms) (by simp) (by simp)

theorem LinesAgree.of_passMicros {s v : State} (h : LinesAgree s) {us : Nat} (hv : v = s.passMicros us) :
    LinesAgree v := by
  subst hv
  exact h.keep (.same (by simp) (by simp)) (s.passMicros_lampsFall us) (by simp) (by simp)

theorem LinesAgree.setChan {s : State} (h : LinesAgree s) {ch : ChannelId} {r : Channel}
    (hr : (r.permit = false ∧ r.state ≠ .exposing) ∨
      (r.permit = (s.chan ch).permit ∧ r.state = (s.chan ch).state)) : LinesAgree (s.setChan ch r) :=
  h.keep (.same rfl rfl) (s.setChan_lampsFall ch r hr) rfl rfl

/-- What leaves the channels, SSTOP and the permit alone and raises no more than notices. -/
theorem LinesAgree.raised {s t : State} (h : LinesAgree s) (hr : RaisedOnly s t) (hc : t.channels = s.channels)
    (hs : t.sstop = s.sstop) (ht : t.tpm = s.tpm) : LinesAgree t :=
  h.keep hr (.same hc) hs ht

theorem LinesAgree.raise {s : State} (h : LinesAgree s) (p : Port) (k : NoticeKind) (n : Option Nat) :
    LinesAgree (s.raise p k n) :=
  h.raised (s.raise_raisedOnly p k n) (by simp) (by simp) (by simp)

theorem LinesAgree.offerFor {s : State} (h : LinesAgree s) (e : CounterEvent) (a n : Nat) (w : Bool) :
    LinesAgree (s.offerFor e a n w) :=
  h.raised (.same (by simp) (by simp)) (by simp) (by simp) (by simp)

theorem State.pass_chan_state (s : State) (ms : Nat) (ch : ChannelId) : ((s.pass ms).chan ch).state = (s.chan ch).state := by
  show ((s.lineSeconds _).chan ch).state = _
  rw [State.lineSeconds_chan]
  split <;> rfl

/-! ## The permit and the attention lines while a RECALL hands on (R46) -/

theorem TransportAgrees.keep {s t : State} (h : TransportAgrees s) (hr : RaisedOnly s t) (hs : t.sstop = s.sstop)
    (ht : t.tpm = s.tpm) : TransportAgrees t := by
  unfold TransportAgrees
  rw [ht, h]
  exact (State.permitted_congr hs (hr.portState .W) hr.working).symm

theorem State.enterLost_transport {s : State} (h : TransportAgrees s) (p : Port) : TransportAgrees (s.enterLost p) := by
  have rest (hp : p ≠ .W) : TransportAgrees ((s.setPort p { s.port p with state := .lost }).raiseSilent p) := by
    refine TransportAgrees.keep ?_ (State.raiseSilent_raisedOnly _ p) (by simp) (by simp)
    unfold TransportAgrees
    rw [State.setPort_tpm, h]
    refine (State.permitted_congr (s := s) (t := s.setPort p _) rfl ?_ rfl).symm
    rw [State.setPort_port, if_neg (Ne.symm hp)]
  cases p with
  | E => exact rest (by decide)
  | A =>
    show TransportAgrees (State.abortUnit _ _ _)
    exact (rest (by decide)).keep (State.abortUnit_raisedOnly ..) (by simp) (by simp)
  | B =>
    show TransportAgrees (State.abortUnit _ _ _)
    exact (rest (by decide)).keep (State.abortUnit_raisedOnly ..) (by simp) (by simp)
  | W => exact State.updatePermit_transport _
  | F =>
    show TransportAgrees (State.abortFinisher _ _)
    exact (rest (by decide)).keep (State.abortFinisher_raisedOnly ..) (by simp) (by simp)

theorem AttentionAgrees.same {s t : State} (h : AttentionAgrees s) (hp : t.ports = s.ports)
    (hw : t.working = s.working) : AttentionAgrees t :=
  (RaisedOnly.same hp hw).attention h

theorem State.enterLost_attention {s : State} (h : AttentionAgrees s) (p : Port) : AttentionAgrees (s.enterLost p) := by
  have told : AttentionAgrees ((s.setPort p { s.port p with state := .lost }).raiseSilent p) := by
    refine (State.raiseSilent_raisedOnly _ p).attention fun q => ?_
    rw [State.setPort_port]
    split
    · rename_i e; subst e; exact h q
    · exact h q
  cases p with
  | E => exact told
  | A => exact (State.abortUnit_raisedOnly ..).attention told
  | B => exact (State.abortUnit_raisedOnly ..).attention told
  | W => exact told.same (State.updatePermit_frame _).2.2.2.2.1 (by simp)
  | F => exact (State.abortFinisher_raisedOnly ..).attention told

/-- R182: what the entry into LOST keeps, the search for silent ports keeps. -/
theorem State.checkSilence_keeps {P : State → Prop} (hP : ∀ t p, P t → P (t.enterLost p)) {s : State} (h : P s) :
    P s.checkSilence := by
  unfold State.checkSilence
  generalize arrange _ _ = l
  induction l generalizing s with
  | nil => exact h
  | cons p l ih =>
    rw [List.foldl_cons]
    refine ih ?_
    split
    · split
      · exact hP s p h
      · exact h
    · exact h

/-- R46: a RECALL hands TRANSPORT_FAILSAFE on to the permit and the levels on to the attention lines when they changed. -/
theorem State.handOnRecall_lines {s : State} {old : WorkingCopy} (hl : LampLinesAgree s) (hd : DarkUnderStop s)
    (ht : s.working.line.transportHold = old.line.transportHold → TransportAgrees s)
    (ha : s.working.levels = old.levels → AttentionAgrees s) : LinesAgree (s.handOnRecall old) := by
  unfold State.handOnRecall
  dsimp only
  obtain ⟨t, htdef⟩ : ∃ t, t = if s.working.line.drawers ≠ old.line.drawers then s.assignDrawers else s := ⟨_, rfl⟩
  have raised : RaisedOnly s t ∧ t.channels = s.channels ∧ t.sstop = s.sstop ∧ t.tpm = s.tpm := by
    rw [htdef]; split
    · exact ⟨s.assignDrawers_raisedOnly, by simp, by simp, by simp⟩
    · exact ⟨.refl s, rfl, rfl, rfl⟩
  rw [← htdef]
  obtain ⟨u, hudef⟩ : ∃ u, u = if s.working.line.loadWarn ≠ old.line.loadWarn ∨
      s.working.line.loadStop ≠ old.line.loadStop ∨ s.working.line.bathVolMin ≠ old.line.bathVolMin
      then t.recomputeBath t.bath else t := ⟨_, rfl⟩
  have bathed : RaisedOnly s u ∧ u.channels = s.channels ∧ u.sstop = s.sstop ∧ u.tpm = s.tpm := by
    obtain ⟨hr, hc, hs, hp⟩ := raised
    rw [hudef]; split
    · exact ⟨hr.trans (t.recomputeBath_raisedOnly _), by simp [hc], by simp [hs], by simp [hp]⟩
    · exact ⟨hr, hc, hs, hp⟩
  rw [← hudef]
  obtain ⟨v, hvdef⟩ : ∃ v, v = if s.working.line.transportHold ≠ old.line.transportHold then u.updatePermit else u :=
    ⟨_, rfl⟩
  have permitted : v.working = s.working ∧ LampsFall s v ∧ v.sstop = s.sstop ∧ TransportAgrees v ∧
      (AttentionAgrees s → AttentionAgrees v) := by
    obtain ⟨hr, hc, hs, hp⟩ := bathed
    rw [hvdef]; split
    · refine ⟨by simp [hr.working], .same (by simp [hc]), by simp [hs], u.updatePermit_transport, fun h => ?_⟩
      exact (hr.attention h).same u.updatePermit_frame.2.2.2.2.1 (by simp)
    · rename_i hsame
      exact ⟨hr.working, .same hc, hs, (ht (Decidable.not_not.mp hsame)).keep hr hs hp, hr.attention⟩
  rw [← hvdef]
  obtain ⟨w, hwdef⟩ : ∃ w, w = if s.working.line.silenceLimit ≠ old.line.silenceLimit then v.checkSilence else v :=
    ⟨_, rfl⟩
  have silenced : LampsFall s w ∧ w.sstop = s.sstop ∧ TransportAgrees w ∧ (AttentionAgrees s → AttentionAgrees w) := by
    obtain ⟨_, hl, hs, hp, hatt⟩ := permitted
    rw [hwdef]; split
    · exact ⟨hl.trans v.checkSilence_lampsFall, by simp [hs],
        State.checkSilence_keeps (P := TransportAgrees) (fun t p h => State.enterLost_transport h p) hp,
        fun h => State.checkSilence_keeps (P := AttentionAgrees) (fun t p h => State.enterLost_attention h p) (hatt h)⟩
    · exact ⟨hl, hs, hp, hatt⟩
  rw [← hwdef]
  obtain ⟨hfall, hs, hp, hatt⟩ := silenced
  have hdark : DarkUnderStop w := fun hst c hx => hd (hs ▸ hst) c (hfall.lit c hx)
  split
  · exact .of_evaluateAll (hfall.agree hl) hdark hp
  · rename_i hsame
    exact ⟨hfall.agree hl, hdark, hp, hatt (ha (Decidable.not_not.mp hsame))⟩

/-! ## The owning rules -/

theorem State.cancelAtUnit_lampsFall (s : State) (u : UnitId) (n : Nat) : LampsFall s (s.cancelAtUnit u n) := by
  have same : LampsFall s ((s.setUnit u .vacant).enterScrapped n) := .same (by simp)
  unfold State.cancelAtUnit
  dsimp only
  split
  · exact same.trans (State.abortRun_lampsFall ..)
  · exact same

theorem State.cancelAtFinisher_lampsFall (s : State) (n : Nat) : LampsFall s (s.cancelAtFinisher n) := by
  have same : LampsFall s ((s.setFinisher .vacant).enterScrapped n) := .same (by simp)
  unfold State.cancelAtFinisher
  dsimp only
  split
  · exact same.trans (State.abortAll_lampsFall ..)
  · exact same

theorem cancelReply_lampsFall (n : Nat) (s : State) : LampsFall s (cancelReply n s).1 := by
  have hholder (m : Nat) : LampsFall s (s.cancelHolder m) := by
    unfold State.cancelHolder
    split
    · exact s.cancelAtUnit_lampsFall .A m
    split
    · exact s.cancelAtUnit_lampsFall .B m
    split
    · exact s.cancelAtFinisher_lampsFall m
    · exact .same (by simp)
  unfold cancelReply
  split
  · exact .refl s
  · split
    · exact .refl s
    · dsimp only
      unfold State.cancelDocket
      dsimp only
      split
      case h_5 | h_6 | h_7 => exact hholder _
      all_goals exact .same (by simp)

theorem unitStopReply_lampsFall (n : Nat) (u : UnitId) (s : State) : LampsFall s (unitStopReply n u s).1 := by
  unfold unitStopReply
  split
  · exact .refl s
  · split
    · exact .refl s
    · split
      · exact s.abortUnit_lampsFall u .operator
      · exact .refl s

theorem finisherStopReply_lampsFall (n : Nat) (s : State) : LampsFall s (finisherStopReply n s).1 := by
  unfold finisherStopReply
  split
  · exact .refl s
  · split
    · exact .refl s
    · split
      · exact s.abortFinisher_lampsFall .operator
      · exact .refl s

theorem clearChannelReply_lampsFall (p : Port) (code : Nat) (s : State) : LampsFall s (clearChannelReply p code s).1 := by
  unfold clearChannelReply
  split
  · exact .refl s
  · split
    · exact .refl s
    split
    · exact .refl s
    split
    · exact .refl s
    · exact s.setChan_lampsFall _ _ (.inl ⟨rfl, by simp⟩)

theorem claimReply_channels (n : Nat) (u : UnitId) (s : State) : (claimReply n u s).1.channels = s.channels := by
  unfold claimReply
  split
  · rfl
  · split
    · rfl
    · split
      · rfl
      split
      · rfl
      split
      · rfl
      · simp

theorem unitReturnReply_channels (n : Nat) (u : UnitId) (s : State) : (unitReturnReply n u s).1.channels = s.channels := by
  unfold unitReturnReply
  split
  · rfl
  · split
    · rfl
    split
    · rfl
    · simp

theorem claimFinishReply_channels (n : Nat) (s : State) : (claimFinishReply n s).1.channels = s.channels := by
  unfold claimFinishReply
  split
  · rfl
  · split
    · rfl
    · split
      · rfl
      · simp

theorem finisherReturnReply_channels (n : Nat) (s : State) : (finisherReturnReply n s).1.channels = s.channels := by
  unfold finisherReturnReply
  split
  · rfl
  · split
    · rfl
    split
    · rfl
    · simp

theorem lineClear_lines {s : State} (h : LinesAgree s) : LinesAgree s.lineClear := by
  have hchan (c : ChannelId) : s.lineClear.chan c = (s.chan c).lineClear := by
    simp only [State.lineClear, State.chan, PerChannel.get_map]
  have hport (p : Port) : s.lineClear.port p = (s.port p).lineClear := by
    simp only [State.lineClear, State.port, PerPort.get_map]
  refine ⟨fun c => ?_, fun _ c => ?_, ?_, fun p => ?_⟩
  · rw [hchan]
    have := h.lamps c
    unfold Channel.lineClear
    split <;> simp_all
  · rw [hchan]
    unfold Channel.lineClear
    split <;> simp_all
  · unfold TransportAgrees
    refine (show s.lineClear.tpm = s.tpm from rfl).trans (h.transport.trans ?_)
    refine (State.permitted_congr (s := s) (t := s.lineClear) rfl ?_ rfl).symm
    rw [hport]
    rfl
  · rw [hport]
    exact (PortRecord.called_of_empty rfl _).symm

theorem lampRefReply_lines {s : State} (h : LinesAgree s) (p : Port) (code form value : Nat) :
    LinesAgree (lampRefReply p code form value s).1 := by
  have hset (w : WorkingCopy) (hl : w.levels = s.working.levels) (ht : w.line = s.working.line) :
    LinesAgree (s.setWorking w) := h.setWorking hl (by rw [ht])
  unfold lampRefReply
  split
  · exact h
  · split
    · exact h
    split
    · exact h
    split
    · exact h
    split
    · exact hset _ rfl rfl
    · split
      · exact h
      · exact hset _ rfl rfl

theorem setSettingReply_lines {s : State} (h : LinesAgree s) (item channel value : Nat) :
    LinesAgree (setSettingReply item channel value s).1 := by
  unfold setSettingReply
  split
  · rename_i i _
    split
    · exact h
    · dsimp only
      obtain ⟨v, hv⟩ : ∃ v, v = lineTaken s.working.line i value := ⟨_, rfl⟩
      rw [← hv]
      obtain ⟨t, htdef⟩ : ∃ t, t = s.setWorking { s.working with line := s.working.line.set i v } := ⟨_, rfl⟩
      have hatt : AttentionAgrees t := fun p => by rw [htdef]; exact h.attention p
      have hlamps : LampLinesAgree t := by rw [htdef]; exact h.lamps
      have hdark : DarkUnderStop t := by rw [htdef]; exact h.dark
      have hset (hi : i ≠ .transportFailsafe) : LinesAgree t := by
        rw [htdef]
        refine h.setWorking rfl ?_
        cases i <;> first | rfl | exact absurd rfl hi
      unfold State.setLineItem
      rw [← htdef]
      unfold State.handOff
      split
      · exact (hset (by decide)).raised t.assignDrawers_raisedOnly (by simp) (by simp) (by simp)
      · exact (hset (by decide)).raised (t.recomputeBath_raisedOnly _) (by simp) (by simp) (by simp)
      · exact (hset (by decide)).raised (t.recomputeBath_raisedOnly _) (by simp) (by simp) (by simp)
      · exact (hset (by decide)).raised (t.recomputeBath_raisedOnly _) (by simp) (by simp) (by simp)
      · exact .of_updatePermit hlamps hdark hatt
      · exact t.checkSilence_lines (hset (by decide))
      · exact hset (by assumption)
  · split
    · exact h
    · exact h.setWorking rfl rfl
  · exact h

theorem recallReply_lines {s : State} (h : LinesAgree s) : LinesAgree (recallReply s).1 := by
  have hset (w : WorkingCopy) (x : Store) (ht : w.line.transportHold = s.working.line.transportHold) :
      TransportAgrees ((s.setWorking w).setStore x) := by
    unfold TransportAgrees
    refine (show ((s.setWorking w).setStore x).tpm = s.tpm from rfl).trans (h.transport.trans ?_)
    unfold State.permitted
    rw [show ((s.setWorking w).setStore x).working.line.transportHold = s.working.line.transportHold from ht]
    rfl
  unfold recallReply
  split
  · exact h
  · split
    · refine State.handOnRecall_lines h.lamps h.dark (fun ht => hset _ s.store ht) fun hl p => ?_
      rw [show _ = _ from hl]
      exact h.attention p
    · have raised := ((s.setWorking .factory).setStore
        { s.store with lastResult := .imageBad, resultTime := some s.seconds }).raise_raisedOnly .E .storeResult none
      have fall : LampsFall s (((s.setWorking .factory).setStore
          { s.store with lastResult := .imageBad, resultTime := some s.seconds }).raise .E .storeResult none) :=
        .same (by simp)
      refine State.handOnRecall_lines (fall.agree h.lamps) (fun hs c hc => ?_) (fun ht => ?_) fun hl => ?_
      · exact h.dark (by simpa using hs) c (fall.lit c hc)
      · exact (hset .factory _ (by simpa using ht)).keep raised (by simp) (by simp)
      · refine raised.attention fun p => ?_
        have hlevels : WorkingCopy.factory.levels = s.working.levels := by simpa using hl
        show (s.port p).attention = (s.port p).called WorkingCopy.factory.levels
        rw [hlevels]
        exact h.attention p

/-! ## Every owning rule -/

theorem takenOf_lines {c : Instr} {s t : State} {x : Taken} (hx : takenOf s c = some x) (h : LinesAgree t) :
    LinesAgree (x.owner t).1 := by
  refine takenOf_keeps hx h fun hread => ?_
  have raised : writesPorts c = false → RaisedOnly t (x.owner t).1 := fun hw => takenOf_raisedOnly hx hw t
  cases c <;> cases hread <;> cases hx <;> dsimp only at raised ⊢
  case cancel => exact h.keep (raised rfl) (cancelReply_lampsFall _ t) (by simp) (by simp)
  case lineClear => exact lineClear_lines h
  case setRecipe =>
    unfold setRecipeReply
    split
    · split
      · exact h
      split
      · exact h
      · exact h.setWorking rfl rfl
    · exact h
  case setSetting => exact setSettingReply_lines h _ _ _
  case setLevel =>
    unfold setLevelReply
    split
    · exact h
    · split
      · exact h
      · exact .of_evaluateAll h.lamps h.dark (h.transport.trans rfl)
  case recall.refl => exact recallReply_lines h
  case clearChannel => exact h.keep (raised rfl) (clearChannelReply_lampsFall _ _ t) (by simp) (by simp)
  case setLampRefValue | setLampRefMeasured => exact lampRefReply_lines h _ _ _ _
  case status => exact t.setPort_lines _ _ h rfl (h.attention _)
  case ack =>
    unfold ackReply
    dsimp only
    split
    · exact h
    · exact t.setPort_lines _ _ h rfl (by simp [PortRecord.acked])
  case setThreshold => exact t.setPort_lines _ _ h rfl (by simp)
  case claim =>
    exact onUnit_keeps h (fun u => h.raised (claimReply_raisedOnly t _ u) (claimReply_channels _ u t) (by simp) (by simp)) _
  case startBack | startMain => exact onUnit_keeps h (fun u => startStageReply_lines h _ _ u) _
  case stop =>
    exact onHolder_keeps h
      (fun u => h.keep (unitStopReply_raisedOnly t _ u) (unitStopReply_lampsFall _ u t) (by simp) (by simp))
      (h.keep (finisherStopReply_raisedOnly t _) (finisherStopReply_lampsFall _ t) (by simp) (by simp)) _
  case resume => exact onHolder_keeps h (fun u => unitResumeReply_lines h _ u) (finisherResumeReply_lines h _) _
  case returnDocket =>
    exact onHolder_keeps h
      (fun u => h.raised (unitReturnReply_raisedOnly t _ u) (unitReturnReply_channels _ u t) (by simp) (by simp))
      (h.raised (finisherReturnReply_raisedOnly t _) (finisherReturnReply_channels _ t) (by simp) (by simp)) _
  case claimFinish => exact h.raised (raised rfl) (claimFinishReply_channels _ t) (by simp) (by simp)
  case finisherReturn => exact h.raised (raised rfl) (finisherReturnReply_channels _ t) (by simp) (by simp)
  case startFinish => exact startFinishReply_lines h _
  case finisherStop => exact h.keep (raised rfl) (finisherStopReply_lampsFall _ t) (by simp) (by simp)
  case finisherResume => exact finisherResumeReply_lines h _
  all_goals exact h.raised (raised rfl) (by simp) (by simp) (by simp)

/-! ## Every event -/

theorem PortRecord.fresh_quiet (l : Vector Nat 17) : PortRecord.fresh.called l = false :=
  PortRecord.called_of_empty rfl l

/-- R48, R116, R167 right after a reset: every channel is dark, port W was never heard and no notice is pending but the one of
a bad image. -/
theorem State.afterReset_lines (i : StoredImage) (rate sstop : Bool) (q : List Instr) :
    LinesAgree (State.afterReset i rate sstop q) := by
  have base (t : State) (hc : t.channels = ⟨.fresh, .fresh, .fresh, .fresh, .fresh, .fresh⟩)
      (hp : t.ports = ⟨.fresh, .fresh, .fresh, .fresh, .fresh⟩) (ht : t.tpm = false) : LinesAgree t := by
    have hchan (c : ChannelId) : t.chan c = .fresh := by
      rw [State.chan, hc]; cases c <;> rfl
    have hport (p : Port) : t.port p = .fresh := by
      rw [State.port, hp]; cases p <;> rfl
    refine ⟨fun c => ?_, fun _ c => ?_, ?_, fun p => ?_⟩
    · rw [hchan]; decide
    · rw [hchan]; decide
    · rw [TransportAgrees, ht, State.permitted, hport]
      simp [PortRecord.fresh]
    · rw [hport]; exact (PortRecord.fresh_quiet _).symm
  unfold State.afterReset
  dsimp only
  split
  · exact base _ rfl rfl rfl
  · exact (base _ rfl rfl rfl).raise _ _ _

/-- R179: a byte changes the receiver and the framing errors only. -/
theorem PortRecord.byte_kept (r : PortRecord) (now : Nat) (b : Byte) :
    r.byte now b = { r with receiver := (r.byte now b).receiver, framing := (r.byte now b).framing } := by
  unfold PortRecord.byte PortRecord.framingError
  split
  · rfl
  · (repeat' split) <;> rfl
  · (repeat' split) <;> rfl

theorem sensorPulse_lines {s t : State} (h : LinesAgree s) {ch : ChannelId} (ht : exec (.sensorPulse ch) s = .next t) :
    LinesAgree t := by
  cases hs : (s.chan ch).state with
  | exposing =>
    rw [exec_sensorPulse_exposing hs] at ht
    obtain rfl := Host.Outcome.next.inj ht
    obtain ⟨hstate, hpermit, _⟩ := ((s.chan ch).pulsedAt s.now).exposedPulse_kept s.now s.microNow
    have hset := h.setChan (ch := ch) (r := ((s.chan ch).pulsedAt s.now).exposedPulse s.now s.microNow)
      (.inr ⟨hpermit, hstate⟩)
    split
    · exact hset.keep (State.reachRun_raisedOnly ..) (State.reachRun_lampsFall ..) (by simp) (by simp)
    · exact hset
  | tail =>
    rw [exec_sensorPulse_tail hs] at ht
    obtain rfl := Host.Outcome.next.inj ht
    exact h.setChan (.inr ⟨rfl, rfl⟩)
  | idle =>
    rw [exec_sensorPulse_idle hs] at ht
    obtain rfl := Host.Outcome.next.inj ht
    have hset := h.setChan (ch := ch) (r := (s.chan ch).pulsedAt s.now) (.inr ⟨rfl, rfl⟩)
    unfold State.idlePulse
    dsimp only
    split
    · exact ((hset.setChan (.inl ⟨rfl, by simp⟩)).raise _ _ _).raise _ _ _
    · exact hset.setChan (.inr ⟨rfl, rfl⟩)
  | fault =>
    rw [exec_sensorPulse_fault hs] at ht
    obtain rfl := Host.Outcome.next.inj ht
    exact h.setChan (.inr ⟨rfl, rfl⟩)

theorem exec_event_lines {c : Instr} {s t : State} (hx : takenOf s c = none) (h : LinesAgree s)
    (ht : exec c s = .next t) : LinesAgree t := by
  have written (u : State) (p : Port) (r : PortRecord) (hu : LinesAgree u) (hs : r.state = (u.port p).state)
      (hn : r.notices = (u.port p).notices) (hth : r.threshold = (u.port p).threshold)
      (ha : r.attention = (u.port p).attention) : LinesAgree (u.setPort p r) :=
    u.setPort_lines p r hu hs (by rw [ha, hu.attention p]; unfold PortRecord.called; rw [hn, hth])
  cases c <;> cases hx
  case reset => cases ht; exact State.afterReset_lines ..
  case sstopAsserted =>
    cases ht
    obtain ⟨order, horder⟩ : ∃ l, l = arrange (Config.turn s.now) allChannels := ⟨_, rfl⟩
    have hall (c : ChannelId) : c ∈ order := by
      rw [horder, mem_arrange]; cases c <;> decide
    rw [← horder]
    have hfall := State.abortAll_lampsFall { s with sstop := true } order .stopped
    refine .of_updatePermit (hfall.agree h.lamps) (fun _ c => State.abortAll_dark _ _ _ c (hall c)) ?_
    exact (State.abortAll_raisedOnly _ _ _).attention h.attention
  case sstopReleased =>
    cases ht
    exact .of_updatePermit h.lamps (fun hs => by cases hs) h.attention
  case sensorPulse ch => exact sensorPulse_lines h ht
  case graceEnd ch =>
    obtain ⟨_, he⟩ | ⟨v, _, _, hv, he⟩ := exec_graceEnd_cases ch s <;>
      obtain rfl := Host.Outcome.next.inj (he.symm.trans ht)
    · exact h
    · exact (h.of_pass hv).setChan (.inr ⟨rfl, rfl⟩)
  case windowEnd ch =>
    obtain he | ⟨v, w, c, _, _, hv, hc, ⟨r, _, _, he⟩ | ⟨_, he⟩⟩ := exec_windowEnd_cases ch s <;>
      obtain rfl := Host.Outcome.next.inj (he.symm.trans ht)
    · exact h
    · have hset : LinesAgree (v.setChan ch { c with agedRaised := true }) :=
        (h.of_pass hv).setChan (.inr (by rw [hc]; exact ⟨rfl, rfl⟩))
      have hflag : LinesAgree ((v.setChan ch { c with agedRaised := true }).updateRunDocket r fun d =>
        { d with agedSeen := true }) := hset.raised (.same (by simp) (by simp)) (by simp) (by simp) (by simp)
      exact (hflag.raise _ _ _).raise _ _ _
    · exact (h.of_pass hv).setChan (.inr (by rw [hc]; exact ⟨rfl, rfl⟩))
  case dimWatchExpiry ch =>
    obtain he | ⟨v, f, c, _, _, hv, hc, ⟨r, _, _, he⟩ | ⟨_, he⟩⟩ := exec_dimWatchExpiry_cases ch s <;>
      obtain rfl := Host.Outcome.next.inj (he.symm.trans ht)
    · exact h
    · have hset : LinesAgree (v.setChan ch { c with dimRaised := true }) :=
        (h.of_passMicros hv).setChan (.inr (by rw [hc]; exact ⟨rfl, rfl⟩))
      have hflag : LinesAgree ((v.setChan ch { c with dimRaised := true }).updateRunDocket r fun d =>
        { d with dimSeen := true }) := hset.raised (.same (by simp) (by simp)) (by simp) (by simp) (by simp)
      exact hflag.raise _ _ _
    · exact (h.of_passMicros hv).setChan (.inr (by rw [hc]; exact ⟨rfl, rfl⟩))
  case deadWatchExpiry ch =>
    obtain he | ⟨v, f, _, _, hv, he⟩ := exec_deadWatchExpiry_cases ch s <;>
      obtain rfl := Host.Outcome.next.inj (he.symm.trans ht)
    · exact h
    · exact (h.of_pass hv).keep (v.abortRun_raisedOnly ..) (v.abortRun_lampsFall ..) (by simp) (by simp)
  case overtimeExpiry ch =>
    obtain he | ⟨v, l, _, _, hv, he⟩ := exec_overtimeExpiry_cases ch s <;>
      obtain rfl := Host.Outcome.next.inj (he.symm.trans ht)
    · exact h
    · exact (h.of_pass hv).keep (v.abortRun_raisedOnly ..) (v.abortRun_lampsFall ..) (by simp) (by simp)
  case tailExpiry ch =>
    obtain he | ⟨v, f, hs, _, hv, he⟩ := exec_tailExpiry_cases ch s <;>
      obtain rfl := Host.Outcome.next.inj (he.symm.trans ht)
    · exact h
    · have htail : (v.chan ch).state = .tail := by
        rw [hv, State.pass_chan_state]
        exact hs
      exact (h.of_pass hv).keep (.same (by simp) (by simp)) (v.endTail_lampsFall ch htail) (by simp) (by simp)
  case lineSecond => cases ht; exact h.of_pass rfl
  case storeComplete =>
    obtain ⟨_, he⟩ | ⟨v, j, _, hv, he⟩ := exec_storeComplete_cases s <;>
      obtain rfl := Host.Outcome.next.inj (he.symm.trans ht)
    · exact h
    · have hset : LinesAgree (v.setStore (v.store.completed j.contents v.seconds)) :=
        (h.of_pass hv).raised (.same rfl rfl) rfl rfl rfl
      exact hset.raise _ _ _
  case overdueExpiry n =>
    obtain he | ⟨v, r, _, hv, he⟩ := exec_overdueExpiry_cases n s <;>
      obtain rfl := Host.Outcome.next.inj (he.symm.trans ht)
    · exact h
    · refine LinesAgree.raise (LinesAgree.raise ?_ _ _ _) _ _ _
      exact (h.of_pass hv).raised (.same (by simp) (by simp)) (by simp) (by simp) (by simp)
  case dryingExpiry d =>
    obtain he | ⟨v, n, timer, _, hv, he⟩ := exec_dryingExpiry_cases d s <;>
      obtain rfl := Host.Outcome.next.inj (he.symm.trans ht)
    · exact h
    · refine LinesAgree.offerFor (LinesAgree.raise ?_ _ _ _) _ _ _ _
      exact (h.of_pass hv).raised (.same (by simp) (by simp)) (by simp) (by simp) (by simp)
  case overdryExpiry d =>
    obtain he | ⟨v, n, timer, raised, _, hv, he⟩ := exec_overdryExpiry_cases d s <;>
      obtain rfl := Host.Outcome.next.inj (he.symm.trans ht)
    · exact h
    · refine LinesAgree.raise (LinesAgree.raise ?_ _ _ _) _ _ _
      exact (h.of_pass hv).raised (.same (by simp) (by simp)) (by simp) (by simp) (by simp)
  case portLost p =>
    obtain he | ⟨v, _, _, _, hv, he⟩ := exec_portLost_cases p s <;>
      obtain rfl := Host.Outcome.next.inj (he.symm.trans ht)
    · exact h
    · exact v.enterLost_lines p (h.of_pass hv)
  case byteGapTimeout p b =>
    obtain he | ⟨v, f, _, hv, he⟩ := exec_byteGapTimeout_cases p b s <;>
      obtain rfl := Host.Outcome.next.inj (he.symm.trans ht)
    · exact h
    · exact written _ _ _ (h.of_pass hv) rfl rfl rfl rfl
  case missingStopBit =>
    cases ht
    split
    · exact h
    · exact written _ _ _ h rfl rfl rfl rfl
  case frameOverrun =>
    cases ht
    split
    · exact s.countOverrun_lines _ h
    · exact h
  case unknownRequest =>
    cases ht
    split
    · exact h
    split
    · exact s.countOverrun_lines _ h
    · exact State.answer_lines _ _ _ _ _ (s.onlineEntry_lines _ h)
  case frameBegins | frameByte | badLen =>
    cases ht
    unfold State.receiveByte
    refine written _ _ _ h ?_ ?_ ?_ ?_ <;> rw [PortRecord.byte_kept]
  case frameCrcError | answerSent => cases ht; exact written _ _ _ h rfl rfl rfl rfl

/-- Settles O55: the lines agree after line time, after every owning rule with its answer, and after every event. -/
theorem everyStepKeepsTheLinesAgreeing : Obligations.EveryStepKeepsTheLinesAgreeing := by
  unfold Obligations.EveryStepKeepsTheLinesAgreeing
  intro s t h ht
  refine step_keeps (P := LinesAgree) (fun s q h => h.raised (.same rfl rfl) rfl rfl rfl) (fun s h => h.of_passMicros rfl)
    (fun c s t => ?_) h ht
  exact exec_keeps (P := LinesAgree) State.countOverrun_lines State.onlineEntry_lines State.answer_lines
    (fun s c x hx t h => takenOf_lines hx h) fun s c hx h t ht => exec_event_lines hx h ht

end Sys2Proof.Machine
end

section
/-! SUPPORT. Line time, the reset and the small shared operations: what the step, RESET, a joining docket and an offered event
leave. -/

namespace Sys2Proof.Machine

/-! ## The step and line time (R184) -/

/-- Settles O1. -/
theorem stepRunsTheFrontCommand : Obligations.StepRunsTheFrontCommand := by
  unfold Obligations.StepRunsTheFrontCommand
  intro c rest s h
  rw [step, h]
  rfl

theorem State.lineSeconds_zero (s : State) : s.lineSeconds 0 = s := if_pos rfl

/-- R184: time that passes inside a line second moves the clock alone. -/
theorem State.pass_within {s : State} {ms : Nat} (h : s.now % 1000 + ms < 1000) :
    s.pass ms = { s with now := (s.now + ms) % Config.timeModulus, micro := if ms = 0 then s.micro else 0 } := by
  rw [State.pass, Nat.div_eq_of_lt h, State.lineSeconds_zero]

theorem State.pass_zero {s : State} (h : s.now < 4294967296000) : s.pass 0 = s := by
  rw [State.pass_within (by omega), Nat.add_zero, Nat.mod_eq_of_lt (show s.now < Config.timeModulus from h)]
  rfl

/-- A tick inside a millisecond. -/
theorem State.passMicros_one_within {s : State} (hc : ClockInRange s) (h : s.micro ≠ 999) :
    s.passMicros 1 = { s with micro := s.micro + 1 } := by
  obtain ⟨hnow, hmicro⟩ := hc
  rw [State.passMicros, Nat.div_eq_of_lt (by omega), State.pass_zero hnow, Nat.mod_eq_of_lt (by omega)]

/-- A tick that ends a millisecond. -/
theorem State.passMicros_one_carry {s : State} (h : s.micro = 999) : s.passMicros 1 = s.pass 1 := by
  rw [State.passMicros, h]
  exact State.ext rfl rfl rfl rfl rfl rfl rfl rfl rfl rfl rfl rfl rfl rfl rfl rfl rfl rfl rfl rfl rfl rfl rfl rfl

/-- Settles O2. -/
theorem lineTimePasses : Obligations.LineTimePasses := by
  unfold Obligations.LineTimePasses
  refine ⟨fun s hp hc => ?_, fun s t ms hn ht hm hs => ?_, fun s t us hc ht hu hs => ?_⟩
  · have hstep : step s = .next (s.passMicros 1) := by rw [step, hp]
    obtain ⟨hnow, hmicro⟩ := hc
    rw [hstep]
    refine ⟨fun h => ?_, fun h h9 => ?_, fun h h9 => ?_⟩
    · rw [State.passMicros_one_within ⟨hnow, hmicro⟩ h]
    · rw [State.passMicros_one_carry h, State.pass_within (by omega), Nat.mod_eq_of_lt (by rw [Config.timeModulus]; omega)]
      rfl
    · rw [State.passMicros_one_carry h, ← show 1000 - s.now % 1000 = 1 by omega]
      rfl
  · refine ⟨?_, fun hlt => ?_, fun heq => ?_⟩
    · simp only [State.pass_clock, remainingMs, since, Config.timeModulus] at hs ⊢
      omega
    · rw [(s.pass_clock _).2, if_neg (by unfold remainingMs; omega)]
    · rw [remainingMs, heq, Nat.sub_self, State.pass_zero hn]
  · obtain ⟨hnow, hmicro⟩ := hc
    simp only [State.microNow, State.passMicros_clock, remainingMicros, sinceMicro, Config.timeModulus,
      Config.microModulus] at hs ⊢
    omega

/-! ## Reset (R2, R45) -/

/-- What every reset leaves beside the working copy, the store information and the notice of a bad image. -/
theorem State.afterReset_fields (i : StoredImage) (rate sstop : Bool) (q : List Instr) :
    (State.afterReset i rate sstop q).rateHigh = rate ∧ (State.afterReset i rate sstop q).sstop = sstop ∧
    (State.afterReset i rate sstop q).pending = q ∧ (State.afterReset i rate sstop q).tpm = false ∧
    (State.afterReset i rate sstop q).nextNumber = 1 ∧ (State.afterReset i rate sstop q).exposurePool = [] ∧
    (State.afterReset i rate sstop q).finishPool = [] ∧ (State.afterReset i rate sstop q).washQueue = [] ∧
    (State.afterReset i rate sstop q).drawers = Vector.replicate 8 .empty ∧
    (State.afterReset i rate sstop q).counters = Vector.replicate 4 .fresh ∧
    (State.afterReset i rate sstop q).store.image = i ∧ (State.afterReset i rate sstop q).store.job = none ∧
    (State.afterReset i rate sstop q).store.wear = i.wearCount := by
  unfold State.afterReset; dsimp only
  split <;> simp

theorem State.afterReset_good {i : StoredImage} {w : WorkingCopy} (h : i.goodBody = some w) (rate sstop : Bool)
    (q : List Instr) :
    (State.afterReset i rate sstop q).working = w ∧ (State.afterReset i rate sstop q).store.lastResult = .none ∧
    (State.afterReset i rate sstop q).store.resultTime = none ∧
    (State.afterReset i rate sstop q).ports = ⟨.fresh, .fresh, .fresh, .fresh, .fresh⟩ := by
  unfold State.afterReset
  rw [h]
  exact ⟨rfl, rfl, rfl, rfl⟩

theorem State.afterReset_bad {i : StoredImage} (h : i.goodBody = none) (rate sstop : Bool) (q : List Instr) :
    (State.afterReset i rate sstop q).working = .factory ∧
    (State.afterReset i rate sstop q).store.lastResult = .imageBad ∧
    (State.afterReset i rate sstop q).store.resultTime = some 0 ∧
    (State.afterReset i rate sstop q).ports =
      ⟨PortRecord.fresh.raise .storeResult none 0 WorkingCopy.factory.levels, .fresh, .fresh, .fresh, .fresh⟩ := by
  unfold State.afterReset
  rw [h]
  dsimp only
  rw [State.raise_of_routed none rfl]
  refine ⟨rfl, rfl, rfl, ?_⟩
  simp [State.setPort, PerPort.set, State.port, PerPort.get, State.seconds]

/-- A port record after a reset, but for the notice of a bad image. -/
theorem State.afterReset_port (i : StoredImage) (rate sstop : Bool) (q : List Instr) (p : Port) :
    (State.afterReset i rate sstop q).port p =
      if i.goodBody = none ∧ p = .E then PortRecord.fresh.raise .storeResult none 0 WorkingCopy.factory.levels
      else .fresh := by
  cases h : i.goodBody with
  | none =>
    rw [State.port, (State.afterReset_bad h rate sstop q).2.2.2]
    cases p <;> rfl
  | some w =>
    rw [State.port, (State.afterReset_good h rate sstop q).2.2.2, if_neg (by simp)]
    cases p <;> rfl

theorem State.afterReset_chan (i : StoredImage) (rate sstop : Bool) (q : List Instr) (c : ChannelId) :
    (State.afterReset i rate sstop q).chan c = .fresh := by
  have hc : (State.afterReset i rate sstop q).channels = ⟨.fresh, .fresh, .fresh, .fresh, .fresh, .fresh⟩ := by
    simp [State.afterReset_lineKept]
  rw [State.chan, hc]
  cases c <;> rfl

/-- Settles O3. -/
theorem resetEmptiesTheLine : Obligations.ResetEmptiesTheLine := by
  unfold Obligations.ResetEmptiesTheLine
  intro rate s
  refine ⟨_, rfl, ?_⟩
  generalize s.imageAtReset = i
  obtain ⟨hbelt, hspeed, hbath, hdry, hnow, hmicro, hslots, -, hunits, hfin⟩ :=
    State.afterReset_lineKept i rate s.sstop s.pending
  obtain ⟨hrate, hstop, hq, htpm, hnum, hpool, hfpool, hwash, hdrawers, hcounters, -, hjob, -⟩ :=
    State.afterReset_fields i rate s.sstop s.pending
  refine ⟨hnow, hmicro, hrate, hstop, hq, htpm, fun j => ?_, hnum, hpool, hfpool, hwash, hbelt, hspeed, hdry, hjob,
    fun u => ?_, hfin, fun d => ?_, hbath, fun k => ?_, fun c => ?_, fun p => ?_⟩
  · simp [hslots]
  · rw [State.unit, hunits]; cases u <;> rfl
  · simp [hdrawers]
  · simp [hcounters, LineCounter.fresh]
  · simp [State.afterReset_chan, Channel.fresh]
  · rw [State.afterReset_port]
    split <;> simp [PortRecord.fresh]

theorem StoredImage.wearCount_eq (i : StoredImage) : (∀ n, i.wear1 = some n → i.wearCount = n) ∧
    (∀ n, i.wear1 = none → i.wear2 = some n → i.wearCount = n) ∧ (i.wear1 = none → i.wear2 = none → i.wearCount = 0) := by
  unfold StoredImage.wearCount
  refine ⟨fun n h => ?_, fun n h g => ?_, fun h g => ?_⟩ <;> simp [*]

/-- R43: a body that a store has written passes its check. -/
theorem StoredImage.goodBody_written {i : StoredImage} {w : WorkingCopy} (h : i.body = some (.written w)) :
    i.goodBody = some w := by
  rw [StoredImage.goodBody, h]
  exact if_pos rfl

/-- Settles O4. -/
theorem resetReadsTheImage : Obligations.ResetReadsTheImage := by
  unfold Obligations.ResetReadsTheImage
  refine ⟨fun rate s => ⟨_, rfl, ?_⟩, fun rate s j hj => ⟨_, rfl, ?_⟩⟩
  · obtain ⟨-, -, -, -, -, -, -, -, -, -, himage, -, hwear⟩ :=
      State.afterReset_fields s.imageAtReset rate s.sstop s.pending
    rw [himage, hwear]
    obtain ⟨h1, h2, h0⟩ := s.imageAtReset.wearCount_eq
    refine ⟨h1, h2, h0, fun hj => ?_, fun w hw => ?_, fun hbad => ?_⟩
    · rw [State.imageAtReset, hj]
    · obtain ⟨hworking, hresult, htime, -⟩ := State.afterReset_good hw rate s.sstop s.pending
      refine ⟨hworking, hresult, htime, fun p => ?_⟩
      rw [State.afterReset_port, if_neg (by simp [hw])]
      exact ⟨rfl, fun k => by simp [PortRecord.fresh]⟩
    · obtain ⟨hworking, hresult, htime, -⟩ := State.afterReset_bad hbad rate s.sstop s.pending
      refine ⟨hworking, hresult, htime, ?_, fun p => ?_, fun p k hk => ?_⟩
      · rw [State.afterReset_port, if_pos ⟨hbad, rfl⟩]
        rfl
      · rw [State.afterReset_port]
        cases p <;> simp only [hbad, true_and, reduceCtorEq, if_true, if_false] <;> decide
      · rw [State.afterReset_port]
        split
        · rename_i hp
          have hne : NoticeKind.storeResult.idx.val ≠ k.idx.val := fun e =>
            hk.elim (fun h => h hp.2) fun h => h (NoticeKind.idx_inj (Fin.ext e)).symm
          simp [PortRecord.fresh, hne]
        · simp [PortRecord.fresh]
  · obtain ⟨-, -, -, -, -, -, -, -, -, -, himage, hjob, -⟩ :=
      State.afterReset_fields s.imageAtReset rate s.sstop s.pending
    rw [himage]
    refine ⟨hjob, ?_⟩
    rw [State.imageAtReset, hj]
    dsimp only
    cases Config.storeProgress (since j.takenAt s.now) with
    | bodyPartial => exact ⟨rfl, rfl, rfl⟩
    | bodyWritten => exact ⟨StoredImage.goodBody_written rfl, rfl, rfl⟩
    | firstCopy => exact ⟨StoredImage.goodBody_written rfl, rfl, rfl⟩
    | secondCopy => exact ⟨StoredImage.goodBody_written rfl, rfl, rfl⟩

/-- The state of a first reset is the one that RESET leaves from an unwritten image (R40). -/
theorem State.reset_eq : State.reset = State.afterReset .unwritten false false [] := by
  unfold State.afterReset
  rw [show StoredImage.unwritten.goodBody = none from rfl]
  dsimp only
  rw [State.raise_of_routed none rfl]
  rfl

/-- Settles O58. -/
theorem resetMeetsTheInvariants : Obligations.ResetMeetsTheInvariants := by
  unfold Obligations.ResetMeetsTheInvariants
  refine ⟨?_, fun i j d e hd => ?_, fun p k hk => ?_, by simp [BeltAgrees, State.reset], .inl rfl, .inl rfl,
    ⟨by decide, by decide⟩, .of_vacant rfl rfl fun c => ?_, ?_⟩
  · rw [State.reset_eq]; exact State.afterReset_lines ..
  · simp [State.reset] at hd
  · rw [State.reset_eq] at hk
    exact State.afterReset_routed _ _ _ _ p k hk
  · rw [State.reset_eq, State.afterReset_chan]; decide
  · rw [State.reset_eq]
    exact State.afterReset_inRange (fun b hb => by cases hb) _ _ _

/-! ## Joining a queue (R95, R140) and offered events (R173) -/

theorem takeWhile_dropWhile_append {α : Type} {p : α → Bool} {a b : List α} (ha : ∀ m ∈ a, p m = true)
    (hb : ∀ m ∈ b, p m = false) : (a ++ b).takeWhile p = a ∧ (a ++ b).dropWhile p = b := by
  rw [List.takeWhile_append_of_pos ha, List.dropWhile_append_of_pos ha]
  cases b with
  | nil => simp
  | cons x b => simp [hb x]

/-- Settles O12. -/
theorem joinsTheTailOfItsClass : Obligations.JoinsTheTailOfItsClass := by
  unfold Obligations.JoinsTheTailOfItsClass
  refine fun s q n => ⟨fun hn => ?_, fun a b hn hq ha hb => ?_⟩
  · rw [State.joinClass, hn]
  · obtain ⟨htake, hdrop⟩ := takeWhile_dropWhile_append (p := fun m => s.classOf m == .rush)
      (fun m hm => by simp [ha m hm]) (fun m hm => by simp [hb m hm])
    rw [State.joinClass, hn, hq, htake, hdrop]

theorem LineCounter.passes_iff (c : LineCounter) (subject : Option (Fin 16 × PlateClass)) :
    c.passes subject = true ↔ (c.recipe = none ∨ c.recipe = subject.map Prod.fst) ∧
      (c.cls = none ∨ c.cls = subject.map Prod.snd) := by
  simp [LineCounter.passes]

theorem LineCounter.passesUnit_iff (c : LineCounter) (unit : Option (Option UnitId)) :
    c.passesUnit unit = true ↔ ∀ u, unit = some u → c.unit = none ∨ c.unit = u := by
  cases unit <;> simp [LineCounter.passesUnit]

/-- Settles O25. -/
theorem offerAddsToMatchingCounters : Obligations.OfferAddsToMatchingCounters := by
  unfold Obligations.OfferAddsToMatchingCounters
  intro s e amount subject unit k
  simp only [State.offer, State.setCounters_counters, Fin.getElem_fin, getElem_mapAll, LineCounter.passes_iff,
    LineCounter.passesUnit_iff, and_assoc]
  rfl

end Sys2Proof.Machine
end

section
/-! SUPPORT. Pulses and the timers of a run (R54 to R59, R62 to R64, R67, R68): what each leaves of a dose channel. -/

namespace Sys2Proof.Machine

/-! ## Pulses -/

theorem Channel.met_iff {c : Channel} {T : Nat} (h : c.target = some T) : c.met = true ↔ T ≤ c.accumulator := by
  simp [Channel.met, h]

/-- R54: the record of an EXPOSING channel after a pulse. -/
theorem Channel.exposedPulse_pulsedAt (c : Channel) (now us : Nat) :
    (c.pulsedAt now).exposedPulse now us =
      if c.inGrace then
        { c with lastPulse := some now, accumulator := min 16777215 (c.accumulator + c.settings.quantum) }
      else
        { c with
          lastPulse := some now, accumulator := min 16777215 (c.accumulator + c.settings.quantum)
          window := c.window.map fun w => { w with pulses := w.pulses + 1 }
          dimFrom := some us, deadFrom := some now } := by
  unfold Channel.exposedPulse
  rfl

theorem Channel.exposedPulse_accumulator (c : Channel) (now us : Nat) :
    ((c.pulsedAt now).exposedPulse now us).accumulator = min 16777215 (c.accumulator + c.settings.quantum) := by
  rw [Channel.exposedPulse_pulsedAt]
  split <;> rfl

/-- R54, R55: a pulse in EXPOSING that leaves the target open, and one that meets it. -/
theorem exec_sensorPulse_below {s : State} {ch : ChannelId} {T : Nat} (hs : (s.chan ch).state = .exposing)
    (ht : (s.chan ch).target = some T) (h : min 16777215 ((s.chan ch).accumulator + (s.chan ch).settings.quantum) < T) :
    exec (.sensorPulse ch) s =
      .next (s.setChan ch (((s.chan ch).pulsedAt s.now).exposedPulse s.now s.microNow)) := by
  obtain ⟨-, -, -, -, htarget⟩ := ((s.chan ch).pulsedAt s.now).exposedPulse_kept s.now s.microNow
  rw [exec_sensorPulse_exposing hs, if_neg]
  rw [Channel.met_iff (htarget.trans ht), Channel.exposedPulse_accumulator]
  omega

theorem exec_sensorPulse_met {s : State} {ch : ChannelId} {T : Nat} (hs : (s.chan ch).state = .exposing)
    (ht : (s.chan ch).target = some T) (h : T ≤ min 16777215 ((s.chan ch).accumulator + (s.chan ch).settings.quantum)) :
    exec (.sensorPulse ch) s =
      .next ((s.setChan ch (((s.chan ch).pulsedAt s.now).exposedPulse s.now s.microNow)).reachRun ch) := by
  obtain ⟨-, -, -, -, htarget⟩ := ((s.chan ch).pulsedAt s.now).exposedPulse_kept s.now s.microNow
  rw [exec_sensorPulse_exposing hs, if_pos]
  rwa [Channel.met_iff (htarget.trans ht), Channel.exposedPulse_accumulator]

/-- Settles O7. -/
theorem pulsesCount : Obligations.PulsesCount := by
  unfold Obligations.PulsesCount
  refine ⟨fun ch s c T hc hs ht hlt => ?_, fun ch s c hc => ⟨fun hs => ?_, fun hs hlt => ?_, fun hs hle => ?_, fun hs => ?_⟩⟩
  · subst hc
    rw [exec_sensorPulse_below hs ht hlt, Channel.exposedPulse_pulsedAt]
    rfl
  · subst hc
    rw [exec_sensorPulse_tail hs]
    rfl
  · subst hc
    rw [exec_sensorPulse_idle hs, State.idlePulse]
    simp only [State.setChan_chan, if_true]
    rw [if_neg (by simp only [Channel.pulsedAt]; omega), State.setChan_setChan]
    rfl
  · subst hc
    rw [exec_sensorPulse_idle hs, State.idlePulse]
    simp only [State.setChan_chan, if_true]
    rw [if_pos (by simp only [Channel.pulsedAt]; omega), State.setChan_setChan]
    rfl
  · subst hc
    rw [exec_sensorPulse_fault hs]
    rfl

/-! ## The end of grace, of a window and of the dim watch -/

/-- Line time that passes changes an idle count and nothing else of a channel (R62). -/
theorem State.pass_chan (s : State) (ms : Nat) (ch : ChannelId) :
    ∃ k, (s.pass ms).chan ch = { s.chan ch with idleCount := k } := by
  have h := s.lineSeconds_chan ((s.now % 1000 + ms) / 1000) ch
  split at h
  · exact ⟨(s.chan ch).idleCount, h⟩
  · exact ⟨0, h⟩

theorem State.passMicros_chan (s : State) (us : Nat) (ch : ChannelId) :
    ∃ k, (s.passMicros us).chan ch = { s.chan ch with idleCount := k } := s.pass_chan _ ch

theorem exec_graceEnd_eq {s : State} {ch : ChannelId} (hs : (s.chan ch).state = .exposing)
    (hg : (s.chan ch).inGrace = true) {v : State}
    (hv : v = s.pass (remainingMs (s.chan ch).startedAt (s.chan ch).settings.grace s.now)) :
    exec (.graceEnd ch) s = .next (v.setChan ch ((v.chan ch).endGrace v.now v.microNow)) := by
  show execGraceEnd ch s = _
  unfold execGraceEnd State.passTo
  rw [hv]
  exact congrArg Host.Outcome.next (if_pos ⟨hs, hg⟩)

theorem exec_windowEnd_eq {s : State} {ch : ChannelId} {w : Window} {r : RunDocket}
    (hs : (s.chan ch).state = .exposing) (hw : (s.chan ch).window = some w) (hr : (s.chan ch).run = some r) {v : State}
    (hv : v = s.pass (remainingMs w.openedAt Config.windowMs s.now)) {c : Channel}
    (hc : c = (v.chan ch).closeWindow w.pulses v.now) :
    exec (.windowEnd ch) s = .next (if c.agedNow = true then
        ((((v.setChan ch { c with agedRaised := true }).updateRunDocket r fun d => { d with agedSeen := true }).raise
          (channelPort ch) .lampAged (some r.number)).raise .E .lampAged (some r.number))
      else v.setChan ch c) := by
  have hrun : c.run = some r := by
    obtain ⟨k, hk⟩ := s.pass_chan (remainingMs w.openedAt Config.windowMs s.now) ch
    rw [hc, hv, hk]
    exact hr
  show execWindowEnd ch s = _
  unfold execWindowEnd State.passTo
  rw [hs, hw]
  dsimp only
  rw [← hv, ← hc, hrun]
  cases c.agedNow <;> rfl

theorem exec_dimWatchExpiry_eq {s : State} {ch : ChannelId} {f : Nat} {r : RunDocket}
    (hs : (s.chan ch).state = .exposing) (hf : (s.chan ch).dimFrom = some f) (hr : (s.chan ch).run = some r) {v : State}
    (hv : v = s.passMicros (remainingMicros f (s.chan ch).settings.dimInterval s.microNow)) :
    exec (.dimWatchExpiry ch) s = .next (if (s.chan ch).dimRaised = false then
        ((v.setChan ch { v.chan ch with dimFrom := none, dimRaised := true }).updateRunDocket r fun d =>
          { d with dimSeen := true }).raise (channelPort ch) .lampDim (some r.number)
      else v.setChan ch { v.chan ch with dimFrom := none }) := by
  have hkept : (v.chan ch).run = some r ∧ (v.chan ch).dimRaised = (s.chan ch).dimRaised := by
    obtain ⟨k, hk⟩ := s.passMicros_chan (remainingMicros f (s.chan ch).settings.dimInterval s.microNow) ch
    rw [hv, hk]
    exact ⟨hr, rfl⟩
  obtain ⟨hrun, hraised⟩ := hkept
  show execDimWatchExpiry ch s = _
  unfold execDimWatchExpiry
  rw [hs, hf]
  dsimp only
  rw [← hv, hrun, hraised]
  cases (s.chan ch).dimRaised <;> rfl

/-- Settles O13. -/
theorem windowEndMeasuresTheLamp : Obligations.WindowEndMeasuresTheLamp := by
  unfold Obligations.WindowEndMeasuresTheLamp
  intro ch s v c w r e hl hc hs hw hr hv he hhl
  subst hc
  obtain ⟨k, hk⟩ : ∃ k, v.chan ch = { s.chan ch with idleCount := k } := by rw [hv]; exact s.pass_chan _ ch
  obtain ⟨x, hx⟩ : ∃ x, x = (v.chan ch).closeWindow w.pulses v.now := ⟨_, rfl⟩
  have hclose : x = { v.chan ch with irradiance := some e, health := hl, window := some { openedAt := v.now, pulses := 0 } } := by
    have hset : (v.chan ch).settings = (s.chan ch).settings := by rw [hk]; rfl
    have hhealth : (v.chan ch).health = (s.chan ch).health := by rw [hk]
    rw [hx, Channel.closeWindow, hset, hhealth, hhl, he]
    rfl
  have haged : x.agedNow = true ↔ ∃ y, hl = some y ∧ y < (s.chan ch).settings.aged ∧ (s.chan ch).agedRaised = false := by
    rw [hclose, hk]
    cases hl with
    | none => simp [Channel.agedNow]
    | some y =>
      simp only [Channel.agedNow, Channel.settings, Bool.and_eq_true, Bool.not_eq_true', Option.some.injEq,
        exists_eq_left']
      exact and_congr_left fun _ => decide_eq_true_iff
  rw [exec_windowEnd_eq hs hw hr hv hx]
  refine ⟨fun hok => ?_, fun y hy hlt hnot => ?_⟩
  · rw [if_neg, hclose]
    rw [haged]
    rintro ⟨y, hy, hlt, hnot⟩
    obtain hok | hok := hok
    · have := hok y hy; omega
    · rw [hok] at hnot; cases hnot
  · rw [if_pos (haged.mpr ⟨y, hy, hlt, hnot⟩), hclose]

/-- Settles O14. -/
theorem graceEndsAndTheDimWatchRaisesOnce : Obligations.GraceEndsAndTheDimWatchRaisesOnce := by
  unfold Obligations.GraceEndsAndTheDimWatchRaisesOnce
  refine ⟨fun ch s c hc hs hg => ?_, fun ch s v c r f hc hs hf hr hv => ?_⟩
  · subst hc
    exact ⟨_, rfl, exec_graceEnd_eq hs hg rfl⟩
  · subst hc
    rw [exec_dimWatchExpiry_eq hs hf hr hv]
    refine ⟨fun hclock hf' hd hle => ?_, fun hraised => by rw [if_pos hraised], fun hraised => by rw [if_neg (by simp [hraised])]⟩
    rw [hv]
    exact lineTimePasses.2.2 s f _ hclock hf' hd hle

end Sys2Proof.Machine
end

section
/-! SUPPORT. The ends of runs, of tails and of line seconds (R60 to R62, R67, R68, R174). -/

namespace Sys2Proof.Machine

/-! ## What an event, a run docket's update and a delivered dose depend on -/

theorem State.docket_of_slots {s t : State} (h : t.slots = s.slots) (n : Nat) : t.docket n = s.docket n := by
  rw [State.docket, h, State.docket]

theorem State.offer_counters_congr {s t : State} (h : t.counters = s.counters) (e : CounterEvent) (a : Nat)
    (x : Option (Fin 16 × PlateClass)) (u : Option (Option UnitId)) :
    (t.offer e a x u).counters = (s.offer e a x u).counters := by
  simp only [State.offer, State.setCounters_counters, h]

theorem Docket.deliver_kept (d : Docket) (ch : ChannelId) (dose : Nat) :
    (d.deliver ch dose).number = d.number ∧ (d.deliver ch dose).regOrder = d.regOrder := by
  cases ch <;> exact ⟨rfl, rfl⟩

/-- R5: an update of the run docket reaches the docket of its number and registration, and no other. -/
theorem State.updateRunDocket_docket (s : State) (r : RunDocket) (f : Docket → Docket) (hf : ∀ d, (f d).number = d.number)
    (m : Nat) :
    (s.updateRunDocket r f).docket m =
      if m = r.number then (s.docket m).map fun d => if d.regOrder = r.order then f d else d else s.docket m := by
  obtain ⟨he, d, hd, ho⟩ | ⟨he, hno⟩ := s.updateRunDocket_cases r f
  · rw [he, State.updateDocket_docket _ _ _ _ hf]
    split
    · rename_i hm
      subst hm
      simp [hd, ho]
    · rfl
  · rw [he]
    split
    · rename_i hm
      subst hm
      cases hd : s.docket r.number with
      | none => rfl
      | some d => simp [hno d hd]
    · rfl

theorem State.updateRunDocket_slots_of_gone {s : State} {r : RunDocket} (f : Docket → Docket)
    (h : ∀ d, s.docket r.number = some d → d.regOrder ≠ r.order) : (s.updateRunDocket r f).slots = s.slots := by
  obtain ⟨-, d, hd, ho⟩ | ⟨he, -⟩ := s.updateRunDocket_cases r f
  · exact absurd ho (h d hd)
  · rw [he]

theorem State.recordDose_docket (s : State) (ch : ChannelId) (r : RunDocket) (dose target m : Nat) :
    (s.recordDose ch r dose target).docket m =
      if m = r.number then (s.docket m).map fun d => if d.regOrder = r.order then d.deliver ch dose else d
      else s.docket m := by
  rw [State.docket_of_slots (show (s.recordDose ch r dose target).slots =
    (s.updateRunDocket r fun d => d.deliver ch dose).slots by simp [State.recordDose])]
  exact s.updateRunDocket_docket r _ (fun d => (d.deliver_kept ch dose).1) m

theorem State.recordDose_counters (s : State) (ch : ChannelId) (r : RunDocket) (dose target : Nat) :
    (s.recordDose ch r dose target).counters =
      (s.offer .doseOvershoot (dose - target) (some (r.recipe, r.cls)) (overshootUnit ch r)).counters :=
  State.offer_counters_congr (by simp) _ _ _ _

/-! ## The owners while line time passes -/

theorem RunsStage.congr {s t : State} {u : UnitId} {n : Nat} {st : Stage} (h : RunsStage s u n st)
    (hu : t.unit u = s.unit u) (hg : (t.chan (stageChannel u st)).state = (s.chan (stageChannel u st)).state)
    (hr : (t.chan (stageChannel u st)).run = (s.chan (stageChannel u st)).run) : RunsStage t u n st :=
  ⟨hu.trans h.unit, hg.trans h.channel, by rw [hr]; exact h.docket⟩

theorem RunsFinish.congr {s t : State} {n : Nat} {c a : Mark} (h : RunsFinish s n c a) (hf : t.finisher = s.finisher)
    (hg : ∀ ch, (t.chan ch).state = (s.chan ch).state) (hr : ∀ ch, (t.chan ch).run = (s.chan ch).run) :
    RunsFinish t n c a :=
  ⟨hf.trans h.finisher, h.someOpen, fun hc => by rw [hg, hr]; exact h.uvc hc, fun ha => by rw [hg, hr]; exact h.uva ha⟩

theorem State.pass_run {s v : State} {ms : Nat} (hv : v = s.pass ms) (ch : ChannelId) :
    (v.chan ch).state = (s.chan ch).state ∧ (v.chan ch).run = (s.chan ch).run := by
  obtain ⟨k, hk⟩ := s.pass_chan ms ch
  rw [hv, hk]
  exact ⟨rfl, rfl⟩

theorem RunsStage.of_pass {s v : State} {ms : Nat} {u : UnitId} {n : Nat} {st : Stage} (h : RunsStage s u n st)
    (hv : v = s.pass ms) : RunsStage v u n st :=
  h.congr (by rw [hv, State.unit, State.unit]; simp) (State.pass_run hv _).1 (State.pass_run hv _).2

theorem RunsFinish.of_pass {s v : State} {ms n : Nat} {c a : Mark} (h : RunsFinish s n c a) (hv : v = s.pass ms) :
    RunsFinish v n c a :=
  h.congr (by rw [hv]; simp) (fun ch => (State.pass_run hv ch).1) fun ch => (State.pass_run hv ch).2

/-! ## The dead and the overtime watch (R60, R61) -/

theorem exec_deadWatchExpiry_eq {s : State} {ch : ChannelId} {f : Nat} (hs : (s.chan ch).state = .exposing)
    (hf : (s.chan ch).deadFrom = some f) {v : State}
    (hv : v = s.pass (remainingMs f (s.chan ch).settings.deadInterval s.now)) :
    exec (.deadWatchExpiry ch) s = .next (v.abortRun ch .lampOut) := by
  show execDeadWatchExpiry ch s = _
  rw [execDeadWatchExpiry, hs, hf, hv]
  rfl

theorem exec_overtimeExpiry_eq {s : State} {ch : ChannelId} {l : Nat} (hs : (s.chan ch).state = .exposing)
    (hl : (s.chan ch).overtime = some l) {v : State} (hv : v = s.pass (remainingMs (s.chan ch).startedAt (l * 100) s.now)) :
    exec (.overtimeExpiry ch) s = .next (v.abortRun ch .overtime) := by
  show execOvertimeExpiry ch s = _
  rw [execOvertimeExpiry, hs, hl, hv]
  rfl

/-- Settles O15. -/
theorem lampWatchHaltsTheOwner : Obligations.LampWatchHaltsTheOwner := by
  unfold Obligations.LampWatchHaltsTheOwner
  refine ⟨fun u st s n h => ⟨fun f hf => ?_, fun l hl => ?_⟩, fun ch s n c a h hch => ?_⟩
  · rw [exec_deadWatchExpiry_eq h.channel hf rfl, (h.of_pass rfl).abortRun_eq rfl]
  · rw [exec_overtimeExpiry_eq h.channel hl rfl, (h.of_pass rfl).abortRun_eq rfl]
  · have hs : (s.chan ch).state = .exposing := by
      obtain ⟨rfl, hc⟩ | ⟨rfl, ha⟩ := hch
      · exact (h.uvc hc).1
      · exact (h.uva ha).1
    refine ⟨fun f hf => ?_, fun l hl => ?_⟩
    · rw [exec_deadWatchExpiry_eq hs hf rfl, (h.of_pass rfl).abortRun_eq hch rfl]
    · rw [exec_overtimeExpiry_eq hs hl rfl, (h.of_pass rfl).abortRun_eq hch rfl]

/-! ## The end of a tail (R67, R68) -/

theorem exec_tailExpiry_eq {s : State} {ch : ChannelId} {f : Nat} (hs : (s.chan ch).state = .tail)
    (hf : (s.chan ch).tailFrom = some f) {v : State}
    (hv : v = s.pass (remainingMs f (s.chan ch).settings.tail s.now)) :
    exec (.tailExpiry ch) s = .next (v.endTail ch) := by
  show execTailExpiry ch s = _
  rw [execTailExpiry, hs, hf, hv]
  rfl

theorem State.endTail_reached {s : State} {ch : ChannelId} {r : RunDocket} (hr : (s.chan ch).run = some r)
    (hl : (s.chan ch).lastEnd = .reached) :
    s.endTail ch =
      (s.recordDose ch r (s.chan ch).accumulator ((s.chan ch).target.getD 0)).setChan ch (s.chan ch).toIdle := by
  have hc (dose T : Nat) : (s.recordDose ch r dose T).chan ch = s.chan ch := by simp [State.chan]
  rw [State.endTail, hr, hl]
  dsimp only
  rw [hc]

theorem State.endTail_aborted {s : State} {ch : ChannelId} {r : RunDocket} {why : AbortReason}
    (hr : (s.chan ch).run = some r) (hl : (s.chan ch).lastEnd = .aborted why) :
    s.endTail ch =
      (s.updateRunDocket r fun d => d.takePartial ch (s.chan ch).accumulator).setChan ch (s.chan ch).toIdle := by
  have hc (f : Docket → Docket) : (s.updateRunDocket r f).chan ch = s.chan ch := by simp [State.chan]
  rw [State.endTail, hr, hl]
  dsimp only
  rw [hc]

/-- Settles O16. -/
theorem tailEndWritesTheDeliveredDose : Obligations.TailEndWritesTheDeliveredDose := by
  unfold Obligations.TailEndWritesTheDeliveredDose
  intro ch s v c r f T hc hs hf hr hT hl hv
  subst hc
  obtain ⟨k, hk⟩ : ∃ k, v.chan ch = { s.chan ch with idleCount := k } := by rw [hv]; exact s.pass_chan _ ch
  have hslots : v.slots = s.slots := by rw [hv]; simp
  have htail : v.endTail ch = (v.recordDose ch r (s.chan ch).accumulator T).setChan ch (v.chan ch).toIdle := by
    rw [State.endTail_reached (by rw [hk]; exact hr) (by rw [hk]; exact hl), hk]
    simp only [hT, Option.getD_some]
  have hdocket (m : Nat) : (v.endTail ch).docket m = if m = r.number then (s.docket m).map fun d =>
      if d.regOrder = r.order then d.deliver ch (s.chan ch).accumulator else d else s.docket m := by
    rw [htail, State.setChan_docket, State.recordDose_docket, State.docket_of_slots hslots]
  have hchan : (v.endTail ch).chan ch = (v.chan ch).toIdle := by rw [htail, State.setChan_chan, if_pos rfl]
  refine ⟨_, exec_tailExpiry_eq hs hf hv, hchan, fun d hd ho => ?_, fun hno => ?_, fun m hm => ?_, ?_, ?_⟩
  · rw [hdocket, if_pos rfl, hd, Option.map_some, if_pos ho]
    cases ch <;> rfl
  · rw [htail, State.setChan_slots, ← hslots, State.recordDose]
    simp only [State.offer_frame]
    exact State.updateRunDocket_slots_of_gone _ fun d hd => hno d (by rw [← State.docket_of_slots hslots]; exact hd)
  · rw [hdocket, if_neg hm]
  · rw [htail, State.setChan_counters, State.recordDose_counters]
    cases ch <;> rfl
  · rw [hchan, htail]
    ext <;> simp

/-- Settles O17. -/
theorem tailEndWritesThePartialDose : Obligations.TailEndWritesThePartialDose := by
  unfold Obligations.TailEndWritesThePartialDose
  intro ch s v c r f why hc hs hf hr hl hv
  subst hc
  obtain ⟨k, hk⟩ : ∃ k, v.chan ch = { s.chan ch with idleCount := k } := by rw [hv]; exact s.pass_chan _ ch
  have hslots : v.slots = s.slots := by rw [hv]; simp
  have htail : v.endTail ch =
      (v.updateRunDocket r fun d => d.takePartial ch (s.chan ch).accumulator).setChan ch (v.chan ch).toIdle := by
    rw [State.endTail_aborted (by rw [hk]; exact hr) (by rw [hk]; exact hl), hk]
  have hdocket (m : Nat) : (v.endTail ch).docket m = if m = r.number then (s.docket m).map fun d =>
      if d.regOrder = r.order then d.takePartial ch (s.chan ch).accumulator else d else s.docket m := by
    rw [htail, State.setChan_docket, State.updateRunDocket_docket _ _ _ fun d => (d.takePartial_kept ch _).1,
      State.docket_of_slots hslots]
  have hchan : (v.endTail ch).chan ch = (v.chan ch).toIdle := by rw [htail, State.setChan_chan, if_pos rfl]
  refine ⟨_, exec_tailExpiry_eq hs hf hv, hchan, fun d x hd ho hx hheld hstage => ?_, fun d hd hno => ?_, fun m hm => ?_, ?_⟩
  · rw [hdocket, if_pos rfl, hd, Option.map_some, if_pos ho, Docket.takePartial, hx]
    dsimp only
    rw [if_pos ⟨hheld, hstage⟩]
    cases ch <;> rfl
  · rw [hdocket, if_pos rfl, hd, Option.map_some]
    split
    · rename_i ho
      have hnot : d.state ≠ .held := hno.resolve_left (Decidable.not_not.mpr ho)
      rw [Docket.takePartial]
      split
      · rw [if_neg fun h => hnot h.1]
      · rfl
    · rfl
  · rw [hdocket, if_neg hm]
  · rw [hchan, htail]
    ext <;> simp

/-! ## A line second (R62, R174) -/

/-- R174: one sample of a counter. -/
theorem State.lineSeconds_one_counter (s : State) (k : Fin 4) : (s.lineSeconds 1).counters[k] =
    match s.sampled s.counters[k].event with
    | some ds => s.counters[k].add (ds.filter fun d => s.counters[k].passes d.subject).length
    | none => s.counters[k] := by
  simp only [State.lineSeconds, Nat.one_ne_zero, if_false, Fin.getElem_fin, getElem_mapAll, Nat.one_mul] <;>
    rfl

/-- Settles O18. -/
theorem lineSecondSamples : Obligations.LineSecondSamples := by
  unfold Obligations.LineSecondSamples
  intro s
  have hone : (s.now % 1000 + (1000 - s.now % 1000)) / 1000 = 1 := by omega
  have hpass : s.pass (1000 - s.now % 1000) = { s.lineSeconds 1 with
      now := (s.now / 1000 + 1) * 1000 % 4294967296000, micro := 0 } := by
    rw [State.pass, hone, if_neg (by omega), Config.timeModulus,
      show s.now + (1000 - s.now % 1000) = (s.now / 1000 + 1) * 1000 by omega]
  refine ⟨_, congrArg Host.Outcome.next hpass, rfl, rfl, fun c => ?_, fun k => ?_, ?_⟩
  · exact s.lineSeconds_chan 1 c
  · show (_ → ((s.lineSeconds 1).counters[k]).value = _) ∧ (_ → ((s.lineSeconds 1).counters[k]).value = _) ∧
      (_ → ((s.lineSeconds 1).counters[k]).value = _) ∧ (_ → _ → _ → (s.lineSeconds 1).counters[k] = _) ∧
      (s.lineSeconds 1).counters[k] = { s.counters[k] with value := ((s.lineSeconds 1).counters[k]).value }
    rw [State.lineSeconds_one_counter]
    refine ⟨fun h => ?_, fun h => ?_, fun h => ?_, fun h1 h2 h3 => ?_, ?_⟩
    · rw [h]; rfl
    · rw [h]; rfl
    · rw [h]; rfl
    · have hno : s.sampled s.counters[k].event = none := by
        unfold State.sampled
        split
        · exact absurd ‹_› h1
        · exact absurd ‹_› h2
        · exact absurd ‹_› h3
        · rfl
      rw [hno]
    · split <;> rfl
  · ext <;> simp

end Sys2Proof.Machine
end

section
/-! SUPPORT. The end of a reached run in closed form (R55, R67, R81, R82, R157). -/

namespace Sys2Proof.Machine

/-! ## The channel of a reached run -/

/-- R55: the record `c` of an EXPOSING channel after its run was reached at the moment `now`; with a latched TAIL of 0 the tail
has ended in the same step (R67). -/
def Channel.reachedAt (c : Channel) (now : Nat) : Channel :=
  { c with
    state := if c.settings.tail = 0 then .idle else .tail
    permit := false, lastEnd := .reached, elapsed := min 65535 (since c.startedAt now / 100)
    idleCount := if c.settings.tail = 0 then 0 else c.idleCount
    inGrace := false, window := none, dimFrom := none, deadFrom := none
    tailFrom := if c.settings.tail = 0 then none else some now }

theorem Channel.toTail_reached {c : Channel} (hc : c.state = .exposing) {now : Nat} (ht : c.settings.tail ≠ 0) :
    c.toTail .reached now = c.reachedAt now := by
  simp [Channel.toTail, Channel.reachedAt, Channel.elapsedNow, hc, ht, Config.figureMax]

theorem Channel.toTail_reached_toIdle {c : Channel} (hc : c.state = .exposing) {now : Nat} (ht : c.settings.tail = 0) :
    (c.toTail .reached now).toIdle = c.reachedAt now := by
  simp [Channel.toTail, Channel.toIdle, Channel.reachedAt, Channel.elapsedNow, hc, ht, Config.figureMax]

/-- R67: the dose that a latched TAIL of 0 delivers at once. -/
def State.doseAtOnce (s : State) (ch : ChannelId) (r : RunDocket) (tail dose target : Nat) : State :=
  if tail = 0 then s.recordDose ch r dose target else s

@[simp] theorem State.doseAtOnce_frame (s : State) (ch : ChannelId) (r : RunDocket) (tail dose target : Nat) :
    (s.doseAtOnce ch r tail dose target).now = s.now ∧ (s.doseAtOnce ch r tail dose target).micro = s.micro ∧
    (s.doseAtOnce ch r tail dose target).sstop = s.sstop ∧ (s.doseAtOnce ch r tail dose target).rateHigh = s.rateHigh ∧
    (s.doseAtOnce ch r tail dose target).tpm = s.tpm ∧ (s.doseAtOnce ch r tail dose target).ports = s.ports ∧
    (s.doseAtOnce ch r tail dose target).nextNumber = s.nextNumber ∧
    (s.doseAtOnce ch r tail dose target).nextOrder = s.nextOrder ∧
    (s.doseAtOnce ch r tail dose target).exposurePool = s.exposurePool ∧
    (s.doseAtOnce ch r tail dose target).finishPool = s.finishPool ∧
    (s.doseAtOnce ch r tail dose target).working = s.working ∧ (s.doseAtOnce ch r tail dose target).store = s.store ∧
    (s.doseAtOnce ch r tail dose target).channels = s.channels ∧ (s.doseAtOnce ch r tail dose target).units = s.units ∧
    (s.doseAtOnce ch r tail dose target).finisher = s.finisher ∧
    (s.doseAtOnce ch r tail dose target).washQueue = s.washQueue ∧ (s.doseAtOnce ch r tail dose target).belt = s.belt ∧
    (s.doseAtOnce ch r tail dose target).beltSpeed = s.beltSpeed ∧ (s.doseAtOnce ch r tail dose target).bath = s.bath ∧
    (s.doseAtOnce ch r tail dose target).drawers = s.drawers ∧
    (s.doseAtOnce ch r tail dose target).dryQueue = s.dryQueue ∧
    (s.doseAtOnce ch r tail dose target).pending = s.pending := by
  unfold State.doseAtOnce
  split <;> simp

theorem State.doseAtOnce_docket (s : State) (ch : ChannelId) (r : RunDocket) (tail dose target m : Nat) :
    (s.doseAtOnce ch r tail dose target).docket m =
      if m = r.number then (s.docket m).map fun d => if tail = 0 ∧ d.regOrder = r.order then d.deliver ch dose else d
      else s.docket m := by
  unfold State.doseAtOnce
  split
  · rename_i h
    rw [State.recordDose_docket]
    simp only [h, true_and]
  · rename_i h
    simp [h]

theorem State.doseAtOnce_counters (s : State) (ch : ChannelId) (r : RunDocket) (tail dose target : Nat) :
    (s.doseAtOnce ch r tail dose target).counters = (if tail = 0 then
      s.offer .doseOvershoot (dose - target) (some (r.recipe, r.cls)) (overshootUnit ch r) else s).counters := by
  unfold State.doseAtOnce
  split
  · rw [State.recordDose_counters]
  · rfl

theorem State.recordDose_setChan (s : State) (c ch : ChannelId) (x : Channel) (r : RunDocket) (dose target : Nat) :
    (s.setChan c x).recordDose ch r dose target = (s.recordDose ch r dose target).setChan c x := by
  unfold State.recordDose
  rw [State.updateRunDocket_setChan]
  rfl

theorem State.doseAtOnce_setChan (s : State) (c ch : ChannelId) (x : Channel) (r : RunDocket) (tail dose target : Nat) :
    (s.setChan c x).doseAtOnce ch r tail dose target = (s.doseAtOnce ch r tail dose target).setChan c x := by
  unfold State.doseAtOnce
  split
  · exact s.recordDose_setChan c ch x r dose target
  · rfl

/-- R67: with the record of a reached run written, the tail that a latched TAIL of 0 ends at once. -/
theorem State.endTailIfZero_reached (s : State) (ch : ChannelId) {c : Channel} (hc : c.state = .exposing) {r : RunDocket}
    {T : Nat} (hr : c.run = some r) (hT : c.target = some T) (now : Nat) :
    (s.setChan ch (c.toTail .reached now)).endTailIfZero ch =
      (s.doseAtOnce ch r c.settings.tail c.accumulator T).setChan ch (c.reachedAt now) := by
  have hchan : (s.setChan ch (c.toTail .reached now)).chan ch = c.toTail .reached now := by
    rw [State.setChan_chan, if_pos rfl]
  unfold State.endTailIfZero State.doseAtOnce
  rw [hchan, show (c.toTail .reached now).settings = c.settings from rfl]
  by_cases ht : c.settings.tail = 0
  · rw [if_pos ⟨rfl, ht⟩, if_pos ht, State.endTail_reached (by rw [hchan]; exact hr) (by rw [hchan]; rfl), hchan,
      State.recordDose_setChan, State.setChan_setChan, Channel.toTail_reached_toIdle hc ht,
      show (c.toTail .reached now).target = some T from hT]
    rfl
  · rw [if_neg fun h => ht h.2, if_neg ht, Channel.toTail_reached hc ht]

/-! ## The reports to the owners, with the channel's record written before or after -/

section
variable (s : State) (c : ChannelId) (x : Channel)

theorem State.setUnit_setChan (u : UnitId) (y : UnitRecord) :
    (s.setChan c x).setUnit u y = (s.setUnit u y).setChan c x := rfl

theorem State.setFinisher_setChan (y : FinisherRecord) :
    (s.setChan c x).setFinisher y = (s.setFinisher y).setChan c x := rfl

theorem State.setWashQueue_setChan (q : List Nat) :
    (s.setChan c x).setWashQueue q = (s.setWashQueue q).setChan c x := rfl

theorem State.joinClass_setChan (q : List Nat) (n : Nat) : (s.setChan c x).joinClass q n = s.joinClass q n := rfl

theorem State.joinWash_setChan (n : Nat) : (s.setChan c x).joinWash n = (s.joinWash n).setChan c x := by
  unfold State.joinWash
  dsimp only
  rw [State.joinClass_setChan, State.setChan_washQueue, State.setWashQueue_setChan, State.updateDocket_setChan,
    State.raise_setChan]
  split <;> rfl

theorem State.stageReached_setChan (u : UnitId) (n : Nat) (st : Stage) :
    (s.setChan c x).stageReached u n st = (s.stageReached u n st).setChan c x := by
  cases st with
  | back =>
    rw [State.stageReached, State.backReached, State.setUnit_setChan, State.updateDocket_setChan, State.raise_setChan]
    rfl
  | main =>
    rw [State.stageReached, State.mainReached, State.setUnit_setChan, State.joinWash_setChan, State.raise_setChan,
      State.offerFor_setChan]
    rfl

theorem State.finisherReached_setChan (n : Nat) (uvc uva : Mark) (ch : ChannelId) :
    (s.setChan c x).finisherReached n uvc uva ch = (s.finisherReached n uvc uva ch).setChan c x := by
  have hcomplete : (s.setChan c x).finishComplete n = (s.finishComplete n).setChan c x := by
    rw [State.finishComplete, State.setFinisher_setChan, State.updateDocket_setChan, State.raise_setChan,
      State.raise_setChan, State.offerFor_setChan]
    rfl
  unfold State.finisherReached
  dsimp only
  rw [hcomplete, State.setFinisher_setChan]
  generalize (if ch = .FC then Mark.reached else uvc) = y
  generalize (if ch = .FA then Mark.reached else uva) = z
  split <;> rfl

end

/-! ## The crossing pulse (R55) -/

/-- The record of an EXPOSING channel after the pulse that met its target. -/
def Channel.crossed (c : Channel) (now us : Nat) : Channel := ((c.pulsedAt now).exposedPulse now us).reachedAt now

theorem Channel.crossed_eq (c : Channel) (now us : Nat) : c.crossed now us = { c with
    state := if c.settings.tail = 0 then .idle else .tail
    permit := false, lastPulse := some now
    accumulator := min 16777215 (c.accumulator + c.settings.quantum)
    lastEnd := .reached, elapsed := min 65535 (since c.startedAt now / 100)
    inGrace := false, window := none, dimFrom := none, deadFrom := none
    idleCount := if c.settings.tail = 0 then 0 else c.idleCount
    tailFrom := if c.settings.tail = 0 then none else some now } := by
  rw [Channel.crossed, Channel.exposedPulse_pulsedAt]
  split <;> rfl

section
variable {s : State} {n T dose : Nat} {r : RunDocket}

/-- R55: the crossing pulse of a channel whose report leaves `t`. -/
theorem exec_sensorPulse_reported {ch : ChannelId} {t : State} (hstate : (s.chan ch).state = .exposing)
    (hdocket : (s.chan ch).run.map RunDocket.number = some n) (hr : (s.chan ch).run = some r)
    (hT : (s.chan ch).target = some T)
    (hdose : dose = min 16777215 ((s.chan ch).accumulator + (s.chan ch).settings.quantum)) (hle : T ≤ dose)
    (hreport : ∀ x, (s.setChan ch x).reportReached ch n = t.setChan ch x) :
    exec (.sensorPulse ch) s = .next
      ((t.doseAtOnce ch r (s.chan ch).settings.tail dose T).setChan ch ((s.chan ch).crossed s.now s.microNow)) := by
  obtain ⟨x, hx⟩ : ∃ x, x = ((s.chan ch).pulsedAt s.now).exposedPulse s.now s.microNow := ⟨_, rfl⟩
  obtain ⟨hxs, -, hxr, hxl, hxt⟩ := ((s.chan ch).pulsedAt s.now).exposedPulse_kept s.now s.microNow
  have hxd : x.accumulator = dose := by rw [hx, Channel.exposedPulse_accumulator, hdose]
  rw [← hx] at hxs hxr hxl hxt
  have htail : (s.setChan ch x).chanToTail ch .reached = s.setChan ch (x.toTail .reached s.now) := by
    rw [State.chanToTail, State.setChan_chan, if_pos rfl, State.setChan_setChan]
    rfl
  rw [exec_sensorPulse_met hstate hT (hdose ▸ hle), ← hx, State.reachRun, htail, State.setChan_chan, if_pos rfl,
    Channel.runNumber_of_map (hxr ▸ hdocket), hreport,
    State.endTailIfZero_reached _ _ (hxs.trans hstate) (hxr.trans hr) (hxt.trans hT), hxd, Channel.crossed, ← hx,
    show x.settings = (s.chan ch).settings by rw [Channel.settings, hxl]; rfl]

/-- R55, R81, R82: the crossing pulse of a unit's stage. -/
theorem exec_sensorPulse_stage {u : UnitId} {st : Stage} (h : RunsStage s u n st)
    (hr : (s.chan (stageChannel u st)).run = some r) (hT : (s.chan (stageChannel u st)).target = some T)
    (hdose : dose = min 16777215 ((s.chan (stageChannel u st)).accumulator + (s.chan (stageChannel u st)).settings.quantum))
    (hle : T ≤ dose) :
    exec (.sensorPulse (stageChannel u st)) s = .next
      (((s.stageReached u n st).doseAtOnce (stageChannel u st) r (s.chan (stageChannel u st)).settings.tail dose T).setChan
        (stageChannel u st) ((s.chan (stageChannel u st)).crossed s.now s.microNow)) := by
  refine exec_sensorPulse_reported h.channel h.docket hr hT hdose hle fun x => ?_
  rw [State.reportReached, channelOwner_stageChannel]
  dsimp only
  rw [show (s.setChan (stageChannel u st) x).unit u = .running n st from h.unit, if_pos rfl, State.stageReached_setChan]

/-- R55, R157: the crossing pulse of an OPEN channel of the finisher. -/
theorem exec_sensorPulse_finisher {ch : ChannelId} {c a : Mark} (h : RunsFinish s n c a)
    (hch : (ch = .FC ∧ c = .openMark) ∨ (ch = .FA ∧ a = .openMark)) (hr : (s.chan ch).run = some r)
    (hT : (s.chan ch).target = some T)
    (hdose : dose = min 16777215 ((s.chan ch).accumulator + (s.chan ch).settings.quantum)) (hle : T ≤ dose) :
    exec (.sensorPulse ch) s = .next
      (((s.finisherReached n c a ch).doseAtOnce ch r (s.chan ch).settings.tail dose T).setChan ch
        ((s.chan ch).crossed s.now s.microNow)) := by
  obtain ⟨hfin, -, huvc, huva⟩ := h
  obtain ⟨hstate, hdocket, howner, hmark⟩ : (s.chan ch).state = .exposing ∧
      (s.chan ch).run.map RunDocket.number = some n ∧ channelOwner ch = .finisher ∧
      (FinisherRecord.running n c a).markOf ch = some .openMark := by
    obtain ⟨rfl, rfl⟩ | ⟨rfl, rfl⟩ := hch
    · exact ⟨(huvc rfl).1, (huvc rfl).2, rfl, rfl⟩
    · exact ⟨(huva rfl).1, (huva rfl).2, rfl, rfl⟩
  refine exec_sensorPulse_reported hstate hdocket hr hT hdose hle fun x => ?_
  rw [State.reportReached, howner, State.setChan_finisher, hfin]
  dsimp only
  rw [if_pos ⟨rfl, hmark⟩, State.finisherReached_setChan]

end

/-- R55: the channels after a run was reached, whatever its owner. -/
theorem State.reachRun_channels {s : State} {ch : ChannelId} (h : (s.chan ch).state = .exposing) :
    (s.reachRun ch).channels = s.channels.set ch ((s.chan ch).reachedAt s.now) := by
  obtain ⟨t, ht⟩ : ∃ t, t = (s.chanToTail ch .reached).reportReached ch (s.chan ch).runNumber := ⟨_, rfl⟩
  have hchannels : t.channels = s.channels.set ch ((s.chan ch).toTail .reached s.now) := by
    rw [ht]
    simp [State.chanToTail]
  have hchan : t.chan ch = (s.chan ch).toTail .reached s.now := by rw [State.chan_of_set hchannels, if_pos rfl]
  rw [State.reachRun, ← ht, State.endTailIfZero, hchan, show ((s.chan ch).toTail .reached s.now).settings =
    (s.chan ch).settings from rfl]
  by_cases htail : (s.chan ch).settings.tail = 0
  · rw [if_pos ⟨rfl, htail⟩, State.endTail_channels, hchan, hchannels, PerChannel.set_set,
      Channel.toTail_reached_toIdle h htail]
  · rw [if_neg fun g => htail g.2, hchannels, Channel.toTail_reached h htail]

/-- Settles O8. -/
theorem crossingPulseEndsTheRun : Obligations.CrossingPulseEndsTheRun := by
  unfold Obligations.CrossingPulseEndsTheRun
  intro ch s c T hc hs hT hle
  subst hc
  obtain ⟨hxs, -⟩ := ((s.chan ch).pulsedAt s.now).exposedPulse_kept s.now s.microNow
  have hpulsed : ((s.setChan ch (((s.chan ch).pulsedAt s.now).exposedPulse s.now s.microNow)).chan ch).state = .exposing := by
    rw [State.setChan_chan, if_pos rfl]
    exact hxs.trans hs
  have hchannels := State.reachRun_channels hpulsed
  rw [State.setChan_channels, PerChannel.set_set, State.setChan_chan, if_pos rfl] at hchannels
  refine ⟨_, exec_sensorPulse_met hs hT hle, ?_, fun x hx => ?_⟩
  · rw [State.chan_of_set hchannels, if_pos rfl]
    exact Channel.crossed_eq _ _ s.microNow
  · rw [State.chan_of_set hchannels, if_neg hx]

end Sys2Proof.Machine
end

section
/-! SUPPORT. What a reached stage and a reached finisher channel leave (R81, R82, R157). -/

namespace Sys2Proof.Machine

/-- R166: the ports after a raise depend on the ports, the second and the levels. -/
theorem State.raise_ports_congr {s t : State} (hp : t.ports = s.ports) (hn : t.now = s.now) (hw : t.working = s.working)
    (p : Port) (k : NoticeKind) (n : Option Nat) : (t.raise p k n).ports = (s.raise p k n).ports := by
  unfold State.raise
  split
  · simp only [State.setPort_ports, State.port, State.seconds, hp, hn, hw]
  · exact hp

theorem State.raise_docket (s : State) (p : Port) (k : NoticeKind) (n : Option Nat) (m : Nat) :
    (s.raise p k n).docket m = s.docket m := State.docket_of_slots (by simp) m

theorem State.offerFor_docket (s : State) (e : CounterEvent) (a n : Nat) (w : Bool) (m : Nat) :
    (s.offerFor e a n w).docket m = s.docket m := State.docket_of_slots (by simp) m

/-- R173: an event of a live docket. -/
theorem State.offerFor_counters {s : State} {n : Nat} {d : Docket} (h : s.docket n = some d) (e : CounterEvent) (a : Nat)
    (w : Bool) : (s.offerFor e a n w).counters = (s.offer e a (some (d.recipe, d.cls)) (if w then some d.unit else none)).counters := by
  rw [State.offerFor, h]
  rfl

theorem State.unit_of_set {s t : State} {u : UnitId} {x : UnitRecord} (h : t.units = s.units.set u x) : t.unit u = x := by
  rw [State.unit, h]
  cases u <;> rfl

theorem overshootUnit_stage (u : UnitId) (st : Stage) (r : RunDocket) :
    overshootUnit (stageChannel u st) r = some r.unit := by
  cases u <;> cases st <;> rfl

theorem RunsStage.run_number {s : State} {u : UnitId} {n : Nat} {st : Stage} (h : RunsStage s u n st) {r : RunDocket}
    (hr : (s.chan (stageChannel u st)).run = some r) : r.number = n := by
  have := h.docket
  rw [hr] at this
  exact Option.some.inj this

/-! ## The back stage (R81) -/

theorem State.backReached_docket (s : State) (u : UnitId) (n m : Nat) : (s.backReached u n).docket m =
    if m = n then (s.docket n).map fun d => { d with state := .atExposure, sub := .mainReady } else s.docket m := by
  rw [State.backReached, State.raise_docket, State.updateDocket_docket]
  · rfl
  · exact fun _ => rfl

/-- Settles O9. -/
theorem reachedBackStageReadiesTheMain : Obligations.ReachedBackStageReadiesTheMain := by
  unfold Obligations.ReachedBackStageReadiesTheMain
  intro u s n T dose d c r h hd hc hr hT hdose hle
  subst hc
  have hn := h.run_number hr
  have hunits : (s.backReached u n).units = s.units.set u (.loaded n) := by simp [State.backReached]
  have hcounters : (s.backReached u n).counters = s.counters := by simp [State.backReached]
  refine ⟨_, exec_sensorPulse_stage h hr hT hdose hle, ?_, ?_, fun m hm => ?_, ?_, ?_, ?_⟩
  · refine State.unit_of_set (s := s) ?_
    simp [State.stageReached, hunits]
  · rw [State.setChan_docket, State.doseAtOnce_docket, if_pos hn.symm, State.stageReached, State.backReached_docket,
      if_pos rfl, hd]
    simp only [Option.map_some]
    cases u <;> split <;> simp [*, Docket.deliver, stageChannel]
  · rw [State.setChan_docket, State.doseAtOnce_docket, if_neg (hn ▸ hm), State.stageReached, State.backReached_docket,
      if_neg hm]
  · simp only [State.setChan_ports, State.doseAtOnce_frame]
    exact State.raise_ports_congr (by simp) (by simp) (by simp) _ _ _
  · rw [State.setChan_counters, State.doseAtOnce_counters, overshootUnit_stage]
    split
    · exact State.offer_counters_congr hcounters _ _ _ _
    · exact hcounters
  · ext <;> simp [State.stageReached, State.backReached]

/-! ## The main stage (R82) -/

theorem State.joinWash_docket (s : State) (n m : Nat) : (s.joinWash n).docket m =
    if m = n then (s.docket n).map fun d => { d with state := .washQueued, sub := .none } else s.docket m := by
  have hset : ((s.setWashQueue (s.joinClass s.washQueue n)).updateDocket n fun d =>
      { d with state := .washQueued, sub := .none }).docket m =
      if m = n then (s.docket n).map fun d => { d with state := .washQueued, sub := .none } else s.docket m := by
    rw [State.updateDocket_docket]
    · rfl
    · exact fun _ => rfl
  unfold State.joinWash
  dsimp only
  split
  · rw [State.raise_docket, hset]
  · exact hset

theorem State.joinWash_ports (s : State) (n : Nat) :
    (s.joinWash n).ports = (if s.washQueue = [] then s.raise .W .washReady (some n) else s).ports := by
  unfold State.joinWash
  dsimp only
  cases s.washQueue with
  | nil =>
    simp only [List.isEmpty_nil, if_true]
    exact State.raise_ports_congr (by simp) (by simp) (by simp) _ _ _
  | cons x q => simp

theorem State.mainReached_docket (s : State) (u : UnitId) (n m : Nat) : (s.mainReached u n).docket m =
    if m = n then (s.docket n).map fun d => { d with state := .washQueued, sub := .none } else s.docket m := by
  rw [State.mainReached, State.offerFor_docket, State.raise_docket, State.joinWash_docket]
  rfl

/-- Settles O10. -/
theorem reachedMainStageJoinsTheQueue : Obligations.ReachedMainStageJoinsTheQueue := by
  unfold Obligations.ReachedMainStageJoinsTheQueue
  intro u s n T dose d c r h hd hc hr hT hdose hle
  subst hc
  have hn := h.run_number hr
  have hunits : (s.mainReached u n).units = s.units.set u .vacant := by simp [State.mainReached]
  have hjoin (t : State) : (t.joinWash n).washQueue = t.joinClass t.washQueue n ∧ (t.joinWash n).counters = t.counters := by
    unfold State.joinWash
    dsimp only
    split <;> simp
  have hdocket : ((((s.setUnit u .vacant).joinWash n).raise (unitPort u) .doseReached (some n)).docket n) =
      some { d with state := .washQueued, sub := .none } := by
    rw [State.raise_docket, State.joinWash_docket, if_pos rfl, State.setUnit_docket, hd]
    rfl
  have hcounters : (s.mainReached u n).counters =
      (s.offer .exposed 1 (some (d.recipe, d.cls)) (some d.unit)).counters := by
    rw [State.mainReached, State.offerFor_counters hdocket]
    exact State.offer_counters_congr (by simp) _ _ _ _
  refine ⟨_, _, exec_sensorPulse_stage h hr hT hdose hle, ?_, ?_, fun m hm => ?_, ?_, ?_, rfl, ?_, ?_⟩
  · refine State.unit_of_set (s := s) ?_
    simp [State.stageReached, hunits]
  · rw [State.setChan_docket, State.doseAtOnce_docket, if_pos hn.symm, State.stageReached, State.mainReached_docket,
      if_pos rfl, hd]
    simp only [Option.map_some]
    cases u <;> split <;> simp [*, Docket.deliver, stageChannel]
  · rw [State.setChan_docket, State.doseAtOnce_docket, if_neg (hn ▸ hm), State.stageReached, State.mainReached_docket,
      if_neg hm]
  · simp [State.stageReached, State.mainReached, hjoin]
    rfl
  · simp only [State.setChan_ports, State.doseAtOnce_frame, State.stageReached, State.mainReached, State.offerFor_frame]
    refine State.raise_ports_congr ?_ ?_ ?_ _ _ _
    · rw [State.joinWash_ports, State.setUnit_washQueue]
      split
      · exact State.raise_ports_congr (by simp) (by simp) (by simp) _ _ _
      · rfl
    · split <;> simp
    · split <;> simp
  · rw [State.setChan_counters, State.doseAtOnce_counters, overshootUnit_stage]
    split
    · exact State.offer_counters_congr hcounters _ _ _ _
    · exact hcounters
  · ext <;> simp [State.stageReached, State.mainReached]

/-! ## The finisher (R157) -/

/-- Where live numbers are unique, an update that leaves the docket as it is leaves the table as it is. -/
theorem State.updateDocket_slots_of_fixed {s : State} (hu : NumbersUnique s) {n : Nat} {d : Docket} (hd : s.docket n = some d)
    {f : Docket → Docket} (hf : f d = d) : (s.updateDocket n f).slots = s.slots := by
  obtain ⟨i, hi⟩ := State.docket_slot hd
  ext j hj : 1
  simp only [State.updateDocket, State.setSlots_slots, getElem_mapAll]
  cases hx : s.slots[j] with
  | none => rfl
  | some x =>
    by_cases hxn : x.number = n
    · obtain rfl : ⟨j, hj⟩ = i := hu ⟨j, hj⟩ i x d hx hi (hxn.trans (State.docket_number hd).symm)
      obtain rfl : x = d := Option.some.inj (hx.symm.trans hi)
      simp [hf]
    · simp [hxn]

theorem State.finishComplete_docket (s : State) (n m : Nat) : (s.finishComplete n).docket m =
    if m = n then (s.docket n).map fun d => { d with state := .done, sub := .none, doneAt := some s.seconds }
    else s.docket m := by
  rw [State.finishComplete, State.offerFor_docket, State.raise_docket, State.raise_docket, State.updateDocket_docket]
  · rfl
  · exact fun _ => rfl

theorem RunsFinish.run_number {s : State} {n : Nat} {c a : Mark} (h : RunsFinish s n c a) {ch : ChannelId}
    (hch : (ch = .FC ∧ c = .openMark) ∨ (ch = .FA ∧ a = .openMark)) {r : RunDocket} (hr : (s.chan ch).run = some r) :
    r.number = n := by
  have hrun : (s.chan ch).run.map RunDocket.number = some n := by
    obtain ⟨rfl, hc⟩ | ⟨rfl, ha⟩ := hch
    · exact (h.uvc hc).2
    · exact (h.uva ha).2
  rw [hr] at hrun
  exact Option.some.inj hrun

theorem Mark.open_of_ne_reached {m : Mark} (h : m ≠ .reached) : m = .openMark := by
  cases m with
  | openMark => rfl
  | reached => exact absurd rfl h

/-- R157: the first mark of two. -/
theorem State.finisherReached_first (s : State) (n : Nat) {ch : ChannelId} (hch : ch = .FC ∨ ch = .FA) :
    s.finisherReached n .openMark .openMark ch = s.setFinisher
      (.running n (if ch = .FC then .reached else .openMark) (if ch = .FA then .reached else .openMark)) := by
  obtain rfl | rfl := hch <;> rfl

/-- R157: the second mark. -/
theorem State.finisherReached_last (s : State) (n : Nat) {c a : Mark} {ch : ChannelId}
    (hch : (ch = .FC ∧ c = .openMark) ∨ (ch = .FA ∧ a = .openMark)) (h : c = .reached ∨ a = .reached) :
    s.finisherReached n c a ch = s.finishComplete n := by
  obtain ⟨rfl, rfl⟩ | ⟨rfl, rfl⟩ := hch
  · obtain rfl : a = .reached := h.resolve_left (by decide)
    simp [State.finisherReached]
  · obtain rfl : c = .reached := h.resolve_right (by decide)
    simp [State.finisherReached]

/-- Settles O11. -/
theorem reachedFinisherChannel : Obligations.ReachedFinisherChannel := by
  unfold Obligations.ReachedFinisherChannel
  intro ch s n T dose c a d d' x r h hch hd hx hr hT hdose hle hd'
  subst hx
  have hn := h.run_number hch hr
  have hF : ch = .FC ∨ ch = .FA := hch.imp And.left And.left
  have hovershoot : overshootUnit ch r = none := by obtain rfl | rfl := hF <;> rfl
  have hdeliver (e : Docket) : e.deliver ch dose = if ch = .FC then { e with finishC := some dose }
      else { e with finishA := some dose } := by obtain rfl | rfl := hF <;> rfl
  obtain ⟨B, hB⟩ : ∃ B, B = s.finisherReached n c a ch := ⟨_, rfl⟩
  have hexec := exec_sensorPulse_finisher h hch hr hT hdose hle
  rw [← hB] at hexec
  obtain ⟨t, ht⟩ : ∃ t, t = (B.doseAtOnce ch r (s.chan ch).settings.tail dose T).setChan ch
    ((s.chan ch).crossed s.now s.microNow) := ⟨_, rfl⟩
  have hdocket (m : Nat) : t.docket m = if m = n then (B.docket m).map fun e =>
      if (s.chan ch).settings.tail = 0 ∧ e.regOrder = r.order then e.deliver ch dose else e else B.docket m := by
    rw [ht, State.setChan_docket, State.doseAtOnce_docket, hn]
  have hcounters {v : State} (hv : B.counters = v.counters) : t.counters = (if (s.chan ch).settings.tail = 0 then
      v.offer .doseOvershoot (dose - T) (some (r.recipe, r.cls)) none else v).counters := by
    rw [ht, State.setChan_counters, State.doseAtOnce_counters, hovershoot]
    split
    · exact State.offer_counters_congr hv _ _ _ _
    · exact hv
  rw [← ht] at hexec
  by_cases hboth : c = .openMark ∧ a = .openMark
  · obtain ⟨rfl, rfl⟩ := hboth
    have hfirst := s.finisherReached_first n hF
    rw [← hB] at hfirst
    refine ⟨t, s, hexec, (if_pos ⟨rfl, rfl⟩).symm, hcounters (by rw [hfirst]; rfl), fun m hm => ?_, fun _ _ => ⟨?_, fun hu hsame => ?_, ?_⟩,
      fun hno => ?_⟩
    · rw [hdocket, if_neg hm, hfirst]; rfl
    · rw [hdocket, if_pos rfl, hfirst, State.setFinisher_docket, hd, hd', Option.map_some, hdeliver]
    · rw [ht, State.setChan_slots, State.doseAtOnce]
      split
      · rename_i htail
        rw [State.recordDose, (State.offer_frame _ _ _ _ _).2.2.2.2.2.2.1, hfirst]
        obtain ⟨he, e, he', ho⟩ | ⟨he, -⟩ := State.updateRunDocket_cases (s.setFinisher _) r fun d => d.deliver ch dose
        · rw [State.setFinisher_docket, hn, hd] at he'
          obtain rfl := Option.some.inj he'
          rw [he, hn]
          rw [if_pos ⟨htail, ho⟩, ← hdeliver] at hd'
          exact State.updateDocket_slots_of_fixed (s := s.setFinisher _) hu (d := d) hd (hd'.symm.trans hsame)
        · rw [he]; rfl
      · rw [hfirst]; rfl
    · rw [ht, hfirst]; ext <;> simp
    · simp at hno
  · have hlast : B = s.finishComplete n := by
      rw [hB]
      refine s.finisherReached_last n hch ?_
      refine Classical.byContradiction fun hno => ?_
      obtain ⟨hc, ha⟩ := not_or.mp hno
      exact hboth ⟨Mark.open_of_ne_reached hc, Mark.open_of_ne_reached ha⟩
    have hBd : B.docket n = some { d with state := .done, sub := .none, doneAt := some s.seconds } := by
      rw [hlast, State.finishComplete_docket, if_pos rfl, hd]
      rfl
    have hraised : ((((s.setFinisher .vacant).updateDocket n fun d =>
        { d with state := .done, sub := .none, doneAt := some s.seconds }).raise .F .doseReached (some n)).raise
          .E .plateDone (some n)).docket n = some { d with state := .done, sub := .none, doneAt := some s.seconds } := by
      rw [← hBd, hlast, State.finishComplete, State.offerFor_docket]
    have hBc : B.counters = (s.offer .finished 1 (some (d.recipe, d.cls)) none).counters := by
      rw [hlast, State.finishComplete, State.offerFor_counters hraised]
      exact State.offer_counters_congr (by simp) _ _ _ _
    refine ⟨t, _, hexec, (if_neg hboth).symm, hcounters hBc, fun m hm => ?_, fun hc ha => absurd ⟨hc, ha⟩ hboth,
      fun _ => ⟨?_, ?_, ?_⟩⟩
    · rw [hdocket, if_neg hm, hlast, State.finishComplete_docket, if_neg hm]
    · rw [hdocket, if_pos rfl, hBd, hd', Option.map_some, hdeliver]
      split <;> (try split) <;> rfl
    · rw [ht, hlast]
      simp only [State.setChan_ports, State.doseAtOnce_frame, State.finishComplete, State.offerFor_frame]
      refine State.raise_ports_congr (State.raise_ports_congr ?_ ?_ ?_ _ _ _) ?_ ?_ _ _ _ <;> simp
    · rw [ht, hlast]; ext <;> simp [State.finishComplete]

end Sys2Proof.Machine
end

section
/-! SUPPORT. The wash passes of the plates on the belt: what keeps them, and what flags them (R108, R116). -/

namespace Sys2Proof.Machine

/-! ## Operations that keep every wash pass -/

/-- From `s` to `t` the belt and the wash passes of every live docket are the same. -/
structure PassesKept (s t : State) : Prop where
  belt   : t.belt = s.belt
  passes : ∀ m, (t.docket m).map Docket.passes = (s.docket m).map Docket.passes

theorem PassesKept.refl (s : State) : PassesKept s s := ⟨rfl, fun _ => rfl⟩

theorem PassesKept.trans {s t u : State} (h : PassesKept s t) (g : PassesKept t u) : PassesKept s u :=
  ⟨g.belt.trans h.belt, fun m => (g.passes m).trans (h.passes m)⟩

theorem PassesKept.same {s t : State} (hb : t.belt = s.belt) (hs : t.slots = s.slots) : PassesKept s t :=
  ⟨hb, fun m => by rw [State.docket_of_slots hs]⟩

theorem PassesKept.thenSame {s t u : State} (h : PassesKept s t) (hb : u.belt = t.belt) (hs : u.slots = t.slots) :
    PassesKept s u := h.trans (.same hb hs)

theorem State.updateDocket_passesKept (s : State) (n : Nat) {f : Docket → Docket}
    (hf : ∀ d, (f d).number = d.number ∧ (f d).passes = d.passes) : PassesKept s (s.updateDocket n f) := by
  refine ⟨by simp, fun m => ?_⟩
  rw [State.updateDocket_docket s n m f fun d => (hf d).1]
  split
  · rename_i hm
    subst hm
    cases s.docket m with
    | none => rfl
    | some d => exact congrArg some (hf d).2
  · rfl

section
variable {s t : State} (h : PassesKept s t)
include h

theorem PassesKept.updateDocket (n : Nat) {f : Docket → Docket}
    (hf : ∀ d, (f d).number = d.number ∧ (f d).passes = d.passes := by exact fun _ => ⟨rfl, rfl⟩) :
    PassesKept s (t.updateDocket n f) := h.trans (t.updateDocket_passesKept n hf)

theorem PassesKept.raise (p : Port) (k : NoticeKind) (n : Option Nat) : PassesKept s (t.raise p k n) :=
  h.thenSame (by simp) (by simp)

theorem PassesKept.offerFor (e : CounterEvent) (a n : Nat) (w : Bool) : PassesKept s (t.offerFor e a n w) :=
  h.thenSame (by simp) (by simp)

theorem PassesKept.setChan (c : ChannelId) (x : Channel) : PassesKept s (t.setChan c x) := h.thenSame rfl rfl

theorem PassesKept.chanToTail (c : ChannelId) (e : LastEnd) : PassesKept s (t.chanToTail c e) := h.thenSame rfl rfl

theorem PassesKept.setUnit (u : UnitId) (x : UnitRecord) : PassesKept s (t.setUnit u x) := h.thenSame rfl rfl

theorem PassesKept.setFinisher (x : FinisherRecord) : PassesKept s (t.setFinisher x) := h.thenSame rfl rfl

theorem PassesKept.setDrawers (v : Vector Drawer 8) : PassesKept s (t.setDrawers v) := h.thenSame rfl rfl

theorem PassesKept.setDryQueue (q : List Nat) : PassesKept s (t.setDryQueue q) := h.thenSame rfl rfl

end

section
variable (s : State)

theorem State.updateRunDocket_passesKept (r : RunDocket) {f : Docket → Docket}
    (hf : ∀ d, (f d).number = d.number ∧ (f d).passes = d.passes) : PassesKept s (s.updateRunDocket r f) := by
  unfold State.updateRunDocket
  split
  · exact s.updateDocket_passesKept _ hf
  · exact .refl s

theorem State.enterHeld_passesKept (n : Nat) (r : HoldReason) (st : HoldStage) (l : HoldLocation) :
    PassesKept s (s.enterHeld n r st l) :=
  (((PassesKept.refl s).updateDocket n).raise _ _ _).offerFor _ _ _ _

theorem State.haltUnit_passesKept (u : UnitId) (n : Nat) (st : Stage) (r : HoldReason) :
    PassesKept s (s.haltUnit u n st r) :=
  (((PassesKept.refl s).setUnit u (.halted n st r)).trans (State.enterHeld_passesKept _ _ _ _ _)).raise _ _ _

theorem State.finisherHalt_passesKept (n : Nat) (c a : Mark) (r : HoldReason) : PassesKept s (s.finisherHalt n c a r) :=
  (((PassesKept.refl s).setFinisher (.halted n c a r)).trans (State.enterHeld_passesKept _ _ _ _ _)).raise _ _ _

theorem Docket.deliver_passes (d : Docket) (ch : ChannelId) (dose : Nat) : (d.deliver ch dose).passes = d.passes := by
  cases ch <;> rfl

theorem State.recordDose_passesKept (c : ChannelId) (r : RunDocket) (x y : Nat) : PassesKept s (s.recordDose c r x y) :=
  (s.updateRunDocket_passesKept r fun d => ⟨d.deliver_number c x, d.deliver_passes c x⟩).thenSame
    (by simp [State.recordDose]) (by simp [State.recordDose])

theorem State.endTail_passesKept (c : ChannelId) : PassesKept s (s.endTail c) := by
  unfold State.endTail
  dsimp only
  split
  · split
    · exact (s.recordDose_passesKept _ _ _ _).setChan _ _
    · exact (s.updateRunDocket_passesKept _ fun d =>
        ⟨(d.takePartial_kept c _).1, (d.takePartial_kept c _).2.2.2⟩).setChan _ _
    · exact (PassesKept.refl s).setChan _ _
  · exact (PassesKept.refl s).setChan _ _

theorem State.endTailIfZero_passesKept (c : ChannelId) : PassesKept s (s.endTailIfZero c) := by
  unfold State.endTailIfZero
  split
  · exact s.endTail_passesKept c
  · exact .refl s

theorem State.haltFinisher_passesKept (n : Nat) (x y : Mark) (c : ChannelId) (r : AbortReason) (h : HoldReason) :
    PassesKept s (s.haltFinisher n x y c r h) := by
  unfold State.haltFinisher
  dsimp only
  generalize (if c = .FC then y else x) = o
  split
  · exact (PassesKept.trans ((PassesKept.refl s).chanToTail _ _) (State.finisherHalt_passesKept _ n x y h)).trans
      (State.endTailIfZero_passesKept _ _)
  · exact s.finisherHalt_passesKept n x y h

theorem State.reportAborted_passesKept (c : ChannelId) (n : Nat) (r : AbortReason) :
    PassesKept s (s.reportAborted c n r) := by
  unfold State.reportAborted
  split
  · exact .refl s
  · split
    · split
      · exact s.haltUnit_passesKept _ _ _ _
      · exact .refl s
    · split
      · split
        · exact s.haltFinisher_passesKept _ _ _ _ _ _
        · exact .refl s
      · exact .refl s

theorem State.abortRun_passesKept (c : ChannelId) (r : AbortReason) : PassesKept s (s.abortRun c r) := by
  unfold State.abortRun
  split
  · exact (PassesKept.trans ((PassesKept.refl s).chanToTail _ _) (State.reportAborted_passesKept _ _ _ _)).trans
      (State.endTailIfZero_passesKept _ _)
  · exact .refl s

theorem State.abortAll_passesKept (cs : List ChannelId) (r : AbortReason) : PassesKept s (s.abortAll cs r) := by
  unfold State.abortAll
  induction cs generalizing s with
  | nil => exact .refl s
  | cons c cs ih => exact (s.abortRun_passesKept c r).trans (ih _)

theorem State.abortUnit_passesKept (u : UnitId) (r : AbortReason) : PassesKept s (s.abortUnit u r) := by
  unfold State.abortUnit
  split
  · exact s.abortRun_passesKept _ _
  · exact .refl s

theorem State.abortFinisher_passesKept (r : AbortReason) : PassesKept s (s.abortFinisher r) := by
  unfold State.abortFinisher
  split
  · exact s.abortAll_passesKept _ _
  · exact .refl s

theorem State.giveDrawer_passesKept (d : Fin 8) (n : Nat) : PassesKept s (s.giveDrawer d n) :=
  ((((PassesKept.refl s).setDrawers _).setDryQueue _).updateDocket n).raise _ _ _

theorem State.assignDrawers_passesKept : PassesKept s s.assignDrawers := by
  unfold State.assignDrawers
  generalize 8 = k
  induction k generalizing s with
  | zero => exact .refl s
  | succ k ih =>
    unfold State.assignUpTo
    split
    · exact (s.giveDrawer_passesKept _ _).trans (ih _)
    · exact .refl s

end

/-! ## The flag of a dropped permit (R108) -/

theorem WashPass.beltStopped_idem (p : WashPass) :
    ({ ({ p with beltStopped := true } : WashPass) with beltStopped := true } : WashPass) = { p with beltStopped := true } :=
  rfl

theorem Docket.newest_updateNewest (d : Docket) (f : WashPass → WashPass) : (d.updateNewest f).newest = d.newest.map f := by
  simp only [Docket.newest, Docket.updateNewest, List.getLast?_eq_getElem?, List.length_modify, List.getElem?_modify_eq]
  rfl

/-- Docket `n` is live and its newest wash pass is `p`. -/
def NewestPass (s : State) (n : Nat) (p : WashPass) : Prop := ∃ d, s.docket n = some d ∧ d.newest = some p

theorem PassesKept.newest {s t : State} (h : PassesKept s t) {n : Nat} {p : WashPass} (hp : NewestPass s n p) :
    NewestPass t n p := by
  obtain ⟨d, hd, hn⟩ := hp
  have hpasses := h.passes n
  rw [hd, Option.map_some] at hpasses
  obtain ⟨e, he, hsame⟩ := Option.map_eq_some_iff.mp hpasses
  exact ⟨e, he, by rw [Docket.newest, hsame]; exact hn⟩

theorem NewestPass.updateDocket {s : State} {n : Nat} {p : WashPass} (h : NewestPass s n p) (m : Nat)
    {f : Docket → Docket} {g : WashPass → WashPass} (hf : ∀ d, (f d).number = d.number)
    (hg : ∀ d, (f d).newest = d.newest.map g) : NewestPass (s.updateDocket m f) n (if m = n then g p else p) := by
  obtain ⟨d, hd, hp⟩ := h
  unfold NewestPass
  rw [State.updateDocket_docket s m n f hf]
  by_cases hm : m = n
  · rw [if_pos hm.symm, if_pos hm, hm, hd]
    exact ⟨_, rfl, by rw [hg, hp]; rfl⟩
  · rw [if_neg (Ne.symm hm), if_neg hm]
    exact ⟨d, hd, hp⟩

/-- R108: the flag written over a list of belt records. -/
theorem foldl_flag_newest {n : Nat} {p : WashPass} (l : List BeltRecord) {s : State} (h : NewestPass s n p) :
    NewestPass (l.foldl (fun t r => t.updateDocket r.docket fun d =>
      d.updateNewest fun p => { p with beltStopped := true }) s) n
      (if ∃ r ∈ l, r.docket = n then { p with beltStopped := true } else p) := by
  induction l generalizing s p with
  | nil => simpa using h
  | cons x l ih =>
    have hrest := ih (h.updateDocket x.docket
      (f := fun d => d.updateNewest fun p => { p with beltStopped := true }) (g := fun p => { p with beltStopped := true })
      (fun _ => rfl) fun d => d.newest_updateNewest _)
    rw [List.foldl_cons]
    by_cases hx : x.docket = n
    · rw [if_pos ⟨x, List.mem_cons_self, hx⟩]
      simpa [hx] using hrest
    · simp only [List.mem_cons, exists_eq_or_imp, hx, false_or]
      simpa [hx] using hrest

theorem State.flagBeltStopped_newest {s : State} {n : Nat} {p : WashPass} (h : NewestPass s n p) :
    NewestPass s.flagBeltStopped n (if ∃ r ∈ s.belt, r.docket = n then { p with beltStopped := true } else p) :=
  foldl_flag_newest s.belt h

/-- R108, R116: a permit that drops flags a plate on the belt. -/
theorem State.updatePermit_flags {s : State} {r : BeltRecord} {p : WashPass} (h : NewestPass s r.docket p) (hr : r ∈ s.belt)
    (ht : s.tpm = true) (hp : s.permitted = false) : NewestPass s.updatePermit r.docket { p with beltStopped := true } := by
  have hflag := State.flagBeltStopped_newest (s := s.setTpm false) h
  rw [if_pos ⟨r, hr, rfl⟩] at hflag
  rw [State.updatePermit, if_neg (by simp [hp]), if_pos ht]
  exact hflag

/-- R108: a flag that stands stays at whatever the permit does. -/
theorem State.updatePermit_keepsFlag {s : State} {n : Nat} {p : WashPass} (h : NewestPass s n { p with beltStopped := true }) :
    NewestPass s.updatePermit n { p with beltStopped := true } := by
  have hflag := State.flagBeltStopped_newest (s := s.setTpm false) h
  rw [WashPass.beltStopped_idem, ite_self] at hflag
  unfold State.updatePermit
  split
  · exact h
  · split
    · exact hflag
    · exact h

end Sys2Proof.Machine
end

section
/-! SUPPORT. The silence of a port and the drops of the transport permit (R108, R116, R182). -/

namespace Sys2Proof.Machine

/-! ## The silence of a port (R182) -/

theorem exec_portLost_eq {s : State} {p : Port} {h : Nat} (hs : (s.port p).state = .online)
    (hh : (s.port p).lastHeard = some h) {v : State}
    (hv : v = s.pass (remainingMs h (s.working.line.silenceLimit * 1000) s.now)) :
    exec (.portLost p) s = .next (v.enterLost p) := by
  show execPortLost p s = _
  rw [execPortLost, hs, hh, hv]

theorem State.pass_port (s : State) (ms : Nat) (p : Port) : (s.pass ms).port p = s.port p := by
  rw [State.port, State.port]; simp

/-- R182: what the entry into LOST tells the other ports. -/
def State.toldLost (s : State) (p : Port) : State := (s.setPort p { s.port p with state := .lost }).raiseSilent p

theorem State.toldLost_kept (s : State) (p : Port) :
    (∀ u, (s.toldLost p).unit u = s.unit u) ∧ (s.toldLost p).finisher = s.finisher ∧
    (∀ ch, (s.toldLost p).chan ch = s.chan ch) := by
  refine ⟨fun u => ?_, by simp [State.toldLost], fun ch => ?_⟩
  · simp [State.toldLost, State.unit]
  · simp [State.toldLost, State.chan]

theorem RunsStage.told {s : State} {u : UnitId} {n : Nat} {st : Stage} (h : RunsStage s u n st) (p : Port) :
    RunsStage (s.toldLost p) u n st :=
  h.congr ((s.toldLost_kept p).1 u) (by rw [(s.toldLost_kept p).2.2]) (by rw [(s.toldLost_kept p).2.2])

theorem RunsFinish.told {s : State} {n : Nat} {c a : Mark} (h : RunsFinish s n c a) (p : Port) :
    RunsFinish (s.toldLost p) n c a :=
  h.congr (s.toldLost_kept p).2.1 (fun ch => by rw [(s.toldLost_kept p).2.2]) fun ch => by rw [(s.toldLost_kept p).2.2]

theorem State.enterLost_unitPort (s : State) (u : UnitId) :
    s.enterLost (unitPort u) = (s.toldLost (unitPort u)).abortUnit u .stationLost := by
  cases u <;> rfl

/-- Settles O22. -/
theorem silenceOfAUnitsPort : Obligations.SilenceOfAUnitsPort := by
  unfold Obligations.SilenceOfAUnitsPort
  intro u s v h hs hh hv
  rw [exec_portLost_eq hs hh hv, State.enterLost_unitPort]
  refine ⟨fun n st hrun => ?_, fun hno => ?_⟩
  · rw [((hrun.of_pass hv).told _).abortUnit_eq rfl]
    rfl
  · rw [State.abortUnit_of_not_running fun n st => ?_]
    · rfl
    · rw [(v.toldLost_kept _).1, hv]
      have hunit : (s.pass (remainingMs h (s.working.line.silenceLimit * 1000) s.now)).unit u = s.unit u := by
        simp [State.unit]
      rw [hunit]
      exact hno n st

/-- R116: a permit that agrees with its condition stays as it is. -/
theorem State.updatePermit_of_agrees {s : State} (h : TransportAgrees s) : s.updatePermit = s := by
  have hset : s.setTpm s.tpm = s := rfl
  have ht : s.tpm = s.permitted := h
  unfold State.updatePermit
  split
  · rename_i hp
    rw [← hp, ← ht, hset]
  · rename_i hp
    have hoff : s.tpm = false := by rw [ht]; simpa using hp
    rw [if_neg (by simp [hoff]), ← hoff, hset]

theorem State.toldLost_permitted (s : State) :
    (s.toldLost .W).permitted = (!s.sstop && decide (s.working.line.transportHold ≠ 0)) := by
  have hport : ((s.toldLost .W).port .W).state = .lost := by
    rw [State.toldLost, (State.raiseSilent_raisedOnly _ .W).portState, State.setPort_port, if_pos rfl]
  have hsstop : (s.toldLost .W).sstop = s.sstop := by simp [State.toldLost]
  have hworking : (s.toldLost .W).working = s.working := by simp [State.toldLost]
  rw [State.permitted, hport, hsstop, hworking]
  simp

/-- R116: an ONLINE port W has the permit follow SSTOP. -/
theorem TransportAgrees.tpm_of_online {s : State} (h : TransportAgrees s) (hw : (s.port .W).state = .online) :
    s.tpm = !s.sstop := by
  rw [h, State.permitted, hw]
  simp

/-- Settles O23. -/
theorem silenceOfTheOtherPorts : Obligations.SilenceOfTheOtherPorts := by
  unfold Obligations.SilenceOfTheOtherPorts
  intro p s w h hs hh hagree hw
  obtain ⟨v, hv⟩ : ∃ v, v = s.pass (remainingMs h (s.working.line.silenceLimit * 1000) s.now) := ⟨_, rfl⟩
  have hport : v.port p = s.port p := by rw [hv]; exact s.pass_port _ p
  have htold : w.raiseSilent p = v.toldLost p := by rw [hw, ← hv, State.toldLost, hport]
  have hkept : v.sstop = s.sstop ∧ v.working = s.working ∧ v.tpm = s.tpm ∧ v.finisher = s.finisher := by
    rw [hv]; simp
  obtain ⟨hsstop, hworking, htpm, hfin⟩ := hkept
  rw [exec_portLost_eq hs hh hv, htold]
  refine ⟨fun hp => ?_, fun n c a hp hrun => ?_, fun hp hno => ?_, fun hp hhold => ?_, fun hp hdrop => ?_⟩
  · subst hp; rfl
  · subst hp
    show Host.Outcome.next ((v.toldLost .F).abortFinisher .stationLost) = _
    rw [((hrun.of_pass hv).told _).abortFinisher_eq rfl]
  · subst hp
    show Host.Outcome.next ((v.toldLost .F).abortFinisher .stationLost) = _
    rw [State.abortFinisher_of_not_running fun n c a => by rw [(v.toldLost_kept _).2.1, hfin]; exact hno n c a]
  · subst hp
    show Host.Outcome.next (v.toldLost .W).updatePermit = _
    have hlost : (v.toldLost .W).tpm = s.tpm := by simp [State.toldLost, htpm]
    rw [State.updatePermit_of_agrees]
    rw [TransportAgrees, State.toldLost_permitted, hlost, hagree.tpm_of_online hs, hsstop, hworking]
    simp [hhold]
  · subst hp
    refine ⟨_, rfl, ?_, ?_⟩
    · show (v.toldLost .W).updatePermit.tpm = false
      rw [State.updatePermit_tpm, State.toldLost_permitted, hworking]
      simp [hdrop]
    · show (v.toldLost .W).updatePermit = _
      have hoff : (v.toldLost .W).updatePermit.tpm = false := by
        rw [State.updatePermit_tpm, State.toldLost_permitted, hworking]
        simp [hdrop]
      have hlost : v.enterLost .W = (v.toldLost .W).updatePermit := rfl
      ext <;> simp [hoff, hlost]

end Sys2Proof.Machine
end

section
/-! SUPPORT. The ONLINE entry as an operation that commutes with what the owning rules do (R180, R182). -/

namespace Sys2Proof.Machine

/-! ## The entry -/

/-- R182, R116: a valid frame heard at port `p`; an ONLINE port W has the permit follow SSTOP. -/
def State.heard (s : State) (p : Port) : State :=
  { s with
    ports := s.ports.set p { s.port p with state := .online, lastHeard := some s.now, receiver := .hunting }
    tpm := if p = .W then !s.sstop else s.tpm }

theorem State.onlineEntry_heard {s : State} (h : TransportAgrees s) (p : Port) : s.onlineEntry p = s.heard p :=
  State.onlineEntry_eq h p

theorem State.onlineEntry_heard_of_ne (s : State) {p : Port} (hp : p ≠ .W) : s.onlineEntry p = s.heard p := by
  rw [State.onlineEntry_eq_of_ne s hp, State.heard, if_neg hp]

theorem answeredWith_heard (t : State) (p : Port) (r : Request) (c : ResultCode) (fs : List Field) :
    answeredWith (t.heard p) p r c fs = replied t p r c fs := by
  simp [answeredWith, State.heard, State.setPort, State.port, PerPort.set_set, replied]

/-- R180: a request whose owning rule gives, at the port that was heard, the state `t` at that port. -/
theorem takeNamed_heard {r : Request} {k : Nat} {h : Hdr} {owner : State → Reply} {s t : State} {c : ResultCode}
    {fs : List Field} (hr : Reaches r k h s) (ht : TransportAgrees s)
    (ho : owner (s.heard h.port) = (t.heard h.port, c, fs)) :
    takeNamed r k h owner s = replied t h.port r c fs := by
  rw [takeNamed_reaches hr, State.onlineEntry_heard ht, ho]
  exact answeredWith_heard t h.port r c fs

section
variable (s : State) (p : Port)

/-! ## What the entry leaves unchanged -/

@[simp] theorem State.heard_now : (s.heard p).now = s.now := rfl
@[simp] theorem State.heard_micro : (s.heard p).micro = s.micro := rfl
@[simp] theorem State.heard_seconds : (s.heard p).seconds = s.seconds := rfl
@[simp] theorem State.heard_microNow : (s.heard p).microNow = s.microNow := rfl
@[simp] theorem State.heard_sstop : (s.heard p).sstop = s.sstop := rfl
@[simp] theorem State.heard_slots : (s.heard p).slots = s.slots := rfl
@[simp] theorem State.heard_working : (s.heard p).working = s.working := rfl
@[simp] theorem State.heard_store : (s.heard p).store = s.store := rfl
@[simp] theorem State.heard_channels : (s.heard p).channels = s.channels := rfl
@[simp] theorem State.heard_chan (c : ChannelId) : (s.heard p).chan c = s.chan c := rfl
@[simp] theorem State.heard_units : (s.heard p).units = s.units := rfl
@[simp] theorem State.heard_unit (u : UnitId) : (s.heard p).unit u = s.unit u := rfl
@[simp] theorem State.heard_finisher : (s.heard p).finisher = s.finisher := rfl
@[simp] theorem State.heard_exposurePool : (s.heard p).exposurePool = s.exposurePool := rfl
@[simp] theorem State.heard_finishPool : (s.heard p).finishPool = s.finishPool := rfl
@[simp] theorem State.heard_washQueue : (s.heard p).washQueue = s.washQueue := rfl
@[simp] theorem State.heard_dryQueue : (s.heard p).dryQueue = s.dryQueue := rfl
@[simp] theorem State.heard_belt : (s.heard p).belt = s.belt := rfl
@[simp] theorem State.heard_beltSpeed : (s.heard p).beltSpeed = s.beltSpeed := rfl
@[simp] theorem State.heard_bath : (s.heard p).bath = s.bath := rfl
@[simp] theorem State.heard_drawers : (s.heard p).drawers = s.drawers := rfl
@[simp] theorem State.heard_counters : (s.heard p).counters = s.counters := rfl
@[simp] theorem State.heard_docket (n : Nat) : (s.heard p).docket n = s.docket n := rfl
@[simp] theorem State.heard_runDocket (r : RunDocket) : (s.heard p).runDocket r = s.runDocket r := rfl
@[simp] theorem State.heard_startRefusal (cs : List ChannelId) :
    (s.heard p).startRefusal cs = s.startRefusal cs := rfl
@[simp] theorem State.heard_freeDrawer : (s.heard p).freeDrawer = s.freeDrawer := rfl
@[simp] theorem State.heard_classOf (n : Nat) : (s.heard p).classOf n = s.classOf n := rfl
@[simp] theorem State.heard_joinClass (q : List Nat) (n : Nat) : (s.heard p).joinClass q n = s.joinClass q n := rfl
@[simp] theorem State.heard_regOrderOf (n : Nat) : (s.heard p).regOrderOf n = s.regOrderOf n := rfl
@[simp] theorem State.heard_unloadOrderOf (n : Nat) : (s.heard p).unloadOrderOf n = s.unloadOrderOf n := rfl
@[simp] theorem State.heard_sampled (e : CounterEvent) : (s.heard p).sampled e = s.sampled e := rfl
@[simp] theorem State.heard_lowestFree : (s.heard p).lowestFree = s.lowestFree := rfl
@[simp] theorem State.heard_freeSlots : (s.heard p).freeSlots = s.freeSlots := rfl
@[simp] theorem State.heard_slotOf (n : Nat) : (s.heard p).slotOf n = s.slotOf n := rfl

/-! ## The operations that commute with it -/

@[simp] theorem State.heard_setChan (c : ChannelId) (x : Channel) :
    (s.heard p).setChan c x = (s.setChan c x).heard p := rfl
@[simp] theorem State.heard_setUnit (u : UnitId) (x : UnitRecord) :
    (s.heard p).setUnit u x = (s.setUnit u x).heard p := rfl
@[simp] theorem State.heard_setFinisher (x : FinisherRecord) :
    (s.heard p).setFinisher x = (s.setFinisher x).heard p := rfl
@[simp] theorem State.heard_setSlots (v : Vector (Option Docket) 48) :
    (s.heard p).setSlots v = (s.setSlots v).heard p := rfl
@[simp] theorem State.heard_setExposurePool (q : List Nat) :
    (s.heard p).setExposurePool q = (s.setExposurePool q).heard p := rfl
@[simp] theorem State.heard_setFinishPool (q : List Nat) :
    (s.heard p).setFinishPool q = (s.setFinishPool q).heard p := rfl
@[simp] theorem State.heard_setWashQueue (q : List Nat) :
    (s.heard p).setWashQueue q = (s.setWashQueue q).heard p := rfl
@[simp] theorem State.heard_setDryQueue (q : List Nat) : (s.heard p).setDryQueue q = (s.setDryQueue q).heard p := rfl
@[simp] theorem State.heard_setBelt (b : List BeltRecord) (v : Option Nat) :
    (s.heard p).setBelt b v = (s.setBelt b v).heard p := rfl
@[simp] theorem State.heard_setBath (b : Bath) : (s.heard p).setBath b = (s.setBath b).heard p := rfl
@[simp] theorem State.heard_setDrawers (v : Vector Drawer 8) :
    (s.heard p).setDrawers v = (s.setDrawers v).heard p := rfl
@[simp] theorem State.heard_setCounters (v : Vector LineCounter 4) :
    (s.heard p).setCounters v = (s.setCounters v).heard p := rfl
@[simp] theorem State.heard_setWorking (w : WorkingCopy) :
    (s.heard p).setWorking w = (s.setWorking w).heard p := rfl
@[simp] theorem State.heard_setStore (x : Store) : (s.heard p).setStore x = (s.setStore x).heard p := rfl
@[simp] theorem State.heard_updateDocket (n : Nat) (f : Docket → Docket) :
    (s.heard p).updateDocket n f = (s.updateDocket n f).heard p := by
  simp only [State.updateDocket, State.heard_slots, State.heard_setSlots]
@[simp] theorem State.heard_freeSlotOf (n : Nat) : (s.heard p).freeSlotOf n = (s.freeSlotOf n).heard p := by
  simp only [State.freeSlotOf, State.heard_slots, State.heard_setSlots]
@[simp] theorem State.heard_offer (e : CounterEvent) (a : Nat) (x : Option (Fin 16 × PlateClass))
    (u : Option (Option UnitId)) : (s.heard p).offer e a x u = (s.offer e a x u).heard p := by
  simp only [State.offer, State.heard_counters, State.heard_setCounters]
@[simp] theorem State.heard_chanToTail (c : ChannelId) (e : LastEnd) :
    (s.heard p).chanToTail c e = (s.chanToTail c e).heard p := by
  simp only [State.chanToTail, State.heard_chan, State.heard_now, State.heard_setChan]

@[simp] theorem State.heard_updateRunDocket (r : RunDocket) (f : Docket → Docket) :
    (s.heard p).updateRunDocket r f = (s.updateRunDocket r f).heard p := by
  simp only [State.updateRunDocket, State.heard_runDocket, State.heard_updateDocket]
  split <;> rfl

@[simp] theorem State.heard_offerFor (e : CounterEvent) (a n : Nat) (w : Bool) :
    (s.heard p).offerFor e a n w = (s.offerFor e a n w).heard p := by
  unfold State.offerFor
  rw [State.heard_docket]
  cases s.docket n <;> rfl

/-- Notices and the entry write different parts of a port's record. -/
@[simp] theorem State.heard_raise (q : Port) (k : NoticeKind) (n : Option Nat) :
    (s.heard p).raise q k n = (s.raise q k n).heard p := by
  unfold State.raise
  split
  · cases p <;> cases q <;> rfl
  · rfl

@[simp] theorem State.heard_evaluateAll : (s.heard p).evaluateAll = s.evaluateAll.heard p := by
  cases p <;> rfl

@[simp] theorem State.heard_joinWash (n : Nat) : (s.heard p).joinWash n = (s.joinWash n).heard p := by
  simp only [State.joinWash, State.heard_washQueue, State.heard_joinClass, State.heard_setWashQueue,
    State.heard_updateDocket, State.heard_raise]
  split <;> rfl

@[simp] theorem State.heard_enterHeld (n : Nat) (r : HoldReason) (st : HoldStage) (l : HoldLocation) :
    (s.heard p).enterHeld n r st l = (s.enterHeld n r st l).heard p := by
  simp [State.enterHeld]

@[simp] theorem State.heard_enterScrapped (n : Nat) : (s.heard p).enterScrapped n = (s.enterScrapped n).heard p := by
  simp [State.enterScrapped]

@[simp] theorem State.heard_judgeBath (b : Bath) : (s.heard p).judgeBath b = (s.judgeBath b).heard p := by
  simp only [State.judgeBath, State.heard_working, State.heard_bath, State.heard_setBath]
  by_cases hc : b.judged s.working.line = s.bath.condition
  · simp only [hc, if_true]
  · simp only [hc, if_false]
    split <;> simp

@[simp] theorem State.heard_recomputeBath (b : Bath) : (s.heard p).recomputeBath b = (s.recomputeBath b).heard p := by
  simp only [State.recomputeBath, State.heard_bath, State.heard_setBath, State.heard_judgeBath]
  split <;> rfl

@[simp] theorem State.heard_giveDrawer (d : Fin 8) (n : Nat) :
    (s.heard p).giveDrawer d n = (s.giveDrawer d n).heard p := by
  simp [State.giveDrawer]

theorem State.heard_assignUpTo (k : Nat) : State.assignUpTo k (s.heard p) = (State.assignUpTo k s).heard p := by
  induction k generalizing s with
  | zero => rfl
  | succ k ih =>
    simp only [State.assignUpTo, State.heard_freeDrawer, State.heard_dryQueue, State.heard_giveDrawer, ih]
    split <;> rfl

@[simp] theorem State.heard_assignDrawers : (s.heard p).assignDrawers = s.assignDrawers.heard p :=
  s.heard_assignUpTo p 8

@[simp] theorem State.heard_joinDry (n : Nat) : (s.heard p).joinDry n = (s.joinDry n).heard p := by
  simp [State.joinDry]

@[simp] theorem State.heard_stageReached (u : UnitId) (n : Nat) (st : Stage) :
    (s.heard p).stageReached u n st = (s.stageReached u n st).heard p := by
  cases st <;> simp [State.stageReached, State.backReached, State.mainReached]

@[simp] theorem State.heard_haltUnit (u : UnitId) (n : Nat) (st : Stage) (r : HoldReason) :
    (s.heard p).haltUnit u n st r = (s.haltUnit u n st r).heard p := by
  simp [State.haltUnit]

@[simp] theorem State.heard_finisherReached (n : Nat) (x y : Mark) (c : ChannelId) :
    (s.heard p).finisherReached n x y c = (s.finisherReached n x y c).heard p := by
  simp only [State.finisherReached, State.finishComplete, State.heard_seconds, State.heard_setFinisher,
    State.heard_updateDocket, State.heard_raise, State.heard_offerFor]
  generalize (if c = .FC then Mark.reached else x) = x'
  generalize (if c = .FA then Mark.reached else y) = y'
  split <;> rfl

@[simp] theorem State.heard_recordDose (c : ChannelId) (r : RunDocket) (x y : Nat) :
    (s.heard p).recordDose c r x y = (s.recordDose c r x y).heard p := by
  simp [State.recordDose]

@[simp] theorem State.heard_startChannel (c : ChannelId) (d : Docket) (x y : Nat) :
    (s.heard p).startChannel c d x y = (s.startChannel c d x y).heard p := by
  simp only [State.startChannel, State.heard_working, State.heard_chan, State.heard_now, State.heard_microNow,
    State.heard_setChan, State.heard_recordDose]
  split <;> rfl

@[simp] theorem State.heard_endTail (c : ChannelId) : (s.heard p).endTail c = (s.endTail c).heard p := by
  simp only [State.endTail, State.heard_chan, State.heard_recordDose, State.heard_updateRunDocket]
  split
  · split <;> rfl
  · rfl

@[simp] theorem State.heard_endTailIfZero (c : ChannelId) :
    (s.heard p).endTailIfZero c = (s.endTailIfZero c).heard p := by
  simp only [State.endTailIfZero, State.heard_chan, State.heard_endTail]
  split <;> rfl

@[simp] theorem State.heard_haltFinisher (n : Nat) (x y : Mark) (c : ChannelId) (r : AbortReason) (h : HoldReason) :
    (s.heard p).haltFinisher n x y c r h = (s.haltFinisher n x y c r h).heard p := by
  simp only [State.haltFinisher, State.heard_chan, State.heard_chanToTail, State.heard_setFinisher,
    State.heard_enterHeld, State.heard_raise, State.heard_endTailIfZero]
  generalize (if c = .FC then y else x) = o
  split <;> rfl

@[simp] theorem State.heard_reportReached (c : ChannelId) (n : Nat) :
    (s.heard p).reportReached c n = (s.reportReached c n).heard p := by
  simp only [State.reportReached, State.heard_unit, State.heard_finisher, State.heard_stageReached,
    State.heard_finisherReached]
  split
  · split <;> rfl
  · split
    · split <;> rfl
    · rfl

@[simp] theorem State.heard_reportAborted (c : ChannelId) (n : Nat) (r : AbortReason) :
    (s.heard p).reportAborted c n r = (s.reportAborted c n r).heard p := by
  simp only [State.reportAborted, State.heard_unit, State.heard_finisher, State.heard_haltUnit, State.heard_haltFinisher]
  split
  · rfl
  · split
    · split <;> rfl
    · split
      · split <;> rfl
      · rfl

@[simp] theorem State.heard_abortRun (c : ChannelId) (r : AbortReason) :
    (s.heard p).abortRun c r = (s.abortRun c r).heard p := by
  simp only [State.abortRun, State.heard_chan, State.heard_chanToTail, State.heard_reportAborted,
    State.heard_endTailIfZero]
  split <;> rfl

@[simp] theorem State.heard_abortAll (cs : List ChannelId) (r : AbortReason) :
    (s.heard p).abortAll cs r = (s.abortAll cs r).heard p := by
  unfold State.abortAll
  induction cs generalizing s with
  | nil => rfl
  | cons c cs ih =>
    rw [List.foldl_cons, State.heard_abortRun, ih]
    rfl

@[simp] theorem State.heard_abortUnit (u : UnitId) (r : AbortReason) :
    (s.heard p).abortUnit u r = (s.abortUnit u r).heard p := by
  simp only [State.abortUnit, State.heard_unit, State.heard_abortRun]
  split <;> rfl

@[simp] theorem State.heard_abortFinisher (r : AbortReason) :
    (s.heard p).abortFinisher r = (s.abortFinisher r).heard p := by
  simp only [State.abortFinisher, State.heard_finisher, State.heard_abortAll]
  split <;> rfl

end

end Sys2Proof.Machine
end

section
/-! SUPPORT. The drops of the transport permit and their flags (R108, R116, R36, R46). -/

namespace Sys2Proof.Machine

/-! ## A plate on the belt under a permit that must drop -/

/-- The permit still stands against its condition, and the newest pass of the plate of `r` on the belt is `p`. -/
structure DropsOn (s : State) (r : BeltRecord) (p : WashPass) : Prop where
  newest    : NewestPass s r.docket p
  belt      : r ∈ s.belt
  tpm       : s.tpm = true
  permitted : s.permitted = false

/-- The permit has dropped and the newest pass of docket `n` says so. -/
structure Dropped (s : State) (n : Nat) (p : WashPass) : Prop where
  newest : NewestPass s n { p with beltStopped := true }
  tpm    : s.tpm = false

theorem DropsOn.updatePermit {s : State} {r : BeltRecord} {p : WashPass} (h : DropsOn s r p) :
    Dropped s.updatePermit r.docket p :=
  ⟨State.updatePermit_flags h.newest h.belt h.tpm h.permitted, by rw [State.updatePermit_tpm, h.permitted]⟩

theorem DropsOn.keep {s t : State} {r : BeltRecord} {p : WashPass} (h : DropsOn s r p) (hp : PassesKept s t)
    (htpm : t.tpm = s.tpm) (hperm : t.permitted = s.permitted) : DropsOn t r p :=
  ⟨hp.newest h.newest, hp.belt ▸ h.belt, htpm.trans h.tpm, hperm.trans h.permitted⟩

theorem Dropped.keep {s t : State} {n : Nat} {p : WashPass} (h : Dropped s n p) (hp : PassesKept s t)
    (htpm : t.tpm = s.tpm) : Dropped t n p :=
  ⟨hp.newest h.newest, htpm.trans h.tpm⟩

theorem Dropped.exists {s : State} {n : Nat} {p : WashPass} (h : Dropped s n p) :
    ∃ e, s.tpm = false ∧ s.docket n = some e ∧ e.newest = some { p with beltStopped := true } :=
  h.newest.imp fun _ he => ⟨h.tpm, he⟩

/-! ## The drop at SSTOP and at the loss of port W -/

theorem DropsOn.stopped {s : State} {r : BeltRecord} {p : WashPass} (hn : NewestPass s r.docket p) (hr : r ∈ s.belt)
    (ht : s.tpm = true) (cs : List ChannelId) :
    DropsOn (({ s with sstop := true } : State).abortAll cs .stopped) r p := by
  have hkept := State.abortAll_passesKept ({ s with sstop := true } : State) cs .stopped
  refine ⟨hkept.newest hn, ?_, ?_, ?_⟩
  · rw [hkept.belt]; exact hr
  · simpa using ht
  · simp [State.permitted]

theorem DropsOn.told {s : State} {r : BeltRecord} {p : WashPass} (hn : NewestPass s r.docket p) (hr : r ∈ s.belt)
    (ht : s.tpm = true) (hdrop : s.working.line.transportHold = 0) : DropsOn (s.toldLost .W) r p := by
  have hkept : PassesKept s (s.toldLost .W) := .same (by simp [State.toldLost]) (by simp [State.toldLost])
  refine ⟨hkept.newest hn, ?_, ?_, ?_⟩
  · rw [hkept.belt]; exact hr
  · simpa [State.toldLost] using ht
  · rw [State.toldLost_permitted]; simp [hdrop]

/-! ## What follows a drop in a RECALL -/

/-- R182: no silence raises a dropped permit again under DROP. -/
theorem Dropped.enterLost {s : State} {n : Nat} {p : WashPass} (h : Dropped s n p)
    (hdrop : s.working.line.transportHold = 0) (q : Port) : Dropped (s.enterLost q) n p := by
  have hkept : PassesKept s (s.toldLost q) := .same (by simp [State.toldLost]) (by simp [State.toldLost])
  have htold : Dropped (s.toldLost q) n p := h.keep hkept (by simp [State.toldLost])
  cases q with
  | E => exact htold
  | A => exact htold.keep (State.abortUnit_passesKept _ _ _) (State.abortUnit_frame _ _ _).2.2.2.2.1
  | B => exact htold.keep (State.abortUnit_passesKept _ _ _) (State.abortUnit_frame _ _ _).2.2.2.2.1
  | F => exact htold.keep (State.abortFinisher_passesKept _ _) (State.abortFinisher_frame _ _).2.2.2.2.1
  | W =>
    refine ⟨State.updatePermit_keepsFlag htold.newest, ?_⟩
    show (s.toldLost .W).updatePermit.tpm = false
    rw [State.updatePermit_tpm, State.toldLost_permitted]
    simp [hdrop]

theorem Dropped.checkSilence {s : State} {n : Nat} {p : WashPass} (h : Dropped s n p)
    (hdrop : s.working.line.transportHold = 0) : Dropped s.checkSilence n p := by
  refine (State.checkSilence_keeps (P := fun t => Dropped t n p ∧ t.working.line.transportHold = 0)
    (fun t q ht => ⟨ht.1.enterLost ht.2 q, ?_⟩) ⟨h, hdrop⟩).1
  simpa using ht.2

theorem DropsOn.assignDrawers {s : State} {r : BeltRecord} {p : WashPass} (h : DropsOn s r p) :
    DropsOn s.assignDrawers r p :=
  h.keep s.assignDrawers_passesKept (by simp)
    (State.permitted_congr (by simp) ((State.assignDrawers_raisedOnly s).portState .W) (by simp))

theorem DropsOn.recomputeBath {s : State} {r : BeltRecord} {p : WashPass} (h : DropsOn s r p) (b : Bath) :
    DropsOn (s.recomputeBath b) r p :=
  h.keep (.same (by simp) (by simp)) (by simp)
    (State.permitted_congr (by simp) ((State.recomputeBath_raisedOnly s b).portState .W) (by simp))

/-- R46: a RECALL that takes TRANSPORT_FAILSAFE to DROP drops the permit, whatever else it hands on. -/
theorem DropsOn.handOnRecall {s : State} {r : BeltRecord} {p : WashPass} (h : DropsOn s r p) {old : WorkingCopy}
    (hdrop : s.working.line.transportHold = 0) (hold : old.line.transportHold ≠ 0) :
    Dropped (s.handOnRecall old) r.docket p := by
  have hchanged : s.working.line.transportHold ≠ old.line.transportHold := by rw [hdrop]; exact hold.symm
  unfold State.handOnRecall
  extract_lets now t1 t2 t3 t4
  have h1 : DropsOn t1 r p ∧ t1.working = s.working := by
    unfold t1
    split
    · exact ⟨h.assignDrawers, by simp⟩
    · exact ⟨h, rfl⟩
  have h2 : DropsOn t2 r p ∧ t2.working = s.working := by
    unfold t2
    split
    · exact ⟨h1.1.recomputeBath _, by simp [h1.2]⟩
    · exact h1
  have h3 : Dropped t3 r.docket p ∧ t3.working.line.transportHold = 0 := by
    unfold t3
    rw [if_pos hchanged]
    exact ⟨h2.1.updatePermit, by simp [h2.2, hdrop]⟩
  have h4 : Dropped t4 r.docket p := by
    unfold t4
    split
    · exact h3.1.checkSilence h3.2
    · exact h3.1
  split
  · exact h4.keep (.same (by simp) (by simp)) (by simp)
  · exact h4

/-! ## The obligation -/

theorem DropsOn.setWorking_heard {s : State} {r : BeltRecord} {p : WashPass} (hn : NewestPass s r.docket p)
    (hr : r ∈ s.belt) (ht : s.tpm = true) {q : Port} (hq : q ≠ .W) (hlost : (s.port .W).state = .lost) {w : WorkingCopy}
    (hdrop : w.line.transportHold = 0) : DropsOn ((s.heard q).setWorking w) r p := by
  have hport : (((s.heard q).setWorking w).port .W).state = .lost := by
    cases q <;> first | exact hlost | contradiction
  refine ⟨hn, hr, by simp [State.heard, hq, ht], ?_⟩
  rw [State.permitted, hport]
  simp [hdrop]

theorem Dropped.answered {s : State} {n : Nat} {p : WashPass} (h : Dropped s n p) (q : Port) (r : Request)
    (c : ResultCode) (fs : List Field) :
    Dropped (answeredWith s q r c fs) n p := h.keep (.same (by simp) (by simp)) (by simp)

theorem exec_setSetting (h : Hdr) (item channel : BitVec 8) (value : BitVec 32) (s : State) :
    exec (.setSetting h item channel value) s =
      .next (takeNamed .setSetting 0 h (setSettingReply item.toNat channel.toNat value.toNat) s) := rfl

theorem exec_recall (h : Hdr) (s : State) : exec (.recall h) s = .next (takeNamed .recall 0 h recallReply s) := rfl

/-- R180: only port E sends SET_SETTING and RECALL. -/
theorem Reaches.settings_port {h : Hdr} {s : State} (hr : Reaches .setSetting 0 h s ∨ Reaches .recall 0 h s) :
    h.port = .E := by
  obtain ⟨_, hp, _⟩ | ⟨_, hp, _⟩ := hr <;> simpa [Request.ports] using hp

/-- Settles O6. -/
theorem permitDropFlagsTheBelt : Obligations.PermitDropFlagsTheBelt := by
  unfold Obligations.PermitDropFlagsTheBelt
  intro s r d p htpm hr hd hp
  have hn : NewestPass s r.docket p := ⟨d, hd, hp⟩
  refine ⟨?stop, ?lost, ?setting, ?recalled⟩
  case stop =>
    obtain ⟨e, _, he⟩ := (DropsOn.stopped hn hr htpm (arrange (Config.turn s.now) allChannels)).updatePermit.exists
    exact ⟨_, e, rfl, he⟩
  case lost =>
    intro h hs hh hdrop
    rw [exec_portLost_eq hs hh rfl]
    generalize hv : s.pass (remainingMs h (s.working.line.silenceLimit * 1000) s.now) = v
    have hkept : PassesKept s v := by subst hv; exact .same (by simp) (by simp)
    have hv' : v.tpm = s.tpm ∧ v.working = s.working := by subst hv; simp
    have hdropped := (DropsOn.told (hkept.newest hn) (hkept.belt ▸ hr) (hv'.1.trans htpm) (hv'.2 ▸ hdrop)).updatePermit
    obtain ⟨e, _, he⟩ := hdropped.exists
    exact ⟨_, e, rfl, he⟩
  case setting =>
    intro h item channel value hreach hjob hlost hitem hvalue
    have hport := Reaches.settings_port (.inl hreach)
    rw [exec_setSetting, takeNamed_reaches hreach, hport, State.onlineEntry_heard_of_ne s (by decide)]
    have hreply : setSettingReply item.toNat channel.toNat value.toNat (s.heard .E) =
        (((s.heard .E).setLineItem .transportFailsafe 0), .ok, [fCode 15, fCode channel.toNat, .num .value 0]) := by
      rw [hitem, hvalue]
      have htaken : lineTaken s.working.line .transportFailsafe 0 = 0 := by simp [lineTaken, lineRange, clamp]
      simp [setSettingReply, lineItemOfCode, hjob, htaken]
    rw [hreply]
    have hdrops := DropsOn.setWorking_heard hn hr htpm (q := .E) (by decide) hlost
      (w := { s.working with line := s.working.line.set .transportFailsafe 0 }) rfl
    obtain ⟨e, he⟩ := (hdrops.updatePermit.answered .E .setSetting .ok
      [fCode 15, fCode channel.toNat, .num .value 0]).exists
    exact ⟨_, e, rfl, he⟩
  case recalled =>
    intro h w hreach hjob hlost himage hdrop hold
    have hport := Reaches.settings_port (.inr hreach)
    rw [exec_recall, takeNamed_reaches hreach, hport, State.onlineEntry_heard_of_ne s (by decide)]
    have hreply : recallReply (s.heard .E) =
        (((s.heard .E).setWorking w).handOnRecall s.working, .ok, [fCode 1]) := by
      simp [recallReply, hjob, himage]
    rw [hreply]
    have hdrops := DropsOn.setWorking_heard hn hr htpm (q := .E) (by decide) hlost hdrop
    obtain ⟨e, he⟩ := ((hdrops.handOnRecall hdrop hold).answered .E .recall .ok [fCode 1]).exists
    exact ⟨_, e, rfl, he⟩

end Sys2Proof.Machine
end

section
/-! SUPPORT. The shop stop: what the abort of every channel leaves (R70, R91, R162). -/

namespace Sys2Proof.Machine

/-! ## The channels -/

/-- R66: between `s` and `t` channel `d` was left as it is, or its run was aborted with the reason `r`. -/
def KeptOrAborted (r : AbortReason) (s t : State) (d : ChannelId) : Prop :=
  t.chan d = s.chan d ∨ ((s.chan d).state = .exposing ∧ t.chan d = (s.chan d).abortedAt r s.now)

theorem sister_ne (c : ChannelId) : sister c ≠ c := by cases c <;> decide

section
variable {r : AbortReason}

theorem KeptOrAborted.same {s t : State} (h : t.channels = s.channels) (d : ChannelId) : KeptOrAborted r s t d :=
  .inl (by rw [State.chan, State.chan, h])

theorem KeptOrAborted.trans {s t u : State} {d : ChannelId} (h : KeptOrAborted r s t d) (g : KeptOrAborted r t u d)
    (hnow : t.now = s.now) : KeptOrAborted r s u d := by
  obtain h | ⟨hs, h⟩ := h
  · rw [KeptOrAborted, h, hnow] at g
    exact g
  · obtain g | ⟨gs, _⟩ := g
    · exact .inr ⟨hs, g.trans h⟩
    · rw [h] at gs
      exact absurd gs (Channel.abortedAt_dark _ _ _).2

/-- R66, R68: the tail of an aborted run, over at once where TAIL is 0. -/
theorem State.endTailIfZero_chan_aborted {t : State} {d : ChannelId} {c : Channel} {now : Nat} (hc : c.state = .exposing)
    (ht : t.chan d = c.toTail (.aborted r) now) : (t.endTailIfZero d).chan d = c.abortedAt r now := by
  have hset : (c.toTail (.aborted r) now).settings = c.settings := rfl
  have hstate : (c.toTail (.aborted r) now).state = .tail := rfl
  rw [State.endTailIfZero, ht, hset, hstate]
  by_cases h0 : c.settings.tail = 0
  · rw [if_pos ⟨rfl, h0⟩, State.chan_of_set (t.endTail_channels d), if_pos rfl, ht, Channel.toTail_toIdle hc r h0]
  · rw [if_neg fun g => h0 g.2, ht, Channel.toTail_aborted hc r h0]

theorem State.haltFinisher_chan (s : State) (n : Nat) (x y : Mark) (c : ChannelId) (h : HoldReason) (d : ChannelId) :
    (d ≠ sister c → (s.haltFinisher n x y c r h).chan d = s.chan d) ∧
    KeptOrAborted r s (s.haltFinisher n x y c r h) d := by
  have hhalt (t : State) (e : ChannelId) : (t.finisherHalt n x y h).chan e = t.chan e := by
    simp [State.finisherHalt, State.chan]
  unfold State.haltFinisher
  dsimp only
  generalize (if c = .FC then y else x) = o
  split
  · rename_i hsister
    refine ⟨fun hd => ?_, ?_⟩
    · rw [State.endTailIfZero_chan_ne _ hd]
      exact (hhalt _ d).trans ((s.chanToTail_chan _ d _).trans (if_neg hd))
    · by_cases hd : d = sister c
      · subst hd
        refine .inr ⟨hsister.2, State.endTailIfZero_chan_aborted hsister.2 ?_⟩
        exact (hhalt _ _).trans ((s.chanToTail_chan _ _ _).trans (if_pos rfl))
      · refine .inl ?_
        rw [State.endTailIfZero_chan_ne _ hd]
        exact (hhalt _ d).trans ((s.chanToTail_chan _ d _).trans (if_neg hd))
  · exact ⟨fun _ => hhalt s d, .inl (hhalt s d)⟩

theorem State.reportAborted_chan (s : State) (c : ChannelId) (n : Nat) (d : ChannelId) :
    (d ≠ sister c → (s.reportAborted c n r).chan d = s.chan d) ∧ KeptOrAborted r s (s.reportAborted c n r) d := by
  have hself : (d ≠ sister c → s.chan d = s.chan d) ∧ KeptOrAborted r s s d := ⟨fun _ => rfl, .inl rfl⟩
  unfold State.reportAborted
  split
  · exact hself
  · split
    · split
      · refine ⟨fun _ => ?_, .same ?_ d⟩ <;> simp [State.haltUnit, State.chan]
      · exact hself
    · split
      · split
        · exact s.haltFinisher_chan _ _ _ _ _ d
        · exact hself
      · exact hself

/-- R66: an abort touches the record of no channel but by the end of its run. -/
theorem State.abortRun_chan (s : State) (c d : ChannelId) : KeptOrAborted r s (s.abortRun c r) d := by
  unfold State.abortRun
  split
  · rename_i hs
    have hreport := State.reportAborted_chan (r := r) (s.chanToTail c (.aborted r)) c (s.chan c).runNumber
    by_cases hd : d = c
    · subst hd
      refine .inr ⟨hs, State.endTailIfZero_chan_aborted hs ?_⟩
      rw [(hreport d).1 (sister_ne d).symm, State.chanToTail_chan, if_pos rfl]
    · have hkept := (hreport d).2
      rw [KeptOrAborted, State.chanToTail_chan, if_neg hd] at hkept
      rw [KeptOrAborted, State.endTailIfZero_chan_ne _ hd]
      exact hkept
  · exact .inl rfl

theorem State.abortAll_chan (s : State) (cs : List ChannelId) (d : ChannelId) : KeptOrAborted r s (s.abortAll cs r) d := by
  unfold State.abortAll
  induction cs generalizing s with
  | nil => exact .inl rfl
  | cons c cs ih => exact (s.abortRun_chan c d).trans (ih _) (by simp)

end

/-- R70: after the abort of every channel none is EXPOSING, and those that were have the record of an abort. -/
theorem State.abortAll_stopped (s : State) {cs : List ChannelId} (hall : ∀ c, c ∈ cs) (r : AbortReason) (c : ChannelId) :
    ((s.abortAll cs r).chan c).state ≠ .exposing ∧
    ((s.chan c).state ≠ .exposing → (s.abortAll cs r).chan c = s.chan c) ∧
    ((s.chan c).state = .exposing → (s.abortAll cs r).chan c = (s.chan c).abortedAt r s.now) := by
  have hdark := s.abortAll_dark cs r c (hall c)
  refine ⟨hdark, fun hs => ?_, fun hs => ?_⟩
  · exact (State.abortAll_chan s cs c).resolve_right fun g => hs g.1
  · obtain h | h := State.abortAll_chan (r := r) s cs c
    · rw [h] at hdark
      exact absurd hs hdark
    · exact h.2

theorem mem_arrange_allChannels (k : Nat) (c : ChannelId) : c ∈ arrange k allChannels := by
  rw [mem_arrange]
  cases c <;> decide

/-! ## The owners -/

/-- The owner that unit `u` with the record `x` is, when it runs a stage. -/
def unitOwner (u : UnitId) : UnitRecord → List Owner
  | .running _ st => [.unit u st]
  | _ => []

/-- The finisher as an owner, when it runs. -/
def finisherOwner : FinisherRecord → List Owner
  | .running _ _ _ => [.finisher]
  | _ => []

theorem State.runningOwners_eq (s : State) :
    s.runningOwners = unitOwner .A (s.unit .A) ++ unitOwner .B (s.unit .B) ++ finisherOwner s.finisher := by
  refine congr (congrArg (fun a b : List Owner => a ++ b) ?_) ?_
  · rw [List.filterMap_cons, List.filterMap_cons, List.filterMap_nil]
    cases s.unit .A <;> cases s.unit .B <;> rfl
  · cases s.finisher <;> rfl

/-- The unit records after one of them was written. -/
theorem State.unit_of_units_set {s t : State} {u : UnitId} {x : UnitRecord} (h : t.units = s.units.set u x) (v : UnitId) :
    t.unit v = if v = u then x else s.unit v := by
  rw [State.unit, h, PerUnit.get_set]
  rfl

theorem finisherHalted_owners (s : State) (n : Nat) (c a : Mark) (r : AbortReason) (reason : HoldReason) :
    (finisherHalted s n c a r reason).units = s.units ∧
    (finisherHalted s n c a r reason).finisher = .halted n c a reason := by
  unfold finisherHalted
  dsimp only
  constructor <;> (repeat' split) <;> simp

/-- R91, R162: the run an EXPOSING channel belongs to, aborted as its owner's run. -/
theorem OwnersAgree.abortRun_owner {s : State} (h : OwnersAgree s) {c : ChannelId} (hs : (s.chan c).state = .exposing) :
    ∃ o, s.abortRun c .stopped = ownerStopped s o ∧
      s.runningOwners.Perm (o :: (s.abortRun c .stopped).runningOwners) := by
  simp only [State.runningOwners_eq]
  obtain ⟨u, n, st, rfl, hrun⟩ | ⟨n, x, y, hrun, hc⟩ := h.owner_of_exposing hs
  · have heq := hrun.abortRun_eq (r := .stopped) rfl
    obtain ⟨hu, hf, _⟩ := unitHalted_owners s u n st .stopped .stopped
    have hunit := hrun.unit
    refine ⟨.unit u st, by rw [heq, ownerStopped, hunit], ?_⟩
    rw [heq, State.unit_of_units_set hu, State.unit_of_units_set hu, hf]
    cases u with
    | A => simp [hunit, unitOwner]
    | B =>
      simp only [hunit, unitOwner, reduceCtorEq, if_false, if_true, List.append_nil, List.append_assoc, List.singleton_append]
      exact List.perm_middle
  · have heq := hrun.abortRun_eq hc (r := .stopped) rfl
    obtain ⟨hu, hf⟩ := finisherHalted_owners s n x y .stopped .stopped
    refine ⟨.finisher, by rw [heq, ownerStopped, hrun.finisher], ?_⟩
    rw [heq, hf, hrun.finisher]
    simp only [State.unit, hu, finisherOwner, List.append_nil]
    exact List.perm_append_singleton _ _

/-- R91, R162: the aborts of a list of channels are the aborts of the owners found running, in their order. -/
theorem OwnersAgree.abortAll_owners {s : State} (h : OwnersAgree s) (cs : List ChannelId) :
    ∃ l : List Owner, s.abortAll cs .stopped = l.foldl ownerStopped s ∧
      s.runningOwners.Perm (l ++ (s.abortAll cs .stopped).runningOwners) := by
  induction cs generalizing s with
  | nil => exact ⟨[], rfl, .refl _⟩
  | cons c cs ih =>
    by_cases hs : (s.chan c).state = .exposing
    · obtain ⟨o, ho, hperm⟩ := h.abortRun_owner hs
      obtain ⟨l, hl, hrest⟩ := ih (h.abortRun c (r := .stopped) rfl)
      refine ⟨o :: l, ?_, hperm.trans (hrest.cons o)⟩
      rw [List.foldl_cons, ← ho]
      exact hl
    · have hskip : s.abortAll (c :: cs) .stopped = s.abortAll cs .stopped := by
        rw [State.abortAll, List.foldl_cons, State.abortRun_of_not_exposing hs]
        rfl
      rw [hskip]
      exact ih h

/-- R84: with no channel EXPOSING no owner runs. -/
theorem OwnersAgree.no_owner_of_dark {s : State} (h : OwnersAgree s) (hdark : ∀ c, (s.chan c).state ≠ .exposing) :
    (∀ u n st, s.unit u ≠ .running n st) ∧ (∀ n c a, s.finisher ≠ .running n c a) := by
  obtain ⟨hunits, hfin, _⟩ := h
  refine ⟨fun u n st hu => hdark _ (hunits u n st hu).channel, fun n c a hf => ?_⟩
  have hrun := hfin n c a hf
  obtain hc | ha := hrun.someOpen
  · exact hdark _ (hrun.uvc hc).1
  · exact hdark _ (hrun.uva ha).1

theorem State.runningOwners_nil {s : State} (hu : ∀ u n st, s.unit u ≠ .running n st)
    (hf : ∀ n c a, s.finisher ≠ .running n c a) : s.runningOwners = [] := by
  have hunits (u : UnitId) : unitOwner u (s.unit u) = [] := by
    unfold unitOwner
    split
    · rename_i n st h; exact absurd h (hu u n st)
    · rfl
  have hfin : finisherOwner s.finisher = [] := by
    unfold finisherOwner
    split
    · rename_i n c a h; exact absurd h (hf n c a)
    · rfl
  rw [State.runningOwners_eq, hunits, hunits, hfin]
  rfl

/-! ## What each halt leaves at its unit -/

/-- R91: between `s` and `t` unit `u` and its record of EXPOSURE_HALTED were left as they are, or the unit halted with
STOPPED and told its port. -/
def KeptOrHalted (s t : State) (u : UnitId) : Prop :=
  (t.unit u = s.unit u ∧ (t.port (unitPort u)).notices[NoticeKind.exposureHalted.idx] =
    (s.port (unitPort u)).notices[NoticeKind.exposureHalted.idx]) ∨
  (∃ n st, s.unit u = .running n st ∧ t.unit u = .halted n st .stopped ∧
    (t.port (unitPort u)).notices[NoticeKind.exposureHalted.idx] =
      some (raisedNotice (s.port (unitPort u)).notices[NoticeKind.exposureHalted.idx] (some n) s.seconds))

theorem KeptOrHalted.refl (s : State) (u : UnitId) : KeptOrHalted s s u := .inl ⟨rfl, rfl⟩

theorem KeptOrHalted.trans {s t v : State} {u : UnitId} (h : KeptOrHalted s t u) (g : KeptOrHalted t v u)
    (hnow : t.now = s.now) : KeptOrHalted s v u := by
  have hsec : t.seconds = s.seconds := by rw [State.seconds, State.seconds, hnow]
  obtain ⟨hu, hp⟩ | ⟨n, st, hs, hu, hp⟩ := h
  · rw [KeptOrHalted, hu, hp, hsec] at g
    exact g
  · obtain ⟨gu, gp⟩ | ⟨m, st', gs, _⟩ := g
    · exact .inr ⟨n, st, hs, gu.trans hu, gp.trans hp⟩
    · rw [hu] at gs
      cases gs

/-- R166: a raise that is not of EXPOSURE_HALTED at the unit's port leaves that record. -/
theorem State.raise_exposureHalted (s : State) (u : UnitId) {p : Port} {k : NoticeKind} (n : Option Nat)
    (hr : routed p k = true) (h : ¬ (unitPort u = p ∧ NoticeKind.exposureHalted = k)) :
    ((s.raise p k n).port (unitPort u)).notices[NoticeKind.exposureHalted.idx] =
      (s.port (unitPort u)).notices[NoticeKind.exposureHalted.idx] := by
  rw [State.raise_record n hr, if_neg h]

/-- Nothing of a halt but its two raises writes to the ports. -/
theorem unitHalted_ports (s : State) (u : UnitId) (n : Nat) (st : Stage) (r : AbortReason) (reason : HoldReason) :
    (unitHalted s u n st r reason).ports =
      ((s.raise .E .plateHeld (some n)).raise (unitPort u) .exposureHalted (some n)).ports := by
  unfold unitHalted
  rw [(partialAtOnce_frame _ _ _).2.2.2.2.2.1]
  refine State.raise_ports_congr ?_ (by simp) (by simp) _ _ _
  rw [(State.offerFor_frame _ _ _ _ _).2.2.2.2.2.1]
  exact State.raise_ports_congr (by simp) (by simp) (by simp) _ _ _

theorem finisherHalted_ports (s : State) (n : Nat) (c a : Mark) (r : AbortReason) (reason : HoldReason) :
    (finisherHalted s n c a r reason).ports =
      ((s.raise .E .plateHeld (some n)).raise .F .exposureHalted (some n)).ports := by
  have hpartial (t : State) (x : Mark) (ch : ChannelId) (y : Channel) :
      (if x = .openMark then partialAtOnce t ch y else t).ports = t.ports := by
    split <;> simp
  have hset (t : State) (x : Mark) (ch : ChannelId) (y : Channel) :
      (if x = .openMark then t.setChan ch y else t).ports = t.ports ∧
      (if x = .openMark then t.setChan ch y else t).now = t.now ∧
      (if x = .openMark then t.setChan ch y else t).working = t.working := by
    split <;> simp
  unfold finisherHalted
  dsimp only
  rw [hpartial, hpartial]
  refine State.raise_ports_congr ?_ (by simp [hset]) (by simp [hset]) _ _ _
  rw [(State.offerFor_frame _ _ _ _ _).2.2.2.2.2.1]
  exact State.raise_ports_congr (by simp [hset]) (by simp [hset]) (by simp [hset]) _ _ _

theorem State.ports_port {s t : State} (h : t.ports = s.ports) (p : Port) : t.port p = s.port p := by
  rw [State.port, State.port, h]

theorem unitHalted_keptOrHalted {s : State} {v : UnitId} {n : Nat} {st : Stage} (hrun : s.unit v = .running n st)
    (r : AbortReason) (u : UnitId) : KeptOrHalted s (unitHalted s v n st r .stopped) u := by
  have hunit := State.unit_of_units_set (unitHalted_owners s v n st r .stopped).1 u
  have hport := State.ports_port (unitHalted_ports s v n st r .stopped) (unitPort u)
  have hplate : ((s.raise .E .plateHeld (some n)).port (unitPort u)).notices[NoticeKind.exposureHalted.idx] =
      (s.port (unitPort u)).notices[NoticeKind.exposureHalted.idx] := s.raise_exposureHalted u _ rfl (by simp)
  by_cases huv : u = v
  · subst huv
    refine .inr ⟨n, st, hrun, by rw [hunit, if_pos rfl], ?_⟩
    rw [hport, State.raise_record _ (by cases u <;> rfl), if_pos ⟨rfl, rfl⟩, hplate]
    simp [State.seconds]
  · refine .inl ⟨by rw [hunit, if_neg huv], ?_⟩
    rw [hport, State.raise_exposureHalted _ u _ (by cases v <;> rfl), hplate]
    cases u <;> cases v <;> simp_all [unitPort]

theorem finisherHalted_keptOrHalted (s : State) (n : Nat) (c a : Mark) (r : AbortReason) (reason : HoldReason) (u : UnitId) :
    KeptOrHalted s (finisherHalted s n c a r reason) u := by
  refine .inl ⟨by rw [State.unit, (finisherHalted_owners s n c a r reason).1]; rfl, ?_⟩
  rw [State.ports_port (finisherHalted_ports s n c a r reason), State.raise_exposureHalted _ u _ rfl (by cases u <;> simp [unitPort]),
    State.raise_exposureHalted _ u _ rfl (by simp)]

theorem OwnersAgree.abortAll_keptOrHalted {s : State} (h : OwnersAgree s) (cs : List ChannelId) (u : UnitId) :
    KeptOrHalted s (s.abortAll cs .stopped) u := by
  induction cs generalizing s with
  | nil => exact .refl s u
  | cons c cs ih =>
    have hrest := ih (h.abortRun c (r := .stopped) rfl)
    refine KeptOrHalted.trans ?_ hrest (by simp)
    by_cases hs : (s.chan c).state = .exposing
    · obtain ⟨v, n, st, rfl, hrun⟩ | ⟨n, x, y, hrun, hc⟩ := h.owner_of_exposing hs
      · rw [hrun.abortRun_eq (r := .stopped) rfl]
        exact unitHalted_keptOrHalted hrun.unit _ u
      · rw [hrun.abortRun_eq hc (r := .stopped) rfl]
        exact finisherHalted_keptOrHalted s n x y _ _ u
    · rw [State.abortRun_of_not_exposing hs]
      exact .refl s u

/-- R162: what the aborts leave of the finisher. -/
theorem OwnersAgree.abortAll_finisher {s : State} (h : OwnersAgree s) (cs : List ChannelId) :
    (s.abortAll cs .stopped).finisher = s.finisher ∨
    ∃ n c a, s.finisher = .running n c a ∧ (s.abortAll cs .stopped).finisher = .halted n c a .stopped := by
  induction cs generalizing s with
  | nil => exact .inl rfl
  | cons c cs ih =>
    have hrest := ih (h.abortRun c (r := .stopped) rfl)
    rw [State.abortAll, List.foldl_cons]
    by_cases hs : (s.chan c).state = .exposing
    · obtain ⟨v, n, st, rfl, hrun⟩ | ⟨n, x, y, hrun, hc⟩ := h.owner_of_exposing hs
      · rw [hrun.abortRun_eq (r := .stopped) rfl] at hrest ⊢
        rw [(unitHalted_owners s v n st .stopped .stopped).2.1] at hrest
        exact hrest
      · rw [hrun.abortRun_eq hc (r := .stopped) rfl] at hrest ⊢
        rw [(finisherHalted_owners s n x y .stopped .stopped).2] at hrest
        obtain hrest | ⟨_, _, _, hrest, _⟩ := hrest
        · exact .inr ⟨n, x, y, hrun.finisher, hrest⟩
        · cases hrest
    · rw [State.abortRun_of_not_exposing hs] at hrest ⊢
      exact hrest

/-! ## The obligation -/

theorem exec_sstopAsserted (s : State) : exec .sstopAsserted s =
    .next (({ s with sstop := true } : State).abortAll (arrange (Config.turn s.now) allChannels) .stopped).updatePermit :=
  rfl

theorem exec_sstopReleased (s : State) :
    exec .sstopReleased s = .next ({ s with sstop := false } : State).updatePermit := rfl

/-- R116: where the permit stands only with its condition, it follows the condition and no plate is flagged. -/
theorem State.updatePermit_of_permitted {s : State} (h : s.tpm = true → s.permitted = true) :
    s.updatePermit = s.setTpm s.permitted := by
  unfold State.updatePermit
  split
  · rename_i hp; rw [hp]
  · rename_i hp
    rw [if_neg fun ht => hp (h ht), Bool.eq_false_iff.mpr hp]

/-- Settles O5. -/
theorem shopStopStopsTheLine : Obligations.ShopStopStopsTheLine := by
  unfold Obligations.ShopStopStopsTheLine
  refine ⟨fun s hlamps => ?_, fun s howners => ?_, fun s htransport => ?_⟩
  · obtain ⟨t, ht⟩ : ∃ t, t = ({ s with sstop := true } : State).abortAll (arrange (Config.turn s.now) allChannels)
        .stopped := ⟨_, rfl⟩
    have hframe : t = { s with
        sstop := true, ports := t.ports, slots := t.slots, channels := t.channels, units := t.units,
        finisher := t.finisher, counters := t.counters } := by subst ht; ext <;> simp
    have hstopped := State.abortAll_stopped ({ s with sstop := true } : State)
      (mem_arrange_allChannels (Config.turn s.now)) .stopped
    rw [← ht] at hstopped
    have hchan (c : ChannelId) : t.updatePermit.chan c = t.chan c := by simp [State.chan]
    have hoff : t.permitted = false := by rw [State.permitted, hframe]; rfl
    have htpm : t.updatePermit.tpm = false := by rw [State.updatePermit_tpm, hoff]
    have hsstop : t.updatePermit.sstop = true := by rw [(State.updatePermit_frame t).2.2.1, hframe]
    refine ⟨t.updatePermit, by rw [exec_sstopAsserted, ht], hsstop, htpm, fun c => ?_, fun c hs => ?_, fun c hs => ?_, ?_⟩
    · rw [hchan]
      obtain ⟨hdark, hkept, haborted⟩ := hstopped c
      refine ⟨?_, hdark⟩
      by_cases hs : (s.chan c).state = .exposing
      · rw [haborted hs]; rfl
      · rw [hkept hs]
        exact Bool.eq_false_iff.mpr fun hp => hs ((hlamps c).mp hp)
    · rw [hchan]; exact (hstopped c).2.1 hs
    · rw [hchan]; exact (hstopped c).2.2 hs
    · subst ht
      ext <;> simp [htpm]
  · obtain ⟨t, ht⟩ : ∃ t, t = ({ s with sstop := true } : State).abortAll (arrange (Config.turn s.now) allChannels)
        .stopped := ⟨_, rfl⟩
    have howners' : OwnersAgree ({ s with sstop := true } : State) := howners.same rfl rfl rfl
    obtain ⟨l, hl, hperm⟩ := howners'.abortAll_owners (arrange (Config.turn s.now) allChannels)
    rw [← ht] at hl hperm
    have hdark (c : ChannelId) : (t.chan c).state ≠ .exposing := by
      rw [ht]; exact State.abortAll_dark _ _ _ _ (mem_arrange_allChannels _ c)
    have hagree : OwnersAgree t := by rw [ht]; exact howners'.abortAll _ (r := .stopped) rfl
    obtain ⟨hnoUnit, hnoFinisher⟩ := hagree.no_owner_of_dark hdark
    have hunits (u : UnitId) : KeptOrHalted s t u := by rw [ht]; exact howners'.abortAll_keptOrHalted _ u
    have hunit (u : UnitId) : t.updatePermit.unit u = t.unit u := by simp [State.unit]
    refine ⟨t.updatePermit, l, by rw [exec_sstopAsserted, ht], ?_, by rw [hl], fun u => ?_, ?_, fun u n st hrun => ?_⟩
    · rw [State.runningOwners_nil hnoUnit hnoFinisher, List.append_nil] at hperm
      exact hperm.symm
    · rw [hunit]
      obtain ⟨hu, _⟩ | ⟨n, st, hs, hu, _⟩ := hunits u
      · split
        · rename_i n st hs
          exact absurd (hu.trans hs) (hnoUnit u n st)
        · exact hu
      · rw [hs, hu]
    · have hkept : t.updatePermit.finisher = t.finisher := by simp
      have hfin := howners'.abortAll_finisher (arrange (Config.turn s.now) allChannels)
      rw [← ht] at hfin
      rw [hkept]
      obtain hsame | ⟨n, c, a, hs, hf⟩ := hfin
      · split
        · rename_i n c a hs
          exact absurd (hsame.trans hs) (hnoFinisher n c a)
        · exact hsame
      · rw [hf, show s.finisher = _ from hs]
    · obtain ⟨hu, _⟩ | ⟨m, st', hs, _, hp⟩ := hunits u
      · exact absurd (hu.trans hrun) (hnoUnit u n st)
      · rw [hrun] at hs
        cases hs
        rw [State.ports_port (State.updatePermit_frame t).2.2.2.2.1, hp]
        rfl
  · rw [exec_sstopReleased, State.updatePermit_of_permitted fun h => ?_]
    · rfl
    · have hs : s.permitted = true := htransport.symm.trans h
      rw [State.permitted, Bool.and_eq_true] at hs
      exact hs.2

end Sys2Proof.Machine
end

section
/-! SUPPORT. The checks of R180 before the owning rule, and the requests that an owning rule refuses. -/

namespace Sys2Proof.Machine

/-! ## A command and the request it is -/

@[simp] theorem length_bytesBE (k v : Nat) : (bytesBE k v).length = k := by
  induction k with
  | zero => rfl
  | succ k ih => rw [bytesBE, List.length_cons, ih]

/-- R180: what the machine takes of a request command is its row, its port and its LEN. -/
theorem takenOf_of_fieldsOf {c : Instr} {r : Request} {p : Port} {fs : List Byte} (h : fieldsOf c = some (r, p, fs))
    (s : State) : ∃ x, takenOf s c = some x ∧ x.request = r ∧ x.hdr.port = p ∧ lenOf c = some x.hdr.len ∧
      x.request.fieldBytes x.nameCount = fs.length := by
  cases c <;> cases h <;> refine ⟨_, rfl, rfl, rfl, rfl, ?_⟩ <;> simp [Request.fieldBytes]; omega

theorem State.onlineEntry_answer {s : State} (h : TransportAgrees s) (p : Port) (r : Request) (c : ResultCode)
    (fs : List Field) : (s.onlineEntry p).answer p r.kind c fs = replied s p r c fs := by
  rw [← answeredWith_onlineEntry h, State.answer, answeredWith, answerKind_kind]

section
variable {c : Instr} {s t : State} {r : Request} {k : Nat} {h : Hdr} {owner : State → Reply} {code : ResultCode}
  {fs : List Field}

/-- R180: a command whose owning rule gives, at the port that was heard, the state `t` at that port. -/
theorem exec_answers (hx : takenOf s c = some ⟨r, k, h, owner⟩) (hr : Reaches r k h s) (ht : TransportAgrees s)
    (ho : owner (s.heard h.port) = (t.heard h.port, code, fs)) : exec c s = .next (replied t h.port r code fs) := by
  rw [exec_takenOf hx, takeNamed_heard hr ht ho]

/-- R180: a command that its owning rule refuses. -/
theorem exec_refused (hx : takenOf s c = some ⟨r, k, h, owner⟩) (hr : Reaches r k h s) (ht : TransportAgrees s)
    (ho : owner (s.heard h.port) = refuse (s.heard h.port) code) : exec c s = .next (replied s h.port r code []) :=
  exec_answers hx hr ht ho

end

/-! ## Refusals for a number that no live docket carries (R1) -/

section
variable {s : State} {n : Nat} (h : s.docket n = none)
include h

theorem cancelReply_unknown : cancelReply n s = refuse s .unknown := by simp [cancelReply, h]

theorem releaseReply_unknown {form : Nat} (hf : form = 0 ∨ form = 1) : releaseReply n form s = refuse s .unknown := by
  rw [releaseReply, if_neg (by omega), h]

theorem retireReply_unknown : retireReply n s = refuse s .unknown := by simp [retireReply, h]

theorem exitReply_unknown : exitReply n s = refuse s .unknown := by simp [exitReply, h]

theorem startStageReply_unknown (st : Stage) (u : UnitId) : startStageReply st n u s = refuse s .unknown := by
  simp [startStageReply, h]

theorem unitStopReply_unknown (u : UnitId) : unitStopReply n u s = refuse s .unknown := by simp [unitStopReply, h]

theorem unitResumeReply_unknown (u : UnitId) : unitResumeReply n u s = refuse s .unknown := by simp [unitResumeReply, h]

theorem unitReturnReply_unknown (u : UnitId) : unitReturnReply n u s = refuse s .unknown := by simp [unitReturnReply, h]

theorem claimReply_unknown {u : UnitId} (hu : s.unit u = .vacant) : claimReply n u s = refuse s .unknown := by
  simp [claimReply, h, hu]

theorem claimFinishReply_unknown (hf : s.finisher = .vacant) : claimFinishReply n s = refuse s .unknown := by
  simp [claimFinishReply, h, hf]

theorem startFinishReply_unknown : startFinishReply n s = refuse s .unknown := by simp [startFinishReply, h]

theorem finisherStopReply_unknown : finisherStopReply n s = refuse s .unknown := by simp [finisherStopReply, h]

theorem finisherResumeReply_unknown : finisherResumeReply n s = refuse s .unknown := by simp [finisherResumeReply, h]

theorem finisherReturnReply_unknown : finisherReturnReply n s = refuse s .unknown := by simp [finisherReturnReply, h]

theorem drawerLoadedReply_unknown {d : Nat} (hd : 1 ≤ d ∧ d ≤ 8) : drawerLoadedReply d n s = refuse s .unknown := by
  simp [drawerLoadedReply, drawerOfCode, hd, h]

end

/-- R75: a port that may send a unit's request and is not the finisher's has a unit. -/
theorem onUnit_of_port {p : Port} (hp : p = .A ∨ p = .B) (owner : UnitId → State → Reply) (s : State) :
    ∃ u, portUnit p = some u ∧ onUnit p owner s = owner u s := by
  obtain rfl | rfl := hp
  · exact ⟨.A, rfl, rfl⟩
  · exact ⟨.B, rfl, rfl⟩

/-- Settles O19. -/
theorem checksBeforeTheOwningRule : Obligations.ChecksBeforeTheOwningRule := by
  unfold Obligations.ChecksBeforeTheOwningRule
  refine ⟨fun c r p fs len s ht hf hl ha => ?checks, fun p kind s ht ha hk => ?unknownKind,
    fun h n code r cmd s ht hr hn hc => ?unknown⟩
  case checks =>
    obtain ⟨x, hx, rfl, rfl, hlen, hbytes⟩ := takenOf_of_fieldsOf hf s
    rw [exec_takenOf hx]
    obtain rfl := Option.some.inj (hlen.symm.trans hl)
    refine ⟨fun hp => ?_, fun hp hne => ?_⟩
    · rw [takeNamed_notPermitted ha hp, State.onlineEntry_answer ht]
    · rw [takeNamed_range ha hp (hbytes ▸ hne), State.onlineEntry_answer ht]
  case unknownKind =>
    show execUnknownRequest p kind s = _
    rw [execUnknownRequest, if_neg (by simp [hk]), if_neg (by simp [ha]), State.onlineEntry_eq ht]
    simp [State.answer, State.setPort, State.port, PerPort.set_set, answerKind]
  case unknown =>
    have hn' : (s.heard h.port).docket n.toNat = none := hn
    have hunit (owner : Nat → UnitId → State → Reply) {p : Port} (hp : p = .A ∨ p = .B)
        (ho : ∀ u, owner n.toNat u (s.heard p) = refuse (s.heard p) .unknown) :
        onUnit p (owner n.toNat) (s.heard p) = refuse (s.heard p) .unknown := by
      obtain ⟨u, _, hu⟩ := onUnit_of_port hp (owner n.toNat) (s.heard p)
      exact hu.trans (ho u)
    simp only [List.mem_cons, Prod.mk.injEq, List.not_mem_nil, or_false] at hc
    rcases hc with hc | ⟨hp, hc⟩ | ⟨hp, hc⟩ | ⟨rfl, rfl, hv⟩ | ⟨rfl, rfl, hv⟩ | ⟨rfl, rfl, hd⟩
    · rcases hc with ⟨rfl, rfl⟩ | ⟨rfl, rfl⟩ | ⟨rfl, rfl⟩ | ⟨rfl, rfl⟩ | ⟨rfl, rfl⟩ | ⟨rfl, rfl⟩
      · exact exec_refused rfl hr ht (cancelReply_unknown hn')
      · exact exec_refused rfl hr ht (releaseReply_unknown hn' (.inl rfl))
      · exact exec_refused rfl hr ht (releaseReply_unknown hn' (.inr rfl))
      · exact exec_refused rfl hr ht (retireReply_unknown hn')
      · exact exec_refused rfl hr ht (exitReply_unknown hn')
      · exact exec_refused rfl hr ht (startFinishReply_unknown hn')
    · have hport : h.port = .A ∨ h.port = .B := by
        rcases hc with ⟨rfl, rfl⟩ | ⟨rfl, rfl⟩ | ⟨rfl, rfl⟩ | ⟨rfl, rfl⟩ | ⟨rfl, rfl⟩ <;>
          simpa [Request.ports, hp] using hr.2.1
      have hholder (owner : UnitId → State → Reply) (finisher : State → Reply) :
          onHolder h.port owner finisher (s.heard h.port) = onUnit h.port owner (s.heard h.port) := if_neg hp
      rcases hc with ⟨rfl, rfl⟩ | ⟨rfl, rfl⟩ | ⟨rfl, rfl⟩ | ⟨rfl, rfl⟩ | ⟨rfl, rfl⟩
      · exact exec_refused rfl hr ht (hunit _ hport (startStageReply_unknown hn' .back))
      · exact exec_refused rfl hr ht (hunit _ hport (startStageReply_unknown hn' .main))
      · exact exec_refused rfl hr ht ((hholder _ _).trans (hunit _ hport (unitStopReply_unknown hn')))
      · exact exec_refused rfl hr ht ((hholder _ _).trans (hunit _ hport (unitResumeReply_unknown hn')))
      · exact exec_refused rfl hr ht ((hholder _ _).trans (hunit _ hport (unitReturnReply_unknown hn')))
    · obtain ⟨p, len⟩ := h
      obtain rfl : p = .F := hp
      rcases hc with ⟨rfl, rfl⟩ | ⟨rfl, rfl⟩ | ⟨rfl, rfl⟩
      · exact exec_refused rfl hr ht (finisherStopReply_unknown hn')
      · exact exec_refused rfl hr ht (finisherResumeReply_unknown hn')
      · exact exec_refused rfl hr ht (finisherReturnReply_unknown hn')
    · have hport : h.port = .A ∨ h.port = .B := by simpa [Request.ports] using hr.2.1
      exact exec_refused rfl hr ht (hunit _ hport fun u => claimReply_unknown hn' (hv u))
    · exact exec_refused rfl hr ht (claimFinishReply_unknown hn' hv)
    · exact exec_refused rfl hr ht (drawerLoadedReply_unknown hn' hd)

/-! ## A pending answer, and the receiver (R179) -/

/-- Settles O20. -/
theorem framesDuringAnAnswerAreOverruns : Obligations.FramesDuringAnAnswerAreOverruns := by
  unfold Obligations.FramesDuringAnAnswerAreOverruns
  intro p s a ha
  have hsome : (s.port p).answer.isSome = true := by rw [ha]; rfl
  refine ⟨fun c r fs hf => ?_, ?_, fun kind hk => ?_⟩
  · obtain ⟨x, hx, _, rfl, _⟩ := takenOf_of_fieldsOf hf s
    rw [exec_takenOf hx, takeNamed_overrun hsome]
    rfl
  · show execFrameOverrun p s = _
    rw [execFrameOverrun, if_pos hsome]
    rfl
  · show execUnknownRequest p kind s = _
    rw [execUnknownRequest, if_neg (by simp [hk]), if_pos hsome]
    rfl

theorem State.setPort_port_self (s : State) (p : Port) : s.setPort p (s.port p) = s := by
  rw [State.setPort, State.port, PerPort.set_get]

/-- R179: a byte that follows within 20 ms is not late. -/
theorem not_late {t now : Nat} (h : since t now ≤ 20) : late t now = false := decide_eq_false (Nat.not_lt.mpr h)

section
variable {r : PortRecord} {now t : Nat} {b : Byte}

theorem PortRecord.byte_hunting (h : r.receiver = .hunting) : r.byte now b = { r with receiver := huntingByte now b } := by
  simp only [PortRecord.byte, h]

theorem PortRecord.byte_len (h : r.receiver = .lenExpected t) (ht : since t now ≤ 20) :
    r.byte now b = if b.toNat = 0 ∨ 120 < b.toNat then r.framingError .hunting
      else { r with receiver := .inFrame [b] (b.toNat + 1) now } := by
  simp only [PortRecord.byte, h, not_late ht, Bool.false_eq_true, if_false]

theorem PortRecord.byte_inFrame {l : List Byte} {k : Nat} (h : r.receiver = .inFrame l (k + 2) t) (ht : since t now ≤ 20) :
    r.byte now b = { r with receiver := .inFrame (l ++ [b]) (k + 1) now } := by
  simp [PortRecord.byte, h, not_late ht]

end

theorem exec_frameByte (p : Port) (b : Byte) (s : State) :
    exec (.frameByte p b) s = .next (s.setPort p ((s.port p).byte s.now b)) := rfl

theorem exec_missingStopBit {s : State} {p : Port} (h : (s.port p).receiver ≠ .hunting) :
    exec (.missingStopBit p) s = .next (s.setPort p ((s.port p).framingError .hunting)) := by
  show execMissingStopBit p s = _
  unfold execMissingStopBit
  split
  · contradiction
  · rfl

/-- R179: a byte that is late already is taken at this moment. -/
theorem exec_byteGapTimeout {s : State} {p : Port} {t : Nat} (b : Byte) (h : (s.port p).receiver.lastByte = some t)
    (hlate : 20 < since t s.now) (hnow : s.now < 4294967296000) : exec (.byteGapTimeout p b) s =
      .next (s.setPort p ((s.port p).framingError (huntingByte s.now b))) := by
  have hzero : remainingMs t (Config.gapMs + 1) s.now = 0 := Nat.sub_eq_zero_of_le hlate
  show execByteGapTimeout p b s = _
  simp only [execByteGapTimeout, h, hzero, State.pass_zero hnow]

/-- Settles O21. -/
theorem receiverReadsFrames : Obligations.ReceiverReadsFrames := by
  unfold Obligations.ReceiverReadsFrames
  refine ⟨fun p s b hnow => ⟨fun h => ⟨?_, fun hb => ?_, ?_⟩, fun t h ht => ⟨fun h1 h2 => ?_, fun hbad => ?_⟩,
    fun l k t h ht => ?_, fun l k t h => ⟨?_, fun hlate => ?_⟩⟩, fun p s => ⟨rfl, rfl⟩⟩
  · show Host.Outcome.next (s.setPort p ((s.port p).byte s.now syncByte)) = _
    rw [PortRecord.byte_hunting h]
    rfl
  · rw [exec_frameByte, PortRecord.byte_hunting h, huntingByte, if_neg (show b ≠ syncByte from hb), ← h, State.setPort_port_self]
  · show execMissingStopBit p s = _
    simp only [execMissingStopBit, h]
  · rw [exec_frameByte, PortRecord.byte_len h ht, if_neg (by omega)]
  · show Host.Outcome.next (s.setPort p ((s.port p).byte s.now b)) = _
    rw [PortRecord.byte_len h ht, if_pos hbad]
    rfl
  · rw [exec_frameByte, PortRecord.byte_inFrame h ht]
  · rw [exec_missingStopBit (by obtain h | h := h <;> simp [h])]
    rfl
  · rw [exec_byteGapTimeout b (by obtain h | h := h <;> simp [h, Receiver.lastByte]) hlate hnow]
    rfl

end Sys2Proof.Machine
end

section
/-! SUPPORT. The notice unit's other requests and PING (R169, R171, R39, R185). -/

namespace Sys2Proof.Machine

/-! ## A port's record at the port that was heard -/

theorem State.heard_port_self (s : State) (p : Port) :
    (s.heard p).port p = { s.port p with state := .online, lastHeard := some s.now, receiver := .hunting } := by
  simp [State.heard, State.port]

/-- A change of the record of the port that was heard, which neither reads nor writes what the entry sets. -/
theorem State.heard_setPort (s : State) (p : Port) (f : PortRecord → PortRecord)
    (hf : ∀ (x : PortRecord) heard, f { x with state := .online, lastHeard := heard, receiver := .hunting } =
      { f x with state := .online, lastHeard := heard, receiver := .hunting }) :
    (s.heard p).setPort p (f ((s.heard p).port p)) = (s.setPort p (f (s.port p))).heard p := by
  rw [State.heard_port_self, hf]
  simp [State.heard, State.setPort, State.port, PerPort.set_set]

/-! ## ACK (R169) -/

theorem PortRecord.pendingKinds_length (r : PortRecord) :
    r.pendingKinds.length = allKinds.countP fun k => r.notices[k.idx].isSome := by
  rw [PortRecord.pendingKinds, List.countP_eq_length_filter]

theorem PortRecord.acked_notices (r : PortRecord) (snap levels : Vector Nat 17) (i : Fin 17) :
    (r.acked snap levels).notices[i] = ackNotice r.notices[i] snap[i] := by
  simp [PortRecord.acked, PortRecord.evaluate]

/-- R169: an ACK makes no kind pending. -/
theorem PortRecord.acked_pending_le (r : PortRecord) (snap levels : Vector Nat 17) :
    (r.acked snap levels).pendingKinds.length ≤ r.pendingKinds.length := by
  rw [PortRecord.pendingKinds_length, PortRecord.pendingKinds_length]
  refine List.countP_mono_left fun k _ hk => ?_
  rw [PortRecord.acked_notices] at hk
  cases hx : r.notices[k.idx] with
  | none => rw [hx] at hk; exact hk
  | some x => rfl

theorem ackReply_none {s : State} {p : Port} (h : (s.port p).snapshot = none) :
    ackReply p s = (s, .ok, [fCode 0, fCode (s.port p).pendingKinds.length]) := by
  simp only [ackReply, h]

theorem ackReply_some {s : State} {p : Port} {snap : Vector Nat 17} (h : (s.port p).snapshot = some snap) :
    ackReply p s = (s.setPort p ((s.port p).acked snap s.working.levels), .ok,
      [fCode ((s.port p).pendingKinds.length - ((s.port p).acked snap s.working.levels).pendingKinds.length),
       fCode ((s.port p).acked snap s.working.levels).pendingKinds.length]) := by
  simp only [ackReply, h]

theorem PortRecord.pendingKinds_congr {r x : PortRecord} (h : x.notices = r.notices) : x.pendingKinds = r.pendingKinds := by
  rw [PortRecord.pendingKinds, PortRecord.pendingKinds, h]

theorem PortRecord.acked_heard (r : PortRecord) (snap levels : Vector Nat 17) (heard : Option Nat) :
    ({ r with state := .online, lastHeard := heard, receiver := .hunting } : PortRecord).acked snap levels =
      { r.acked snap levels with state := .online, lastHeard := heard, receiver := .hunting } := by
  simp only [PortRecord.acked, PortRecord.evaluate, PortRecord.called]

/-- Settles O27. -/
theorem ackSubtractsTheSnapshot : Obligations.AckSubtractsTheSnapshot := by
  unfold Obligations.AckSubtractsTheSnapshot
  intro h s hr ht
  have hself := s.heard_port_self h.port
  refine ⟨fun hsnap => exec_answers rfl hr ht ?_, fun snap hsnap => ?_⟩
  · rw [ackReply_none (by rw [hself]; exact hsnap), ← PortRecord.pendingKinds_length,
      PortRecord.pendingKinds_congr (r := s.port h.port) (by rw [hself])]
  · obtain ⟨r, hrec⟩ : ∃ r, r = (s.port h.port).acked snap s.working.levels := ⟨_, rfl⟩
    refine ⟨r.notices, (s.port h.port).pendingKinds.length - r.pendingKinds.length, r.pendingKinds.length, ?_,
      fun i => ?_, r.pendingKinds_length, ?_⟩
    · have hev : ({ s.port h.port with notices := r.notices, snapshot := none } : PortRecord).evaluate
          s.working.levels = r := by rw [hrec]; rfl
      rw [hev]
      refine exec_answers rfl hr ht ?_
      have hkinds : ((s.heard h.port).port h.port).pendingKinds = (s.port h.port).pendingKinds :=
        PortRecord.pendingKinds_congr (by rw [hself])
      have hacked : (((s.heard h.port).port h.port).acked snap s.working.levels).pendingKinds = r.pendingKinds :=
        PortRecord.pendingKinds_congr (by rw [hself, PortRecord.acked_heard, hrec])
      rw [ackReply_some (by rw [hself]; exact hsnap), State.heard_working, hkinds, hacked, hrec,
        s.heard_setPort h.port (fun x => x.acked snap s.working.levels) fun x n => x.acked_heard snap _ n]
    · rw [hrec, PortRecord.acked_notices]
      cases (s.port h.port).notices[i] <;> rfl
    · rw [← PortRecord.pendingKinds_length, hrec]
      exact Nat.sub_add_cancel (PortRecord.acked_pending_le _ _ _)

/-! ## Thresholds and levels (R171, R39) -/

theorem kindOfNumber_idx (k : NoticeKind) : kindOfNumber (k.idx.val + 1) = some k := by cases k <;> rfl

theorem kindOfNumber_none {n : Nat} (h : n = 0 ∨ 17 < n) : kindOfNumber n = none := by
  refine List.find?_eq_none.mpr fun k _ hk => ?_
  have hn : k.idx.val + 1 = n := by simpa [NoticeKind.number] using hk
  have hlt := k.idx.isLt
  omega

theorem PortRecord.evaluate_heard (r : PortRecord) (levels : Vector Nat 17) (heard : Option Nat) :
    ({ r with state := .online, lastHeard := heard, receiver := .hunting } : PortRecord).evaluate levels =
      { r.evaluate levels with state := .online, lastHeard := heard, receiver := .hunting } := by
  simp only [PortRecord.evaluate, PortRecord.called]

/-- R39: the state after the level of `k` was set. -/
def State.levelSet (s : State) (k : NoticeKind) (v : Nat) : State :=
  (s.setWorking { s.working with levels := s.working.levels.set k.idx v }).evaluateAll

theorem State.levelSet_port (s : State) (k : NoticeKind) (v : Nat) (p : Port) :
    (s.levelSet k v).port p = { s.port p with attention := (s.port p).called (s.working.levels.set k.idx v) } := by
  simp [State.levelSet, State.evaluateAll, State.port, PerPort.get_map, PortRecord.evaluate]

theorem setLevelReply_taken {s : State} {kind : Nat} {k : NoticeKind} (level : Nat) (hk : kindOfNumber kind = some k)
    (hj : s.store.job = none) :
    setLevelReply kind level s = (s.levelSet k (min 7 level), .ok, [fCode kind, fCode (min 7 level)]) := by
  simp only [setLevelReply, hk, hj, Option.isSome_none, Bool.false_eq_true, if_false, State.levelSet]

theorem setLevelReply_busy {s : State} {kind : Nat} {k : NoticeKind} (level : Nat) (hk : kindOfNumber kind = some k)
    (hj : s.store.job ≠ none) : setLevelReply kind level s = refuse s .busy := by
  simp only [setLevelReply, hk, Option.isSome_iff_ne_none.mpr hj, if_true]

/-- Settles O28. -/
theorem noticeThresholdsAndLevels : Obligations.NoticeThresholdsAndLevels := by
  unfold Obligations.NoticeThresholdsAndLevels
  refine ⟨fun h s kind threshold k ht => ⟨fun hr hk hrouted => ?_, fun hr hbad => ?_, fun hr => ?_⟩,
    fun h s kind level ht => ⟨fun k hk => ⟨fun hr hj => ?_, fun hr hj => ?_, fun hr => ?_⟩,
      fun hbad => ⟨fun hr => ?_, fun hr => ?_⟩⟩⟩
  · refine exec_answers rfl hr ht ?_
    simp [readNoticeReply, hk, kindOfNumber_idx, hrouted, s.heard_port_self]
  · refine exec_refused rfl hr ht ?_
    obtain hbad | hbad | ⟨hk, hrouted⟩ := hbad
    · simp only [readNoticeReply, kindOfNumber_none (.inl hbad)]
    · simp only [readNoticeReply, kindOfNumber_none (.inr hbad)]
    · simp only [readNoticeReply, hk, kindOfNumber_idx, hrouted, if_true]
  · refine exec_answers rfl hr ht ?_
    rw [setThresholdReply, State.heard_working,
      s.heard_setPort h.port (fun x => ({ x with threshold := min 7 threshold.toNat } : PortRecord).evaluate
        s.working.levels) fun x n => PortRecord.evaluate_heard { x with threshold := min 7 threshold.toNat } _ n]
  · have hkind : kindOfNumber kind.toNat = some k := hk ▸ kindOfNumber_idx k
    refine ⟨s.working.levels.set k.idx (min 7 level.toNat), s.levelSet k (min 7 level.toNat), fun i => ?_,
      s.levelSet_port k _, rfl, exec_answers rfl hr ht ?_⟩
    · rw [Fin.getElem_fin, Vector.getElem_set]
      simp [Fin.ext_iff, eq_comm]
    · rw [setLevelReply_taken (s := s.heard h.port) level.toNat hkind hj]
      simp only [State.levelSet, State.heard_working, State.heard_setWorking, State.heard_evaluateAll]
      rfl
  · exact exec_refused rfl hr ht (setLevelReply_busy level.toNat (hk ▸ kindOfNumber_idx k) hj)
  · refine exec_answers rfl hr ht ?_
    simp only [readLevelReply, hk, kindOfNumber_idx, State.heard_working]
    rfl
  · refine exec_refused rfl hr ht ?_
    simp only [setLevelReply, kindOfNumber_none hbad]
  · refine exec_refused rfl hr ht ?_
    simp only [readLevelReply, kindOfNumber_none hbad]

/-! ## PING and PORT_INFO (R185) -/

/-- Settles O30. -/
theorem pingAndPortInfo : Obligations.PingAndPortInfo := by
  unfold Obligations.PingAndPortInfo
  refine fun h s ht => ⟨fun hr => exec_answers rfl hr ht rfl, fun hr => exec_answers rfl hr ht ?_⟩
  rw [portInfoReply, State.heard_port_self]

end Sys2Proof.Machine
end

section
/-! SUPPORT. REGISTER (R13, R3, R4, R14). -/

namespace Sys2Proof.Machine

/-! ## Requests that port W does not send -/

section
variable {c : Instr} {s t : State} {r : Request} {k : Nat} {h : Hdr} {owner : State → Reply} {code : ResultCode}
  {fs : List Field}

/-- R180, R182: a request that port W may not send, decided at the port that was heard. -/
theorem exec_answers_of_ne (hx : takenOf s c = some ⟨r, k, h, owner⟩) (hr : Reaches r k h s) (hw : Port.W ∉ r.ports)
    (ho : owner (s.heard h.port) = (t.heard h.port, code, fs)) : exec c s = .next (replied t h.port r code fs) := by
  have hne : h.port ≠ .W := fun e => hw (e ▸ hr.2.1)
  rw [exec_takenOf hx]
  dsimp only
  rw [takeNamed_reaches hr, State.onlineEntry_heard_of_ne s hne, ho]
  exact congrArg Host.Outcome.next (answeredWith_heard t h.port r code fs)

theorem exec_refused_of_ne (hx : takenOf s c = some ⟨r, k, h, owner⟩) (hr : Reaches r k h s) (hw : Port.W ∉ r.ports)
    (ho : owner (s.heard h.port) = refuse (s.heard h.port) code) : exec c s = .next (replied s h.port r code []) :=
  exec_answers_of_ne hx hr hw ho

end

/-! ## The slots -/

/-- R1: the lowest FREE slot, and none when every slot is taken. -/
theorem State.lowestFree_eq_some {s : State} {i : Fin 48} (hi : s.slots[i] = none)
    (hlow : ∀ j : Fin 48, j < i → s.slots[j] ≠ none) : s.lowestFree = some i := by
  refine List.find?_eq_some_iff_getElem.mpr ⟨by simp [hi], i.val, by simp, by simp, fun j hj => ?_⟩
  have hused := hlow ⟨j, Nat.lt_trans hj i.isLt⟩ hj
  simpa [Option.isSome_iff_ne_none] using hused

theorem State.lowestFree_eq_none {s : State} (h : ∀ i : Fin 48, s.slots[i] ≠ none) : s.lowestFree = none := by
  refine List.find?_eq_none.mpr fun i _ hi => h i ?_
  simpa using hi

theorem State.liveDockets_length (s : State) : s.liveDockets.length = s.slots.toList.countP Option.isSome :=
  List.length_filterMap_eq_countP

/-- R1: the count of free slots. -/
theorem State.freeSlots_eq (s : State) : s.freeSlots = s.slots.toList.countP Option.isNone := by
  have hlen : s.slots.toList.length = 48 := by simp
  have hsplit := List.length_eq_countP_add_countP Option.isSome (l := s.slots.toList)
  have hnot : (fun o : Option Docket => decide ¬ o.isSome = true) = Option.isNone := by
    funext o; cases o <;> rfl
  rw [hnot] at hsplit
  rw [State.freeSlots, State.liveDockets_length]
  omega

/-- R1: a docket written into a slot is the live docket of its number, where no other carries it. -/
theorem State.docket_set {s t : State} {i : Fin 48} {d : Docket} (hd : s.docket d.number = none)
    (ht : t.slots = s.slots.set i (some d)) : t.docket d.number = some d := by
  have hslot (j : Fin 48) : t.slots[j] = if j = i then some d else s.slots[j] := by
    simp [ht, Vector.getElem_set, Fin.ext_iff, eq_comm]
  cases he : t.docket d.number with
  | none => exact absurd rfl (State.docket_none_iff.mp he i d (by rw [hslot, if_pos rfl]))
  | some e =>
    obtain ⟨j, hj⟩ := State.docket_slot he
    rw [hslot] at hj
    split at hj
    · exact hj.symm
    · exact absurd (State.docket_number he) (State.docket_none_iff.mp hd j e hj)

/-- R1: a docket written into a FREE slot takes one. -/
theorem State.freeSlots_set {s t : State} {i : Fin 48} {d : Docket} (hi : s.slots[i] = none)
    (ht : t.slots = s.slots.set i (some d)) : t.freeSlots + 1 = s.freeSlots := by
  have hget : s.slots.toList[i.val]'(by simp) = none := by simpa using hi
  have hpos : 0 < s.slots.toList.countP Option.isNone :=
    List.countP_pos_iff.mpr ⟨none, hget ▸ List.getElem_mem _, rfl⟩
  rw [State.freeSlots_eq, State.freeSlots_eq, ht, Vector.toList_set, List.countP_set (by simp), hget]
  simp only [Option.isNone_none, Option.isNone_some, if_true, Bool.false_eq_true, if_false]
  omega

/-! ## The number (R3) -/

theorem numberAfter_eq {n : Nat} (h1 : 1 ≤ n) (h2 : n ≤ 9999) : numberAfter n = n % 9999 + 1 := by
  unfold numberAfter
  split <;> omega

theorem laterNumber_mod {c j : Nat} (h1 : 1 ≤ c) (h2 : c ≤ 9999) (hj : j ≤ 49) :
    laterNumber j c = (c - 1 + j) % 9999 + 1 := by
  rw [laterNumber_eq c j hj]
  (repeat' split) <;> omega

theorem State.firstUnused_congr {s t : State} (h : t.slots = s.slots) (k c : Nat) : t.firstUnused k c = s.firstUnused k c := by
  induction k generalizing c with
  | zero => rfl
  | succ k ih => rw [State.firstUnused, State.firstUnused, State.docket_of_slots h, ih]

/-! ## The table after a REGISTER -/

/-- R13: the table, the numbers and the pool after docket `d` was written into slot `i`. -/
def State.written (s : State) (i : Fin 48) (d : Docket) : State :=
  { s with
    slots := s.slots.set i (some d)
    nextNumber := numberAfter d.number
    nextOrder := s.nextOrder + 1
    exposurePool := s.exposurePool ++ [d.number] }

theorem State.registerDocket_eq (s : State) {i : Fin 48} {d : Docket} (hi : s.slots[i] = none)
    (hd : s.docket d.number = none) :
    (s.registerDocket i d).freeSlots + 1 = s.freeSlots ∧
    s.registerDocket i d =
      if (s.registerDocket i d).freeSlots = 4 then
        ((s.written i d).offer .registered 1 d.subject none).raise .E .docketsLow (some d.number)
      else (s.written i d).offer .registered 1 d.subject none := by
  have hdocket : (s.written i d).docket d.number = some d := State.docket_set hd rfl
  have hoffer : (s.written i d).offerFor .registered 1 d.number false = (s.written i d).offer .registered 1 d.subject none := by
    rw [State.offerFor, hdocket]
    rfl
  have hreg : s.registerDocket i d =
      if ((s.written i d).offer .registered 1 d.subject none).freeSlots = 4 then
        ((s.written i d).offer .registered 1 d.subject none).raise .E .docketsLow (some d.number)
      else (s.written i d).offer .registered 1 d.subject none := by
    rw [← hoffer]
    rfl
  have hfree : (s.registerDocket i d).freeSlots = ((s.written i d).offer .registered 1 d.subject none).freeSlots := by
    rw [State.freeSlots_eq, State.freeSlots_eq, hreg]
    split <;> simp
  refine ⟨?_, hfree ▸ hreg⟩
  rw [hfree]
  exact State.freeSlots_set hi rfl

theorem State.heard_registerDocket (s : State) (p : Port) (i : Fin 48) (d : Docket) :
    (s.heard p).registerDocket i d = (s.registerDocket i d).heard p := by
  have hwritten : (s.heard p).written i d = (s.written i d).heard p := rfl
  have hreg (t : State) : t.registerDocket i d =
      if ((t.written i d).offerFor .registered 1 d.number false).freeSlots = 4 then
        ((t.written i d).offerFor .registered 1 d.number false).raise .E .docketsLow (some d.number)
      else (t.written i d).offerFor .registered 1 d.number false := rfl
  rw [hreg, hreg s, hwritten, State.heard_offerFor, State.heard_raise, State.heard_freeSlots]
  split <;> rfl

/-! ## The owning rule's reply -/

section
variable {s : State} {recipe area coverage pref cls : Nat}

theorem classOfCode_none {n : Nat} (h : 1 < n) : classOfCode n = none := by
  obtain ⟨m, rfl⟩ := Nat.exists_eq_add_of_lt h
  rw [show 1 + m + 1 = m + 2 by omega]; rfl

theorem registerReply_range
    (h : 16 ≤ recipe ∨ 2 < pref ∨ 1 < cls ∨ area < 100 ∨ 20000 < area) :
    registerReply recipe area coverage pref cls s = refuse s .range := by
  unfold registerReply
  split
  · split
    · rename_i hp hc
      obtain h | h | h | h := h
      · omega
      · rw [prefOfCode_none h] at hp; contradiction
      · rw [classOfCode_none h] at hc; contradiction
      · exact if_pos h
    · rfl
  · rfl

variable {r : Fin 16} {u : Option UnitId} {c : PlateClass} (hu : prefOfCode pref = some u) (hc : classOfCode cls = some c)
  (ha : 100 ≤ area ∧ area ≤ 20000)
include hu hc ha

theorem registerReply_badRecipe (hv : s.working.recipes[r].valid = false) :
    registerReply r area coverage pref cls s = refuse s .badRecipe := by
  rw [registerReply, dif_pos r.isLt]
  simp only [hu, hc]
  rw [if_neg (by omega), if_pos (show s.working.recipes[r.val].valid = false from hv)]

theorem registerReply_noRoom (hv : s.working.recipes[r].valid = true) (hf : s.lowestFree = none) :
    registerReply r area coverage pref cls s = refuse s .noRoom := by
  rw [registerReply, dif_pos r.isLt]
  simp only [hu, hc, hf]
  rw [if_neg (by omega), if_neg (by simpa using hv)]

theorem registerReply_taken (hv : s.working.recipes[r].valid = true) {i : Fin 48} (hf : s.lowestFree = some i)
    {d : Docket} (hd : d = .new s.assignedNumber r area coverage u c s.seconds s.nextOrder) :
    registerReply r area coverage pref cls s =
      (s.registerDocket i d, .ok,
        [fDocket s.assignedNumber, fCode (min 95 coverage), fCode (s.registerDocket i d).freeSlots]) := by
  rw [registerReply, dif_pos r.isLt]
  simp only [hu, hc, hf]
  rw [if_neg (by omega), if_neg (by simpa using hv), hd]

end

/-- Settles O31. -/
theorem registerWritesADocket : Obligations.RegisterWritesADocket := by
  unfold Obligations.RegisterWritesADocket
  intro h s recipe area coverage pref cls hr
  refine ⟨fun r u c hrec hu hc h1 h2 => ⟨fun hv => ?_, fun hv hfull => ?_, fun i free hv hi hlow hfree hn1 hn2 => ?_⟩,
    fun hbad => exec_refused_of_ne rfl hr (by decide) (registerReply_range hbad)⟩
  · refine exec_refused_of_ne rfl hr (by decide) ?_
    rw [hrec]
    exact registerReply_badRecipe hu hc ⟨h1, h2⟩ hv
  · refine exec_refused_of_ne rfl hr (by decide) ?_
    rw [hrec]
    exact registerReply_noRoom hu hc ⟨h1, h2⟩ hv (State.lowestFree_eq_none hfull)
  · obtain ⟨hunused, k, hk, hnumber, hbefore⟩ := s.assignedNumber_unused
    obtain ⟨n, hn⟩ : ∃ n, n = s.assignedNumber := ⟨_, rfl⟩
    rw [← hn] at hunused hnumber
    rw [laterNumber_mod hn1 hn2 (by omega)] at hnumber
    obtain ⟨d, hd⟩ : ∃ d, d = Docket.new n r area.toNat coverage.toNat u c s.seconds s.nextOrder := ⟨_, rfl⟩
    have hdn : d.number = n := by rw [hd]; rfl
    obtain ⟨hslots, hreg⟩ := s.registerDocket_eq hi (d := d) (hdn ▸ hunused)
    rw [State.freeSlots_eq s, hfree, Nat.add_right_cancel_iff] at hslots
    rw [hslots] at hreg
    refine ⟨n, k, (s.written i d).offer .registered 1 d.subject none, hnumber, hunused, fun j hj => ?_, ?_, ?_⟩
    · have hused := hbefore j hj
      rw [laterNumber_mod hn1 hn2 (by omega)] at hused
      exact Option.isSome_iff_ne_none.mp hused
    · have hafter : numberAfter d.number = n % 9999 + 1 := by
        rw [hdn]
        exact numberAfter_eq (by omega) (by omega)
      have hwritten : s.written i d = { s with
          slots := s.slots.set i (some d), nextNumber := n % 9999 + 1, nextOrder := s.nextOrder + 1
          exposurePool := s.exposurePool ++ [n] } := by rw [State.written, hafter, hdn]
      rw [hwritten, hd]
      rfl
    · refine exec_answers_of_ne rfl hr (by decide) ?_
      rw [hrec]
      have hassigned : (s.heard h.port).assignedNumber = n := by
        rw [hn]; exact State.firstUnused_congr (by rfl) _ _
      rw [registerReply_taken (s := s.heard h.port) hu hc ⟨h1, h2⟩ hv (State.lowestFree_eq_some hi hlow) (d := d) (by rw [hassigned, hd]; rfl),
        hassigned, State.heard_registerDocket, State.heard_freeSlots, hslots, hreg, hdn]

end Sys2Proof.Machine
end

section
/-! SUPPORT. CANCEL (R15 to R20, R93, R163). -/

namespace Sys2Proof.Machine

/-! ## Updates of one docket -/

/-- An update that leaves every record of the number as it is leaves the state as it is. -/
theorem State.updateDocket_of_fixed {s : State} {n : Nat} {f : Docket → Docket}
    (h : ∀ (i : Fin 48) (x : Docket), s.slots[i] = some x → x.number = n → f x = x) : s.updateDocket n f = s := by
  have hslots : mapAll (fun o => o.map fun d => if d.number = n then f d else d) s.slots = s.slots := by
    ext i hi : 1
    rw [getElem_mapAll]
    cases hx : s.slots[i] with
    | none => rfl
    | some x =>
      by_cases hn : x.number = n
      · simp [hn, h ⟨i, hi⟩ x hx hn]
      · simp [hn]
  rw [State.updateDocket, hslots]
  rfl

/-- Where live numbers are unique, an update is known by what it does to the live docket. -/
theorem State.updateDocket_congr {s : State} (hu : NumbersUnique s) {n : Nat} {d : Docket} (hd : s.docket n = some d)
    {f g : Docket → Docket} (hfg : f d = g d) : s.updateDocket n f = s.updateDocket n g := by
  obtain ⟨i, hi⟩ := State.docket_slot hd
  have hslots : mapAll (fun o => o.map fun d => if d.number = n then f d else d) s.slots =
      mapAll (fun o => o.map fun d => if d.number = n then g d else d) s.slots := by
    ext j hj : 1
    rw [getElem_mapAll, getElem_mapAll]
    cases hx : s.slots[j] with
    | none => rfl
    | some x =>
      by_cases hn : x.number = n
      · obtain rfl : ⟨j, hj⟩ = i := hu ⟨j, hj⟩ i x d hx hi (hn.trans (State.docket_number hd).symm)
        obtain rfl : x = d := Option.some.inj (hx.symm.trans hi)
        simp [hfg]
      · simp [hn]
  rw [State.updateDocket, State.updateDocket, hslots]

/-! ## Entry into SCRAPPED (R10) -/

/-- R10: the record of a docket that is SCRAPPED. -/
def Docket.scrap (d : Docket) : Docket := { d with state := .scrapped, sub := .none, drawer := none, hold := none }

/-- R10, R173: the state after docket `n` with the record `d` was SCRAPPED. -/
def State.scrapped (s : State) (n : Nat) (d : Docket) : State :=
  { s with
    slots := (s.updateDocket n Docket.scrap).slots
    counters := (s.offer .scrapped 1 (some (d.recipe, d.cls)) none).counters }

theorem State.scrapped_eq (s : State) (n : Nat) (d : Docket) :
    { s.updateDocket n fun x => { x with state := .scrapped, sub := .none, drawer := none, hold := none } with
      counters := (s.offer .scrapped 1 (some (d.recipe, d.cls)) none).counters } = s.scrapped n d := by
  simp only [State.scrapped, State.updateDocket, State.setSlots, Docket.scrap]

theorem State.scrapDocket_docket (s : State) (n m : Nat) :
    (s.updateDocket n Docket.scrap).docket m = if m = n then (s.docket n).map Docket.scrap else s.docket m :=
  s.updateDocket_docket n m Docket.scrap fun _ => rfl

theorem State.enterScrapped_eq {s : State} {n : Nat} {d : Docket} (h : s.docket n = some d) :
    s.enterScrapped n = s.scrapped n d := by
  have hd : (s.updateDocket n Docket.scrap).docket n = some d.scrap := by
    rw [State.scrapDocket_docket, if_pos rfl, h]; rfl
  have hsubject : d.scrap.subject = some (d.recipe, d.cls) := rfl
  have henter : s.enterScrapped n = (s.updateDocket n Docket.scrap).offerFor .scrapped 1 n false := rfl
  simp only [henter, State.offerFor, hd, hsubject]
  simp only [State.offer, State.scrapped, State.setCounters, State.updateDocket,
    State.setSlots, Bool.false_eq_true, if_false]

theorem State.scrapped_docket {s : State} {n : Nat} {d : Docket} (h : s.docket n = some d) :
    (s.scrapped n d).docket n = some d.scrap := by
  rw [State.docket_of_slots (t := s.scrapped n d) (s := s.updateDocket n Docket.scrap) rfl, State.scrapDocket_docket, if_pos rfl, h]
  rfl

/-- R16: SCRAPPED from a state with other collections or holders. -/
theorem State.scrapped_of_same {s t : State} (n : Nat) (d : Docket) (hs : t.slots = s.slots) (hc : t.counters = s.counters) :
    t.scrapped n d = { t with slots := (s.scrapped n d).slots, counters := (s.scrapped n d).counters } := by
  simp only [State.scrapped, State.updateDocket, State.setSlots, State.offer, State.setCounters, hs, hc]

/-- R10: no record of the number keeps a hold. -/
theorem State.scrapped_hold {s : State} {n : Nat} {d : Docket} (i : Fin 48) {x : Docket}
    (hx : (s.scrapped n d).slots[i] = some x) (hn : x.number = n) : x.hold = none := by
  have hslot : (s.scrapped n d).slots[i] = s.slots[i].map fun y => if y.number = n then y.scrap else y := by
    simp [State.scrapped, State.updateDocket]
  rw [hslot] at hx
  obtain ⟨y, _, rfl⟩ := Option.map_eq_some_iff.mp hx
  by_cases hy : y.number = n
  · rw [if_pos hy]; rfl
  · rw [if_neg hy] at hn
    exact absurd hn hy

theorem State.enterScrapped_of_same {s t : State} {n : Nat} {d : Docket} (h : s.docket n = some d) (hs : t.slots = s.slots)
    (hc : t.counters = s.counters) :
    t.enterScrapped n = { t with slots := (s.scrapped n d).slots, counters := (s.scrapped n d).counters } := by
  rw [State.enterScrapped_eq ((State.docket_of_slots hs n).trans h), State.scrapped_of_same n d hs hc]

theorem State.stateCodeOf_eq {s : State} {n : Nat} {d : Docket} (h : s.docket n = some d) : s.stateCodeOf n = d.state.code := by
  rw [State.stateCodeOf, h]

theorem State.scrapCodeOf_eq {s : State} {n : Nat} {d : Docket} (h : s.docket n = some d) :
    s.scrapCodeOf n = scrapCode d.scrapMark := by
  rw [State.scrapCodeOf, h]

/-! ## A run cancelled (R66, R68) -/

/-- R68: a docket without a hold takes no partial dose. -/
theorem partialAtOnce_of_no_hold {s : State} {n : Nat} (hhold : ∀ (i : Fin 48) x, s.slots[i] = some x → x.number = n → x.hold = none)
    (ch : ChannelId) {c : Channel} (hrun : c.run.map RunDocket.number = some n) : partialAtOnce s ch c = s := by
  obtain ⟨r, hr, rfl⟩ := Option.map_eq_some_iff.mp hrun
  unfold partialAtOnce
  rw [hr]
  dsimp only
  split
  · exact State.updateDocket_of_fixed fun i x hx hn => by simp [Docket.takePartial, hhold i x hx hn]
  · rfl

/-- R66: the cancelled run of a docket without a hold leaves the record of an abort and nothing else. -/
theorem State.abortRun_cancelled_eq {s : State} {n : Nat} {ch : ChannelId}
    (hhold : ∀ (i : Fin 48) x, s.slots[i] = some x → x.number = n → x.hold = none) (hs : (s.chan ch).state = .exposing)
    (hrun : (s.chan ch).run.map RunDocket.number = some n) :
    s.abortRun ch .cancelled = s.setChan ch ((s.chan ch).abortedAt .cancelled s.now) := by
  have habort : s.abortRun ch .cancelled = if (s.chan ch).state = .exposing then
      (s.chanToTail ch (.aborted .cancelled)).endTailIfZero ch else s := rfl
  rw [habort, if_pos hs, State.chanToTail, State.endTailIfZero_aborted _ _ hs]
  exact partialAtOnce_of_no_hold (s := s.setChan ch _) hhold ch hrun

/-! ## The port that was heard -/

section
variable (s : State) (p : Port)

theorem State.heard_cancelAtUnit (u : UnitId) (n : Nat) : (s.heard p).cancelAtUnit u n = (s.cancelAtUnit u n).heard p := by
  simp only [State.cancelAtUnit, State.heard_unit, State.heard_setUnit, State.heard_enterScrapped, State.heard_abortRun]
  split <;> rfl

theorem State.heard_cancelAtFinisher (n : Nat) : (s.heard p).cancelAtFinisher n = (s.cancelAtFinisher n).heard p := by
  simp only [State.cancelAtFinisher, State.heard_finisher, State.heard_setFinisher, State.heard_enterScrapped,
    State.heard_abortAll]
  split <;> rfl

theorem State.heard_cancelHolder (n : Nat) : (s.heard p).cancelHolder n = (s.cancelHolder n).heard p := by
  simp only [State.cancelHolder, State.heard_unit, State.heard_finisher, State.heard_cancelAtUnit,
    State.heard_cancelAtFinisher, State.heard_enterScrapped]
  repeat' split
  all_goals rfl

theorem State.heard_markScrap (n : Nat) (m : ScrapMark) : (s.heard p).markScrap n m = (s.markScrap n m).heard p := by
  simp only [State.markScrap, State.heard_updateDocket]

theorem State.heard_cancelAtDryer (n : Nat) (o : Option (Fin 8)) :
    (s.heard p).cancelAtDryer n o = (s.cancelAtDryer n o).heard p := by
  cases o with
  | none => exact s.heard_markScrap p n _
  | some d =>
    simp only [State.cancelAtDryer, State.heard_drawers, State.heard_setDrawers, State.heard_enterScrapped,
      State.heard_assignDrawers, State.heard_markScrap]
    cases s.drawers[d] <;> rfl

theorem State.heard_cancelDocket (d : Docket) : (s.heard p).cancelDocket d = (s.cancelDocket d).heard p := by
  simp only [State.cancelDocket, State.heard_exposurePool, State.heard_washQueue, State.heard_dryQueue,
    State.heard_finishPool, State.heard_setExposurePool, State.heard_setWashQueue, State.heard_setDryQueue,
    State.heard_setFinishPool, State.heard_enterScrapped, State.heard_cancelHolder, State.heard_markScrap,
    State.heard_cancelAtDryer]
  cases d.state <;> rfl

@[simp] theorem State.heard_stateCodeOf (n : Nat) : (s.heard p).stateCodeOf n = s.stateCodeOf n := rfl

@[simp] theorem State.heard_scrapCodeOf (n : Nat) : (s.heard p).scrapCodeOf n = s.scrapCodeOf n := rfl

end

/-! ## The command -/

/-- R15, R16: a CANCEL that is taken answers the docket's state and scrap mark afterwards. -/
theorem exec_cancel_taken {h : Hdr} {s t : State} {n : BitVec 16} {d e : Docket} (hr : Reaches .cancel 0 h s)
    (hd : s.docket n.toNat = some d) (hstate : d.state ≠ .done ∧ d.state ≠ .scrapped) (ht : s.cancelDocket d = t)
    (he : t.docket n.toNat = some e) :
    exec (.cancel h n) s = .next (replied t h.port .cancel .ok
      [fDocket n.toNat, fCode e.state.code, fCode (scrapCode e.scrapMark)]) := by
  refine exec_answers_of_ne rfl hr (by decide) ?_
  simp only [cancelReply, State.heard_docket, hd, State.heard_cancelDocket, ht, State.heard_stateCodeOf,
    State.heard_scrapCodeOf, State.stateCodeOf_eq he, State.scrapCodeOf_eq he]
  rw [if_neg (by simp [hstate])]

theorem exec_cancel_refused {h : Hdr} {s : State} {n : BitVec 16} {d : Docket} (hr : Reaches .cancel 0 h s)
    (hd : s.docket n.toNat = some d) (hstate : d.state = .done ∨ d.state = .scrapped) :
    exec (.cancel h n) s = .next (replied s h.port .cancel .wrongState []) := by
  refine exec_refused_of_ne rfl hr (by decide) ?_
  simp only [cancelReply, State.heard_docket, hd]
  rw [if_pos hstate]

/-- R20, R141: a docket that does not wait for a drawer is not changed by the assignment. -/
theorem State.assignDrawers_docket {s : State} {n : Nat} (hn : n ∉ s.dryQueue) : s.assignDrawers.docket n = s.docket n := by
  unfold State.assignDrawers
  generalize 8 = k
  induction k generalizing s with
  | zero => rfl
  | succ k ih =>
    unfold State.assignUpTo
    split
    · rename_i d m q _ hq
      rw [hq, List.mem_cons, not_or] at hn
      obtain ⟨hm, hq'⟩ := hn
      rw [ih (by simpa [State.giveDrawer, hq] using hq'), State.giveDrawer, State.raise_docket, State.updateDocket_docket]
      · rw [if_neg hm]; rfl
      · exact fun _ => rfl
    · rfl

section
variable {s : State} {n : Nat} {d : Docket} (hd : s.docket n = some d)
include hd

/-! ## The effect by state (R16, R19, R20) -/

theorem State.cancelDocket_registered (hs : d.state = .registered) :
    s.cancelDocket d = { s.scrapped n d with exposurePool := s.exposurePool.filter fun m => m != n } := by
  simp only [State.cancelDocket, hs, State.docket_number hd]
  refine (State.enterScrapped_of_same hd ?_ ?_).trans ?_ <;> rfl

theorem State.cancelDocket_washQueued (hs : d.state = .washQueued) :
    s.cancelDocket d = { s.scrapped n d with washQueue := s.washQueue.filter fun m => m != n } := by
  simp only [State.cancelDocket, hs, State.docket_number hd]
  refine (State.enterScrapped_of_same hd ?_ ?_).trans ?_ <;> rfl

theorem State.cancelDocket_dryQueued (hs : d.state = .dryQueued) :
    s.cancelDocket d = { s.scrapped n d with dryQueue := s.dryQueue.filter fun m => m != n } := by
  simp only [State.cancelDocket, hs, State.docket_number hd]
  refine (State.enterScrapped_of_same hd ?_ ?_).trans ?_ <;> rfl

theorem State.cancelDocket_finishQueued (hs : d.state = .finishQueued) :
    s.cancelDocket d = { s.scrapped n d with finishPool := s.finishPool.filter fun m => m != n } := by
  simp only [State.cancelDocket, hs, State.docket_number hd]
  refine (State.enterScrapped_of_same hd ?_ ?_).trans ?_ <;> rfl

theorem State.cancelDocket_reserved (hs : d.state = .atDryer) {i : Fin 8} (hdr : d.drawer = some i)
    (hres : s.drawers[i] = .reserved n) :
    s.cancelDocket d = ({ s.scrapped n d with drawers := s.drawers.set i .empty } : State).assignDrawers := by
  simp only [State.cancelDocket, hs, State.docket_number hd, hdr, State.cancelAtDryer, hres]
  refine congrArg State.assignDrawers ((State.enterScrapped_of_same hd ?_ ?_).trans ?_) <;> rfl

theorem State.reserved_docket (hq : n ∉ s.dryQueue) (v : Vector Drawer 8) :
    ({ s.scrapped n d with drawers := v } : State).assignDrawers.docket n = some d.scrap := by
  rw [State.assignDrawers_docket (by simpa [State.scrapped] using hq)]
  refine (State.docket_of_slots (s := s.scrapped n d) ?_ n).trans (State.scrapped_docket hd)
  rfl

/-- R17, R18, R19: a docket at a holder, or held, leaves by its holder. -/
theorem State.cancelDocket_holder (hs : d.state = .atExposure ∨ d.state = .atFinisher ∨ d.state = .held) :
    s.cancelDocket d = s.cancelHolder n := by
  obtain hs | hs | hs := hs <;> simp only [State.cancelDocket, hs, State.docket_number hd]

theorem State.markScrap_eq (hu : NumbersUnique s) (m : ScrapMark) : s.markScrap n m =
    s.updateDocket n fun x => { x with scrapMark := some (d.scrapMark.getD m) } :=
  State.updateDocket_congr hu hd rfl

theorem State.markScrap_docket (m : ScrapMark) :
    (s.markScrap n m).docket n = some { d with scrapMark := some (d.scrapMark.getD m) } := by
  rw [State.markScrap, State.updateDocket_docket]
  · rw [if_pos rfl, hd]; rfl
  · exact fun _ => rfl

end

/-- R16, R19, R20: a CANCEL that marks the docket for its next exit or unload. -/
theorem exec_cancel_marked {h : Hdr} {s : State} {n : BitVec 16} {d : Docket} (hu : NumbersUnique s)
    (hr : Reaches .cancel 0 h s) (hd : s.docket n.toNat = some d) (hstate : d.state ≠ .done ∧ d.state ≠ .scrapped)
    {m : ScrapMark} (hm : s.cancelDocket d = s.markScrap n.toNat m) :
    exec (.cancel h n) s = .next (replied
      (s.updateDocket n.toNat fun x => { x with scrapMark := some (d.scrapMark.getD m) }) h.port .cancel .ok
      [fDocket n.toNat, fCode d.state.code, fCode (scrapCode (some (d.scrapMark.getD m)))]) := by
  rw [exec_cancel_taken hr hd hstate hm (State.markScrap_docket hd m), State.markScrap_eq hd hu]

/-- R16: a CANCEL whose docket is SCRAPPED. -/
theorem exec_cancel_scrapped {h : Hdr} {s t : State} {n : BitVec 16} {d : Docket} (hr : Reaches .cancel 0 h s)
    (hd : s.docket n.toNat = some d) (hstate : d.state ≠ .done ∧ d.state ≠ .scrapped) (ht : s.cancelDocket d = t)
    (hslots : t.slots = (s.scrapped n.toNat d).slots) :
    exec (.cancel h n) s = .next (replied t h.port .cancel .ok
      [fDocket n.toNat, fCode 11, fCode (scrapCode d.scrapMark)]) :=
  exec_cancel_taken hr hd hstate ht ((State.docket_of_slots hslots _).trans (State.scrapped_docket hd))

/-- Settles O32. -/
theorem cancelOfAPlateOnTheLine : Obligations.CancelOfAPlateOnTheLine := by
  unfold Obligations.CancelOfAPlateOnTheLine
  intro h s t n d hu hr hd ht
  obtain rfl : t = s.scrapped n.toNat d := ht.trans (s.scrapped_eq _ _)
  have hdn : d.number = n.toNat := State.docket_number hd
  refine ⟨fun hs => ?_, fun hs => ?_, fun hs => ?_, fun hs => ?_, fun hs hunit hfin => ?_, fun hs => ?_,
    fun i timer rest raised hs hdr hfull => ?_, fun i hs hdr hres hq => ?_, fun hs => exec_cancel_refused hr hd hs⟩
  · exact exec_cancel_scrapped hr hd (by simp [hs]) (State.cancelDocket_registered hd hs) rfl
  · exact exec_cancel_scrapped hr hd (by simp [hs]) (State.cancelDocket_washQueued hd hs) rfl
  · exact exec_cancel_scrapped hr hd (by simp [hs]) (State.cancelDocket_dryQueued hd hs) rfl
  · exact exec_cancel_scrapped hr hd (by simp [hs]) (State.cancelDocket_finishQueued hd hs) rfl
  · refine exec_cancel_scrapped hr hd (by simp [hs]) ?_ rfl
    rw [State.cancelDocket_holder hd (.inr (.inr hs)), State.cancelHolder, if_neg (hunit .A), if_neg (hunit .B), if_neg hfin,
      State.enterScrapped_eq hd]
  · have hcode : d.state.code = 4 := by rw [hs]; rfl
    rw [exec_cancel_marked hu hr hd (by simp [hs]) (m := .atExit) (by simp only [State.cancelDocket, hs, hdn]), hcode]
  · have hcode : d.state.code = 6 := by rw [hs]; rfl
    rw [exec_cancel_marked hu hr hd (by simp [hs]) (m := .atUnload) ?_, hcode]
    simp only [State.cancelDocket, hs, hdn, hdr, State.cancelAtDryer]
    obtain hfull | hfull := hfull <;> rw [hfull]
  · refine exec_cancel_taken (e := d.scrap) hr hd (by simp [hs]) (State.cancelDocket_reserved hd hs hdr hres) ?_
    exact State.reserved_docket hd hq _

/-! ## A docket that a unit or the finisher holds (R17, R18, R93, R163) -/

theorem State.cancelHolder_unit {s : State} {n : Nat} {u : UnitId} (hu : (s.unit u).docket = some n)
    (hother : ∀ v, v ≠ u → (s.unit v).docket ≠ some n) : s.cancelHolder n = s.cancelAtUnit u n := by
  cases u with
  | A => rw [State.cancelHolder, if_pos hu]
  | B => rw [State.cancelHolder, if_neg (hother .A (by decide)), if_pos hu]

theorem State.cancelHolder_finisher {s : State} {n : Nat} (hf : s.finisher.docket = some n)
    (hunits : ∀ u, (s.unit u).docket ≠ some n) : s.cancelHolder n = s.cancelAtFinisher n := by
  rw [State.cancelHolder, if_neg (hunits .A), if_neg (hunits .B), if_pos hf]

section
variable {s : State} {n : Nat} {d : Docket} (hd : s.docket n = some d)
include hd

theorem State.vacated_unit (u : UnitId) :
    (s.setUnit u .vacant).enterScrapped n = { s.scrapped n d with units := s.units.set u .vacant } := by
  refine (State.enterScrapped_of_same hd ?_ ?_).trans ?_ <;> rfl

theorem State.vacated_finisher :
    (s.setFinisher .vacant).enterScrapped n = { s.scrapped n d with finisher := .vacant } := by
  refine (State.enterScrapped_of_same hd ?_ ?_).trans ?_ <;> rfl

theorem State.cancelAtUnit_still {u : UnitId} (h : ∀ m st, s.unit u ≠ .running m st) :
    s.cancelAtUnit u n = { s.scrapped n d with units := s.units.set u .vacant } := by
  unfold State.cancelAtUnit
  rw [State.vacated_unit hd]
  split
  · rename_i m st hu; exact absurd hu (h m st)
  · rfl

theorem State.cancelAtUnit_running {u : UnitId} {st : Stage} (h : RunsStage s u n st) :
    s.cancelAtUnit u n =
      { s.scrapped n d with
        units := s.units.set u .vacant
        channels := s.channels.set (stageChannel u st) ((s.chan (stageChannel u st)).abortedAt .cancelled s.now) } := by
  obtain ⟨t, ht⟩ : ∃ t : State, t = { s.scrapped n d with units := s.units.set u .vacant } := ⟨_, rfl⟩
  have hrun : s.cancelAtUnit u n = t.abortRun (stageChannel u st) .cancelled := by
    unfold State.cancelAtUnit
    rw [h.unit, State.vacated_unit hd, ← ht]
  have hchan (c : ChannelId) : t.chan c = s.chan c := by simp [ht, State.scrapped, State.chan]
  have hnow : t.now = s.now := by simp [ht, State.scrapped]
  have hhold : ∀ (i : Fin 48) x, t.slots[i] = some x → x.number = n → x.hold = none := by
    have hslots : t.slots = (s.scrapped n d).slots := by rw [ht]
    rw [hslots]
    exact fun i x => State.scrapped_hold i
  rw [hrun, State.abortRun_cancelled_eq hhold (by rw [hchan]; exact h.channel) (by rw [hchan]; exact h.docket), hchan, hnow, ht]
  simp only [State.setChan, State.scrapped]

theorem State.cancelAtFinisher_still (h : ∀ m c a, s.finisher ≠ .running m c a) :
    s.cancelAtFinisher n = { s.scrapped n d with finisher := .vacant } := by
  unfold State.cancelAtFinisher
  rw [State.vacated_finisher hd]
  split
  · rename_i m c a hf; exact absurd hf (h m c a)
  · rfl

/-- R163: the record of each finisher channel after its run was cancelled where its mark was OPEN. -/
theorem State.cancelAtFinisher_running {c a : Mark} (h : RunsFinish s n c a) :
    s.cancelAtFinisher n =
      (let t : State := { s.scrapped n d with finisher := .vacant }
       let t1 := if c = .openMark then t.setChan .FC ((s.chan .FC).abortedAt .cancelled s.now) else t
       if a = .openMark then t1.setChan .FA ((s.chan .FA).abortedAt .cancelled s.now) else t1) := by
  obtain ⟨t, ht⟩ : ∃ t : State, t = { s.scrapped n d with finisher := .vacant } := ⟨_, rfl⟩
  have hrun : s.cancelAtFinisher n = t.abortAll ((if c = .openMark then [.FC] else []) ++
      (if a = .openMark then [.FA] else [])) .cancelled := by
    unfold State.cancelAtFinisher
    rw [h.finisher, State.vacated_finisher hd, ← ht, ← FinisherRecord.openChannels_running]
  have hchan (x : ChannelId) : t.chan x = s.chan x := by simp [ht, State.scrapped, State.chan]
  have hnow : t.now = s.now := by simp [ht, State.scrapped]
  have hhold : ∀ (i : Fin 48) x, t.slots[i] = some x → x.number = n → x.hold = none := by
    have hslots : t.slots = (s.scrapped n d).slots := by rw [ht]
    rw [hslots]
    exact fun i x => State.scrapped_hold i
  have hC (hc : c = .openMark) : t.abortRun .FC .cancelled = t.setChan .FC ((s.chan .FC).abortedAt .cancelled s.now) := by
    rw [State.abortRun_cancelled_eq hhold (by rw [hchan]; exact (h.uvc hc).1) (by rw [hchan]; exact (h.uvc hc).2), hchan, hnow]
  have hA (ha : a = .openMark) (x : State) (hx : ∃ y, x = t.setChan .FC y ∨ x = t) :
      x.abortRun .FA .cancelled = x.setChan .FA ((s.chan .FA).abortedAt .cancelled s.now) := by
    have hxc : x.chan .FA = s.chan .FA := by
      obtain ⟨y, rfl | rfl⟩ := hx
      · rw [State.setChan_chan, if_neg (by decide), hchan]
      · exact hchan .FA
    have hxn : x.now = s.now := by obtain ⟨y, rfl | rfl⟩ := hx <;> exact hnow
    have hxh : ∀ (i : Fin 48) z, x.slots[i] = some z → z.number = n → z.hold = none := by
      obtain ⟨y, rfl | rfl⟩ := hx <;> exact hhold
    rw [State.abortRun_cancelled_eq hxh (by rw [hxc]; exact (h.uva ha).1) (by rw [hxc]; exact (h.uva ha).2), hxc, hxn]
  dsimp only
  rw [hrun, ← ht]
  cases c with
  | openMark =>
    cases a with
    | openMark =>
      show (t.abortRun .FC .cancelled).abortRun .FA .cancelled = _
      rw [hC rfl, hA rfl _ ⟨_, .inl rfl⟩]
      rfl
    | reached => exact hC rfl
  | reached =>
    cases a with
    | openMark => exact hA rfl t ⟨s.chan .FA, .inr rfl⟩
    | reached => rfl

end

/-- Settles O33. -/
theorem cancelVacatesTheHolder : Obligations.CancelVacatesTheHolder := by
  unfold Obligations.CancelVacatesTheHolder
  intro h s t n d hr hd hstate ht
  obtain rfl : t = s.scrapped n.toNat d := ht.trans (s.scrapped_eq _ _)
  have hlive : d.state ≠ .done ∧ d.state ≠ .scrapped := by obtain hs | hs | hs := hstate <;> simp [hs]
  have hholder := State.cancelDocket_holder hd hstate
  refine ⟨fun u st reason hother hu => ?_, fun u st hother hrun => ?_, fun c a reason hunits hf => ?_,
    fun c a hunits hrun => ?_⟩
  · have hdocket : (s.unit u).docket = some n.toNat := by obtain hu | hu := hu <;> rw [hu] <;> rfl
    refine exec_cancel_scrapped hr hd hlive (hholder.trans ?_) rfl
    rw [State.cancelHolder_unit hdocket hother, State.cancelAtUnit_still hd]
    intro m st' hm
    obtain hu | hu := hu <;> rw [hu] at hm <;> cases hm
  · have hdocket : (s.unit u).docket = some n.toNat := by rw [hrun.unit]; rfl
    refine exec_cancel_scrapped hr hd hlive (hholder.trans ?_) rfl
    rw [State.cancelHolder_unit hdocket hother, State.cancelAtUnit_running hd hrun]
  · have hdocket : s.finisher.docket = some n.toNat := by obtain hf | hf := hf <;> rw [hf] <;> rfl
    refine exec_cancel_scrapped hr hd hlive (hholder.trans ?_) rfl
    rw [State.cancelHolder_finisher hdocket hunits, State.cancelAtFinisher_still hd]
    intro m c' a' hm
    obtain hf | hf := hf <;> rw [hf] at hm <;> cases hm
  · have hdocket : s.finisher.docket = some n.toNat := by rw [hrun.finisher]; rfl
    have hcancel := (hholder.trans (State.cancelHolder_finisher hdocket hunits)).trans (State.cancelAtFinisher_running hd hrun)
    refine ⟨_, exec_cancel_scrapped hr hd hlive hcancel ?_, ?_, ?_, ?_, fun x hC hA => ?_⟩
    · cases c <;> cases a <;> simp
    · cases c <;> cases a <;> simp [State.setChan, State.scrapped]
    · cases c <;> cases a <;> simp [State.chan, State.scrapped]
    · cases c <;> cases a <;> simp [State.chan, State.scrapped]
    · cases c <;> cases a <;> simp [hC, hA, State.chan, State.scrapped]

end Sys2Proof.Machine
end

section
/-! SUPPORT. RELEASE, RETIRE, READ_DOCKET, LIST and LINE_CLEAR (R21 to R28). -/

namespace Sys2Proof.Machine

/-! ## Joining a queue after an update of the same docket -/

theorem State.classOf_updateDocket (s : State) (n : Nat) {f : Docket → Docket}
    (hf : ∀ d, (f d).number = d.number ∧ (f d).cls = d.cls) (m : Nat) : (s.updateDocket n f).classOf m = s.classOf m := by
  have hdocket := State.updateDocket_docket s n m f fun d => (hf d).1
  unfold State.classOf
  by_cases hm : m = n
  · rw [hdocket, if_pos hm, hm]
    cases s.docket n with
    | none => rfl
    | some d => exact (hf d).2
  · rw [hdocket, if_neg hm]

theorem State.updateDocket_setDryQueue (s : State) (q : List Nat) (n : Nat) (f : Docket → Docket) :
    (s.setDryQueue q).updateDocket n f = (s.updateDocket n f).setDryQueue q := by
  simp only [State.updateDocket, State.setSlots, State.setDryQueue]

theorem State.updateDocket_setWashQueue (s : State) (q : List Nat) (n : Nat) (f : Docket → Docket) :
    (s.setWashQueue q).updateDocket n f = (s.updateDocket n f).setWashQueue q := by
  simp only [State.updateDocket, State.setSlots, State.setWashQueue]

theorem State.joinClass_updateDocket (s : State) (n : Nat) {f : Docket → Docket}
    (hf : ∀ d, (f d).number = d.number ∧ (f d).cls = d.cls) (q : List Nat) (m : Nat) :
    (s.updateDocket n f).joinClass q m = s.joinClass q m := by
  have hclass : (s.updateDocket n f).classOf = s.classOf := funext (s.classOf_updateDocket n hf)
  unfold State.joinClass
  rw [hclass]

/-- R21: a docket updated and sent to the dry queue. -/
theorem State.joinDry_updateDocket (s : State) (n : Nat) {f : Docket → Docket}
    (hf : ∀ d, (f d).number = d.number ∧ (f d).cls = d.cls) :
    (s.updateDocket n f).joinDry n = ((s.updateDocket n fun d => { f d with state := .dryQueued, sub := .none }).setDryQueue
      (s.joinClass s.dryQueue n)).assignDrawers := by
  have hqueue : (s.updateDocket n f).dryQueue = s.dryQueue := by simp
  rw [State.joinDry, s.joinClass_updateDocket n hf, hqueue]
  refine congrArg State.assignDrawers ?_
  rw [State.updateDocket_setDryQueue]
  exact congrArg (State.setDryQueue · _) (State.updateDocket_updateDocket s n f _ fun d => (hf d).1)

/-- R22: a docket updated and sent to the washout queue. -/
theorem State.joinWash_updateDocket (s : State) (n : Nat) {f : Docket → Docket}
    (hf : ∀ d, (f d).number = d.number ∧ (f d).cls = d.cls) {t : State}
    (ht : t = (s.updateDocket n fun d => { f d with state := .washQueued, sub := .none }).setWashQueue
      (s.joinClass s.washQueue n)) :
    (s.updateDocket n f).joinWash n = if s.washQueue = [] then t.raise .W .washReady (some n) else t := by
  have hqueue : (s.updateDocket n f).washQueue = s.washQueue := by simp
  have hjoined : ((s.updateDocket n f).setWashQueue (s.joinClass s.washQueue n)).updateDocket n
      (fun d => { d with state := .washQueued, sub := .none }) = t := by
    rw [ht, State.updateDocket_setWashQueue]
    exact congrArg (State.setWashQueue · _) (State.updateDocket_updateDocket s n f _ fun d => (hf d).1)
  rw [State.joinWash, s.joinClass_updateDocket n hf, hqueue, hjoined]
  simp only [List.isEmpty_iff]

theorem State.joinDry_released (s : State) (n : Nat) :
    (s.updateDocket n fun d => { d with hold := none }).joinDry n =
      ({ s.updateDocket n fun y => { y with state := .dryQueued, sub := .none, hold := none } with
          dryQueue := s.joinClass s.dryQueue n } : State).assignDrawers :=
  s.joinDry_updateDocket n fun _ => ⟨rfl, rfl⟩

theorem State.joinWash_released (s : State) (n : Nat) {t : State}
    (ht : t = { s.updateDocket n fun y => { y with state := .washQueued, sub := .none, hold := none, passOver := 0 } with
      washQueue := s.joinClass s.washQueue n }) :
    (s.updateDocket n fun d => { d with hold := none, passOver := 0 }).joinWash n =
      if s.washQueue = [] then t.raise .W .washReady (some n) else t :=
  s.joinWash_updateDocket n (f := fun d => { d with hold := none, passOver := 0 }) (fun _ => ⟨rfl, rfl⟩)
    (by rw [ht, State.setWashQueue])

/-! ## RELEASE and RETIRE (R21 to R23) -/

section
variable {s : State} {n : Nat} {d : Docket} (hd : s.docket n = some d)
include hd

theorem releaseReply_wrongState {form : Nat} (hf : form = 0 ∨ form = 1) (he : d.heldAtExit = false) :
    releaseReply n form s = refuse s .wrongState := by
  rw [releaseReply, if_neg (by omega), hd]
  simp [he]

theorem releaseReply_pass (he : d.heldAtExit = true) :
    releaseReply n 0 s = ((s.updateDocket n fun d => { d with hold := none }).joinDry n, .ok, [fDocket n]) := by
  simp [releaseReply, hd, he]

theorem releaseReply_limit (he : d.heldAtExit = true) (hm : d.mayRewash = false) :
    releaseReply n 1 s = refuse s .limit := by
  simp [releaseReply, hd, he, hm]

theorem releaseReply_rewash (he : d.heldAtExit = true) (hm : d.mayRewash = true) :
    releaseReply n 1 s =
      ((s.updateDocket n fun d => { d with hold := none, passOver := 0 }).joinWash n, .ok, [fDocket n]) := by
  simp [releaseReply, hd, he, hm]

theorem retireReply_taken (hs : d.state = .done ∨ d.state = .scrapped) :
    retireReply n s = (s.freeSlotOf n, .ok, [fCode (s.freeSlotOf n).freeSlots]) := by
  simp only [retireReply, hd]
  rw [if_neg (by obtain hs | hs := hs <;> simp [hs])]

theorem retireReply_wrongState (h1 : d.state ≠ .done) (h2 : d.state ≠ .scrapped) :
    retireReply n s = refuse s .wrongState := by
  simp only [retireReply, hd]
  rw [if_pos ⟨h1, h2⟩]

end

theorem Docket.heldAtExit_true {d : Docket} {x : HoldRecord} (hs : d.state = .held) (hh : d.hold = some x)
    (hl : x.location = .washExit) : d.heldAtExit = true := by
  simp [Docket.heldAtExit, hs, hh, hl]

theorem Docket.heldAtExit_false {d : Docket} (h : d.state ≠ .held ∨ ∃ x, d.hold = some x ∧ x.location ≠ .washExit) :
    d.heldAtExit = false := by
  obtain hs | ⟨x, hh, hl⟩ := h
  · simp [Docket.heldAtExit, hs]
  · simp [Docket.heldAtExit, hh, hl]

/-- Settles O34. -/
theorem releaseAndRetire : Obligations.ReleaseAndRetire := by
  unfold Obligations.ReleaseAndRetire
  intro h s n d hd
  have hd' : (s.heard h.port).docket n.toNat = some d := hd
  refine ⟨fun x hr hs hh hl => ?_, fun hr hbad => ?_, fun form hr h0 h1 => ?_, fun hr hs => ?_, fun hr h1 h2 => ?_⟩
  · have hexit := Docket.heldAtExit_true hs hh hl
    refine ⟨?_, fun hx hp => ?_, fun hno => ?_⟩
    · refine exec_answers_of_ne rfl hr (by decide) ((releaseReply_pass hd' hexit).trans ?_)
      rw [State.heard_updateDocket, State.heard_joinDry, State.joinDry_released]
    · have hmay : d.mayRewash = true := by simp [Docket.mayRewash, hh, hx, hp]
      obtain ⟨t, ht⟩ : ∃ t : State, t = { s.updateDocket n.toNat fun y =>
        { y with state := .washQueued, sub := .none, hold := none, passOver := 0 } with
          washQueue := s.joinClass s.washQueue n.toNat } := ⟨_, rfl⟩
      refine ⟨t, ht, ?_⟩
      refine exec_answers_of_ne rfl hr (by decide) ((releaseReply_rewash hd' hexit hmay).trans ?_)
      rw [State.heard_updateDocket, State.heard_joinWash, State.joinWash_released s _ ht]
    · have hmay : d.mayRewash = false := by
        obtain hx | hp := hno
        · simp [Docket.mayRewash, hh, hx]
        · simp [Docket.mayRewash, Nat.not_lt.mpr hp]
      exact exec_refused_of_ne rfl hr (by decide) (releaseReply_limit hd' hexit hmay)
  · have hexit := Docket.heldAtExit_false hbad
    exact ⟨exec_refused_of_ne rfl hr (by decide) (releaseReply_wrongState hd' (.inl rfl) hexit),
      exec_refused_of_ne rfl hr (by decide) (releaseReply_wrongState hd' (.inr rfl) hexit)⟩
  · refine exec_refused_of_ne rfl hr (by decide) (if_pos ⟨fun e => h0 ?_, fun e => h1 ?_⟩)
    · exact BitVec.eq_of_toNat_eq e
    · exact BitVec.eq_of_toNat_eq e
  · refine ⟨(s.freeSlotOf n.toNat).slots, fun i => ?_, ?_⟩
    · simp [State.freeSlotOf]
    · refine exec_answers_of_ne rfl hr (by decide) ((retireReply_taken hd' hs).trans ?_)
      rw [State.heard_freeSlotOf, State.heard_freeSlots, State.freeSlots_eq]
      rfl
  · exact exec_refused_of_ne rfl hr (by decide) (retireReply_wrongState hd' h1 h2)

/-! ## READ_DOCKET and LIST (R24, R25) -/

section
variable {s : State} {n : Nat} {d : Docket} {i : Fin 48} (hi : s.slots[i] = some d) (hn : d.number = n)
  (hfirst : ∀ (j : Fin 48) (e : Docket), j < i → s.slots[j] = some e → e.number ≠ n)
include hi hn hfirst

/-- R1: the live docket of a number is the first that carries it. -/
theorem State.docket_of_first : s.docket n = some d := by
  have hget : s.slots.toList[i.val]'(by simp) = some d := by simpa using hi
  refine List.findSome?_eq_some_iff.mpr ⟨s.slots.toList.take i, some d, s.slots.toList.drop (i + 1), ?_, ?_, fun o ho => ?_⟩
  · rw [← hget, List.getElem_cons_drop, List.take_append_drop]
  · simp [hn]
  · obtain ⟨j, hj, rfl⟩ := List.mem_take_iff_getElem.mp ho
    have hji : j < i.val := by omega
    cases hx : s.slots.toList[j]'(by simp; omega) with
    | none => rfl
    | some e =>
      have hslot : s.slots[(⟨j, by omega⟩ : Fin 48)] = some e := by simpa using hx
      simp [hfirst ⟨j, by omega⟩ e hji hslot]

theorem State.slotOf_of_first : s.slotOf n = some (i.val + 1) := by
  have hfind : ((List.finRange 48).find? fun i => s.slots[i].any fun d => d.number == n) = some i := by
    refine List.find?_eq_some_iff_getElem.mpr ⟨by simp [hi, hn], i.val, by simp, by simp, fun j hj => ?_⟩
    have hother := hfirst ⟨j, Nat.lt_trans hj i.isLt⟩
    cases hx : s.slots[j]'(Nat.lt_trans hj i.isLt) with
    | none => simp [hx]
    | some e => simpa [hx] using hother e hj hx
  rw [State.slotOf, hfind]
  rfl

end

theorem State.numbersIn_eq (s : State) (st : DocketState) :
    s.numbersIn st = (s.slots.toList.filterMap id).filterMap fun d => if d.state = st then some d.number else none := by
  rw [State.numbersIn, State.liveDockets]
  generalize s.slots.toList.filterMap id = l
  induction l with
  | nil => rfl
  | cons d l ih =>
    by_cases hs : d.state = st
    · simp [hs, ih]
    · simp [hs, ih]

theorem listReply_taken {s : State} {c start : Nat} {q : List Nat} (hc : s.collection c = some q) (hs : start ≤ 47) :
    listReply c start s = (s, .ok,
      [.num .code c, .num .code q.length, .num .code start, .num .code (min 24 (q.length - start))] ++
        ((q.drop start).take 24).map fun n => .num .docket n) := by
  simp only [listReply, hc]
  rw [if_neg (by omega), List.length_take, List.length_drop]
  rfl

theorem State.collection_none {s : State} {c : Nat} (h : 7 < c) : s.collection c = none := by
  obtain ⟨m, rfl⟩ := Nat.exists_eq_add_of_lt h
  rw [show 7 + m + 1 = m + 8 by omega]; rfl

theorem listReply_range {s : State} {c start : Nat} (h : 7 < c ∨ 47 < start) : listReply c start s = refuse s .range := by
  unfold listReply
  split
  · rfl
  · rename_i q hq
    obtain h | h := h
    · rw [State.collection_none h] at hq; contradiction
    · exact if_pos h

/-- Settles O35. -/
theorem readDocketAndList : Obligations.ReadDocketAndList := by
  unfold Obligations.ReadDocketAndList
  intro h s ht
  refine ⟨fun n d i hr hi hn hfirst => ?_, fun n part hr hd => ?_, fun c start q hr hs hc => ?_, fun c start hr hbad => ?_⟩
  · have hd : (s.heard h.port).docket n.toNat = some d := State.docket_of_first hi hn hfirst
    have hslot : (s.heard h.port).slotOf d.number = some (i.val + 1) := by
      rw [hn]; exact State.slotOf_of_first hi hn hfirst
    refine ⟨exec_answers rfl hr ht ?_, exec_answers rfl hr ht ?_, exec_answers rfl hr ht ?_, fun part hp =>
      exec_refused rfl hr ht ?_⟩
    · have hreply : readDocketReply n.toNat 0 (s.heard h.port) =
          (s.heard h.port, .ok, docketPart0 (s.heard h.port) d) := by simp only [readDocketReply, hd]
      refine hreply.trans ?_
      rw [docketPart0, hslot, hn]
      rfl
    · have hreply : readDocketReply n.toNat 1 (s.heard h.port) = (s.heard h.port, .ok, docketPart1 d) := by
        simp only [readDocketReply, hd]
      refine hreply.trans ?_
      rw [docketPart1, hn]
      rfl
    · have hreply : readDocketReply n.toNat 2 (s.heard h.port) = (s.heard h.port, .ok, docketPart2 d) := by
        simp only [readDocketReply, hd]
      refine hreply.trans ?_
      rw [docketPart2, hn]
      rfl
    · simp only [readDocketReply, hd]
      split <;> first | omega | rfl
  · refine exec_refused rfl hr ht ?_
    simp only [readDocketReply, State.heard_docket, hd]
  · have hcollection : (s.heard h.port).collection c.toNat = some q := by
      rcases hc with ⟨rfl, rfl⟩ | ⟨rfl, rfl⟩ | ⟨rfl, rfl⟩ | ⟨rfl, rfl⟩ | ⟨rfl, rfl⟩ | ⟨rfl, rfl⟩ | ⟨rfl, rfl⟩ | ⟨rfl, rfl⟩
      · rfl
      · rfl
      · rfl
      · rfl
      · rfl
      · exact congrArg some (s.numbersIn_eq .held)
      · exact congrArg some (s.numbersIn_eq .done)
      · exact congrArg some (s.numbersIn_eq .scrapped)
    exact exec_answers rfl hr ht (listReply_taken hcollection hs)
  · exact exec_refused rfl hr ht (listReply_range hbad)

/-! ## LINE_CLEAR (R26 to R28, R74) -/

theorem State.heard_lineClear (s : State) (p : Port) : (s.heard p).lineClear = s.lineClear.heard p := by
  cases p <;> rfl

theorem Channel.lineClear_eq (c : Channel) : c.lineClear = if c.state = .idle ∨ c.state = .fault then c else
    { c with
      state := .idle, permit := false, latched := none, run := none, target := none, accumulator := 0, prediction := 0
      overtime := none, elapsed := 0, lastEnd := .none, idleCount := 0, dimRaised := false, agedRaised := false
      inGrace := false, window := none, dimFrom := none, deadFrom := none, tailFrom := none } := by
  unfold Channel.lineClear
  split
  · rename_i h; rw [if_pos (.inl h)]
  · rename_i h; rw [if_pos (.inr h)]
  · rename_i h1 h2
    rw [if_neg fun h => h.elim h1 h2]

theorem Drawer.lineClear_eq (d : Drawer) : d.lineClear = if d = .out then .out else .empty := by
  cases d <;> rfl

/-- Settles O36. -/
theorem lineClearEmptiesTheLine : Obligations.LineClearEmptiesTheLine := by
  unfold Obligations.LineClearEmptiesTheLine
  intro h s hr
  refine ⟨s.lineClear, exec_answers_of_ne rfl hr (by decide) ?_, fun i => ?_, fun u => ?_, fun i => ?_, fun c => ?_,
    fun p => ⟨?_, fun k => ?_⟩, rfl⟩
  · rw [lineClearReply, State.heard_lineClear, ← State.liveDockets_length]
    rfl
  · simp [State.lineClear]
  · cases u <;> rfl
  · simp [State.lineClear, Drawer.lineClear_eq]
  · rw [← Channel.lineClear_eq]
    cases c <;> rfl
  · cases p <;> rfl
  · have hport : (s.lineClear.port p).notices = Vector.replicate 17 none := by cases p <;> rfl
    rw [hport]
    simp

end Sys2Proof.Machine
end

section
/-! SUPPORT. SET_SETTING, READ_SETTING, STORE and the requests on channels (R34 to R43, R47, R71 to R73). -/

namespace Sys2Proof.Machine

/-! ## The silence of ports, beside the port that was heard (R182) -/

section
variable (s : State)

theorem State.heard_flagBeltStopped (p : Port) : (s.heard p).flagBeltStopped = s.flagBeltStopped.heard p := by
  unfold State.flagBeltStopped
  rw [State.heard_belt]
  generalize s.belt = l
  induction l generalizing s with
  | nil => rfl
  | cons r l ih => rw [List.foldl_cons, List.foldl_cons, State.heard_updateDocket, ih]

/-- R116: a frame from another port than W does not bear on the permit. -/
theorem State.heard_updatePermit {p : Port} (hp : p ≠ .W) : (s.heard p).updatePermit = s.updatePermit.heard p := by
  have hset (b : Bool) : (s.heard p).setTpm b = (s.setTpm b).heard p := by
    simp [State.heard, State.setTpm, hp, State.port]
  have hperm : (s.heard p).permitted = s.permitted := by
    refine State.permitted_congr rfl ?_ rfl
    cases p <;> first | rfl | contradiction
  have htpm : (s.heard p).tpm = s.tpm := if_neg hp
  unfold State.updatePermit
  rw [hperm, htpm, hset, hset, State.heard_flagBeltStopped]
  split
  · rfl
  · split <;> rfl

theorem State.heard_raiseSilent (p q : Port) : (s.heard p).raiseSilent q = (s.raiseSilent q).heard p := by
  unfold State.raiseSilent
  generalize allPorts.filter (fun x => decide (x ≠ q)) = l
  induction l generalizing s with
  | nil => rfl
  | cons x l ih => rw [List.foldl_cons, List.foldl_cons, State.heard_raise, ih]

theorem State.heard_toldLost {p q : Port} (h : q ≠ p) : (s.heard p).toldLost q = (s.toldLost q).heard p := by
  have hset : (s.heard p).setPort q { (s.heard p).port q with state := .lost } =
      (s.setPort q { s.port q with state := .lost }).heard p := by
    cases p <;> cases q <;> first | contradiction | rfl
  rw [State.toldLost, hset, State.heard_raiseSilent, State.toldLost]

theorem State.heard_enterLost {p q : Port} (hp : p ≠ .W) (h : q ≠ p) : (s.heard p).enterLost q = (s.enterLost q).heard p := by
  have htold := s.heard_toldLost h
  cases q with
  | E => exact htold
  | A => exact (congrArg (State.abortUnit · .A .stationLost) htold).trans (State.heard_abortUnit _ _ _ _)
  | B => exact (congrArg (State.abortUnit · .B .stationLost) htold).trans (State.heard_abortUnit _ _ _ _)
  | F => exact (congrArg (State.abortFinisher · .stationLost) htold).trans (State.heard_abortFinisher _ _ _)
  | W => exact (congrArg State.updatePermit htold).trans (State.heard_updatePermit _ hp)

/-- R182: the entry into LOST writes the port's state; the rest it does to ports is raises. -/
theorem State.enterLost_raised (q : Port) : RaisedOnly (s.setPort q { s.port q with state := .lost }) (s.enterLost q) := by
  have htold := State.raiseSilent_raisedOnly (s.setPort q { s.port q with state := .lost }) q
  cases q with
  | E => exact htold
  | A => exact htold.trans (State.abortUnit_raisedOnly _ _ _)
  | B => exact htold.trans (State.abortUnit_raisedOnly _ _ _)
  | F => exact htold.trans (State.abortFinisher_raisedOnly _ _)
  | W => exact htold.thenSame (State.updatePermit_frame _).2.2.2.2.1 (by simp)

theorem State.enterLost_port_kept {p q : Port} (h : p ≠ q) :
    ((s.enterLost q).port p).state = (s.port p).state ∧ ((s.enterLost q).port p).lastHeard = (s.port p).lastHeard := by
  have hkept := (s.enterLost_raised q).kept p
  rw [State.setPort_port, if_neg h] at hkept
  rw [hkept]
  exact ⟨rfl, rfl⟩

theorem State.enterLost_port_self (q : Port) : ((s.enterLost q).port q).state = .lost := by
  rw [(s.enterLost_raised q).portState, State.setPort_port, if_pos rfl]

/-- R182: what the check of SILENCE_LIMIT does at one port. -/
def State.checkPort (s : State) (p : Port) : State :=
  match (s.port p).state, (s.port p).lastHeard with
  | .online, some h => if s.working.line.silenceLimit * 1000 ≤ since h s.now then s.enterLost p else s
  | _, _ => s

theorem State.checkSilence_eq : s.checkSilence = (arrange (Config.turn s.now) allPorts).foldl State.checkPort s := rfl

end

theorem since_self (n : Nat) : since n n = 0 := by
  rw [since, Nat.add_sub_cancel_left, Nat.mod_self]

/-- A port that was heard at this moment is not silent. -/
theorem State.checkPort_now {s : State} {p : Port} (hl : (s.port p).lastHeard = some s.now)
    (hlim : 1 ≤ s.working.line.silenceLimit) : s.checkPort p = s := by
  unfold State.checkPort
  split
  · rename_i h _ hh
    obtain rfl : s.now = h := Option.some.inj (hl.symm.trans hh)
    rw [if_neg (by rw [since_self]; omega)]
  · rfl

theorem State.checkPort_cases (s : State) (p : Port) : s.checkPort p = s ∨ s.checkPort p = s.enterLost p := by
  unfold State.checkPort
  split
  · split
    · exact .inr rfl
    · exact .inl rfl
  · exact .inl rfl

theorem State.checkPort_frame (s : State) (p : Port) :
    (s.checkPort p).now = s.now ∧ (s.checkPort p).working = s.working := by
  obtain h | h := s.checkPort_cases p <;> rw [h]
  · exact ⟨rfl, rfl⟩
  · simp

theorem State.heard_checkPort (s : State) {p q : Port} (hp : p ≠ .W) (h : q ≠ p) :
    (s.heard p).checkPort q = (s.checkPort q).heard p := by
  have hport : (s.heard p).port q = s.port q := by
    rw [State.heard, State.port, PerPort.get_set, if_neg h]
    rfl
  unfold State.checkPort
  rw [hport, State.heard_enterLost s hp h, State.heard_working, State.heard_now]
  split
  · split <;> rfl
  · rfl

/-- R182: a port that was heard at this moment stays as it was heard through the check of all ports. -/
theorem State.heard_checkSilence {s : State} {p : Port} (hp : p ≠ .W) (hl : (s.port p).lastHeard = some s.now)
    (hlim : 1 ≤ s.working.line.silenceLimit) : (s.heard p).checkSilence = s.checkSilence.heard p := by
  rw [State.checkSilence_eq, State.checkSilence_eq, State.heard_now]
  generalize arrange (Config.turn s.now) allPorts = l
  induction l generalizing s with
  | nil => rfl
  | cons q l ih =>
    rw [List.foldl_cons, List.foldl_cons]
    by_cases hq : q = p
    · subst hq
      have hself : ((s.heard q).port q).lastHeard = some (s.heard q).now := by rw [s.heard_port_self]; rfl
      rw [State.checkPort_now hself hlim, State.checkPort_now hl hlim]
      exact ih hl hlim
    · rw [State.heard_checkPort s hp hq]
      obtain ⟨hnow, hworking⟩ := s.checkPort_frame q
      refine ih ?_ (by rw [hworking]; exact hlim)
      rw [hnow]
      obtain h | h := s.checkPort_cases q <;> rw [h]
      · exact hl
      · rw [(s.enterLost_port_kept (Ne.symm hq)).2]
        exact hl

/-! ## The hand-off of a line item (R36) -/

theorem setSettingReply_line {s : State} {item channel value : Nat} {i : LineItem} (hi : lineItemOfCode item = some i)
    (hj : s.store.job = none) :
    setSettingReply item channel value s = (s.setLineItem i (lineTaken s.working.line i value), .ok,
      [fCode item, fCode channel, .num .value (lineTaken s.working.line i value)]) := by
  simp [setSettingReply, hi, hj]

theorem setSettingReply_line_busy {s : State} {item channel value : Nat} {i : LineItem}
    (hi : lineItemOfCode item = some i) (hj : s.store.job ≠ none) :
    setSettingReply item channel value s = refuse s .busy := by
  simp [setSettingReply, hi, Option.isSome_iff_ne_none.mpr hj]

theorem readSettingReply_line (s : State) {item channel : Nat} {i : LineItem} (hi : lineItemOfCode item = some i) :
    readSettingReply item channel s =
      (s, .ok, [fCode item, fCode channel, .num .value (s.working.line.get i)]) := by
  simp [readSettingReply, hi]

/-- R36: the state after the block that owns it was handed the item. -/
def State.handedOff (s : State) (p : Port) (i : LineItem) : State :=
  match i with
  | .silenceLimit => (s.setPort p { s.port p with state := .online, lastHeard := some s.now }).checkSilence
  | i => s.handOff i

theorem State.heard_again (s : State) (p : Port) :
    (s.setPort p { s.port p with state := .online, lastHeard := some s.now }).heard p = s.heard p := by
  simp [State.heard, State.setPort, State.port, PerPort.set_set]

theorem State.heard_handOff (s : State) {p : Port} (hp : p ≠ .W) (i : LineItem)
    (hlim : i = .silenceLimit → 1 ≤ s.working.line.silenceLimit) : (s.heard p).handOff i = (s.handedOff p i).heard p := by
  cases i with
  | drawers => exact s.heard_assignDrawers p
  | loadWarn => exact s.heard_recomputeBath p s.bath
  | loadStop => exact s.heard_recomputeBath p s.bath
  | bathVolMin => exact s.heard_recomputeBath p s.bath
  | transportFailsafe => exact s.heard_updatePermit hp
  | silenceLimit =>
    show (s.heard p).checkSilence = _
    rw [← s.heard_again p]
    exact State.heard_checkSilence hp (by rw [State.setPort_port, if_pos rfl]; rfl) (hlim rfl)
  | _ => rfl

/-- R34, R36: SET_SETTING of a line item that is taken. -/
theorem exec_setSetting_line {h : Hdr} {s : State} {item channel : BitVec 8} {value : BitVec 32} {i : LineItem}
    (hr : Reaches .setSetting 0 h s) (ht : TransportAgrees s) (hi : lineItemOfCode item.toNat = some i)
    (hj : s.store.job = none) {v : Nat} (hv : v = lineTaken s.working.line i value.toNat) {t : State}
    (hs : t = s.setWorking { s.working with line := s.working.line.set i v }) :
    exec (.setSetting h item channel value) s = .next (replied (t.handedOff h.port i) h.port .setSetting .ok
      [fCode item.toNat, fCode channel.toNat, .num .value v]) := by
  have hport : h.port ≠ .W := by rw [Reaches.settings_port (.inl hr)]; decide
  have hline : t.working.line = s.working.line.set i v := by rw [hs, State.setWorking_working]
  have hlim : i = .silenceLimit → 1 ≤ t.working.line.silenceLimit := by
    rintro rfl
    rw [hline, hv]
    exact Nat.le_max_left 1 _
  have hset : (s.heard h.port).setWorking { s.working with line := s.working.line.set i v } = t.heard h.port := by
    rw [hs, State.heard_setWorking]
  have hitem : (s.heard h.port).setLineItem i v = (t.handedOff h.port i).heard h.port := by
    rw [← State.heard_handOff t hport i hlim, ← hset, State.setLineItem, State.heard_working]
  refine exec_answers rfl hr ht ((setSettingReply_line (s := s.heard h.port) hi hj).trans ?_)
  rw [State.heard_working, ← hv, hitem]

/-- Settles O38. -/
theorem lineSettingRequests : Obligations.LineSettingRequests := by
  unfold Obligations.LineSettingRequests
  intro h s item channel value i ht hi
  refine ⟨fun hr hj => ?_, fun hr hj => exec_refused rfl hr ht (setSettingReply_line_busy hi hj),
    fun hr => exec_answers rfl hr ht (readSettingReply_line _ hi)⟩
  obtain ⟨v, hv⟩ : ∃ v, v = lineTaken s.working.line i value.toNat := ⟨_, rfl⟩
  obtain ⟨t, hs⟩ : ∃ t : State, t = s.setWorking { s.working with line := s.working.line.set i v } := ⟨_, rfl⟩
  have hports : t.ports = s.ports ∧ t.now = s.now ∧ t.bath = s.bath := by rw [hs]; exact ⟨rfl, rfl, rfl⟩
  obtain ⟨hp, hn, hb⟩ := hports
  refine ⟨v, s.working.line.set i v, t, by rw [hv]; cases i <;> rfl, fun j => LineSettings.get_set _ _ _ _, hs, ?_⟩
  rw [exec_setSetting_line hr ht hi hj hv hs, ← State.ports_port hp, ← hn, ← hb]
  cases i <;> rfl

/-! ## Channel items and codes outside the tables (R37) -/

theorem lineItemOfCode_of_chanItem {n : Nat} {i : ChanItem} (h : chanItemOfCode n = some i) : lineItemOfCode n = none := by
  unfold chanItemOfCode at h
  split at h <;> first | rfl | contradiction

theorem channelOfCode_none {n : Nat} (h : 5 < n) : channelOfCode n = none := by
  obtain ⟨m, rfl⟩ := Nat.exists_eq_add_of_lt h
  rw [show 5 + m + 1 = m + 6 by omega]; rfl

/-- Settles O39. -/
theorem channelSettingRequests : Obligations.ChannelSettingRequests := by
  unfold Obligations.ChannelSettingRequests
  intro h s item channel value ht
  refine ⟨fun i ch hi hch => ?_, fun hline hbad => ?_⟩
  · have hline := lineItemOfCode_of_chanItem hi
    refine ⟨fun hr hj => ⟨chanTaken i value.toNat, (s.working.channels.get ch).set i (chanTaken i value.toNat), rfl,
      fun j => ChanSettings.get_set _ _ _ _, exec_answers rfl hr ht ?_⟩, fun hr hj => exec_refused rfl hr ht ?_,
      fun hr => exec_answers rfl hr ht ?_⟩
    · simp only [setSettingReply, hline, hi, hch, State.heard_store, hj, Option.isSome_none, Bool.false_eq_true, if_false]
      rfl
    · simp only [setSettingReply, hline, hi, hch, State.heard_store, Option.isSome_iff_ne_none.mpr hj, if_true]
    · simp only [readSettingReply, hline, hi, hch]
      rfl
  · have hnone : chanItemOfCode item.toNat = none ∨ channelOfCode channel.toNat = none :=
      hbad.imp_right channelOfCode_none
    refine ⟨fun hr => exec_refused rfl hr ht ?_, fun hr => exec_refused rfl hr ht ?_⟩
    · unfold setSettingReply
      split
      · rename_i hi; rw [hline] at hi; contradiction
      · rename_i hi hch
        obtain hnone | hnone := hnone
        · rw [hnone] at hi; contradiction
        · rw [hnone] at hch; contradiction
      · rfl
    · unfold readSettingReply
      split
      · rename_i hi; rw [hline] at hi; contradiction
      · rename_i hi hch
        obtain hnone | hnone := hnone
        · rw [hnone] at hi; contradiction
        · rw [hnone] at hch; contradiction
      · rfl

/-! ## STORE (R41 to R43, R47) -/

theorem storeReply_busy {s : State} (hj : s.store.job ≠ none) : storeReply true s = refuse s .busy := by
  simp [storeReply, Option.isSome_iff_ne_none.mpr hj]

theorem storeReply_worn {s : State} (hj : s.store.job = none) (hw : 20000 ≤ s.store.wear) :
    storeReply true s = refuse s .worn := by
  simp [storeReply, hj, Config.wearMax, hw]

theorem storeReply_taken {s : State} (hj : s.store.job = none) (hw : s.store.wear < 20000) :
    storeReply true s = (s.setStore { s.store with job := some { contents := s.working, takenAt := s.now } }, .ok,
      [.num .figure (s.store.wear + 1)]) := by
  simp [storeReply, hj, Config.wearMax, Nat.not_le.mpr hw]

/-- Settles O40. -/
theorem storeWritesTheWorkingCopy : Obligations.StoreWritesTheWorkingCopy := by
  unfold Obligations.StoreWritesTheWorkingCopy
  intro h s ht
  refine ⟨fun hr => ⟨exec_refused rfl hr ht rfl, fun hj => exec_refused rfl hr ht (storeReply_busy hj),
    fun hj hw => exec_refused rfl hr ht (storeReply_worn hj hw),
    fun hj hw => exec_answers rfl hr ht (storeReply_taken hj hw)⟩, fun j v wear hj hv hw => ?_,
    fun hr => exec_answers rfl hr ht ?_⟩
  · have hstore : v.store = s.store := by rw [hv]; simp
    have hexec : exec .storeComplete s = .next ((v.setStore (v.store.completed j.contents v.seconds)).raise .E .storeResult none) := by
      show execStoreComplete s = _
      rw [execStoreComplete, hj, hv]
      rfl
    rw [hexec, hstore, Store.completed, hw]
    rfl
  · rw [storeInfoReply, State.heard_store]
    cases s.store.job <;> rfl

/-! ## Requests on channels (R71 to R73) -/

section
variable {s : State} {p : Port} {code : Nat} {ch : ChannelId} (hch : channelOfCode code = some ch)
include hch

theorem clearChannelReply_eq : clearChannelReply p code s =
    if channelPort ch ≠ p then refuse s .notPermitted
    else if (s.chan ch).state ≠ .fault then refuse s .wrongState
    else if (s.chan ch).recentPulse s.now then refuse s .channelFault
    else (s.setChan ch { s.chan ch with state := .idle, idleCount := 0, permit := false }, .ok,
      [fCode code, .num .figure (s.chan ch).stray]) := by
  simp only [clearChannelReply, hch]

theorem lampRefReply_eq {form value : Nat} (hf : form = 0 ∨ form = 1) : lampRefReply p code form value s =
    if channelPort ch ≠ p then refuse s .notPermitted
    else if s.store.job.isSome then refuse s .busy
    else if form = 0 then s.setLampRef ch value
    else
      match (s.chan ch).irradiance with
      | none => refuse s .wrongState
      | some e => s.setLampRef ch e := by
  simp only [lampRefReply, hch]
  rw [if_neg (by omega)] <;> rfl

theorem channelCode_of_code : channelCode ch = code := by
  unfold channelOfCode at hch
  split at hch <;> first | (cases hch; rfl) | contradiction

end

theorem lampRefReply_range {s : State} {p : Port} {code form value : Nat} (h : 5 < code ∨ (form ≠ 0 ∧ form ≠ 1)) :
    lampRefReply p code form value s = refuse s .range := by
  unfold lampRefReply
  split
  · rfl
  · rename_i hch
    rw [if_pos]
    refine h.resolve_left fun hbad => ?_
    rw [channelOfCode_none hbad] at hch
    contradiction

/-- R73: EXPOSING, the time of the run so far; else the time it took. -/
theorem Channel.elapsedNow_eq (c : Channel) (now : Nat) : c.elapsedNow now =
    if c.state = .exposing then min 65535 (since c.startedAt now / 100) else c.elapsed := by
  unfold Channel.elapsedNow
  split
  · rename_i h
    rw [if_pos h]
    rfl
  · rename_i h
    rw [if_neg h]

theorem Channel.recentPulse_true {c : Channel} {t now : Nat} (ht : c.lastPulse = some t) (h : since t now < 5000) :
    c.recentPulse now = true := by
  simp [Channel.recentPulse, ht, Config.quietMs, h]

theorem Channel.recentPulse_false {c : Channel} {now : Nat} (h : ∀ t, c.lastPulse = some t → 5000 ≤ since t now) :
    c.recentPulse now = false := by
  unfold Channel.recentPulse
  split
  · rename_i t ht
    exact decide_eq_false (Nat.not_lt.mpr (h t ht))
  · rfl

theorem State.heard_setLampRef (s : State) (p : Port) (ch : ChannelId) (v : Nat) :
    (s.heard p).setLampRef ch v = ((s.setLampRef ch v).1.heard p, (s.setLampRef ch v).2) := rfl

/-- R72: what a SET_LAMP_REF that is taken replaces and answers. -/
theorem State.setLampRef_eq (s : State) (ch : ChannelId) (v : Nat) : s.setLampRef ch v =
    ({ s with working := { s.working with
        channels := s.working.channels.set ch { s.working.channels.get ch with eRef := min 999999 v } } }, .ok,
      [.num .code (channelCode ch), .num .irradiance (min 999999 v)]) := by
  have htaken : chanTaken .eRef v = min 999999 v := by simp [chanTaken, chanRange, clamp]
  rw [State.setLampRef, htaken]
  rfl

/-- Settles O42. -/
theorem channelRequests : Obligations.ChannelRequests := by
  unfold Obligations.ChannelRequests
  intro h s code form value ht
  refine ⟨fun ch c hr hch hc => ⟨fun hp => ?_, fun hp hf => ?_, fun t hp hf hl hq => ?_, fun hp hf hq => ?_⟩,
    fun ch c hr hch hc => ⟨fun hp => ⟨?_, ?_⟩, fun hp hj => ⟨?_, ?_⟩, fun hp hj => ⟨?_, fun he => ?_, fun e he => ?_⟩⟩,
    fun ch c hr hch hc => ?_, fun hr hbad => ?_, fun hr hbad => ?_, fun hr hbad => ?_⟩
  · exact exec_refused rfl hr ht ((clearChannelReply_eq hch).trans (if_pos hp))
  · subst hc
    refine exec_refused rfl hr ht ((clearChannelReply_eq hch).trans ?_)
    rw [if_neg (Decidable.not_not.mpr hp), if_pos (by exact hf)]
  · subst hc
    refine exec_refused rfl hr ht ((clearChannelReply_eq hch).trans ?_)
    rw [if_neg (Decidable.not_not.mpr hp), if_neg (Decidable.not_not.mpr (by exact hf)), State.heard_chan, State.heard_now,
      if_pos (Channel.recentPulse_true hl hq)]
  · subst hc
    refine exec_answers rfl hr ht ((clearChannelReply_eq hch).trans ?_)
    rw [if_neg (Decidable.not_not.mpr hp), if_neg (Decidable.not_not.mpr (by exact hf)), State.heard_chan, State.heard_now,
      Channel.recentPulse_false hq]
    rfl
  · exact exec_refused rfl hr ht ((lampRefReply_eq hch (.inl rfl)).trans (if_pos hp))
  · exact exec_refused rfl hr ht ((lampRefReply_eq hch (.inr rfl)).trans (if_pos hp))
  · refine exec_refused rfl hr ht ((lampRefReply_eq hch (.inl rfl)).trans ?_)
    rw [if_neg (Decidable.not_not.mpr hp), State.heard_store, if_pos (Option.isSome_iff_ne_none.mpr hj)]
  · refine exec_refused rfl hr ht ((lampRefReply_eq hch (.inr rfl)).trans ?_)
    rw [if_neg (Decidable.not_not.mpr hp), State.heard_store, if_pos (Option.isSome_iff_ne_none.mpr hj)]
  · refine exec_answers rfl hr ht ((lampRefReply_eq hch (.inl rfl)).trans ?_)
    rw [if_neg (Decidable.not_not.mpr hp), State.heard_store, hj, if_neg (by decide), if_pos rfl, State.heard_setLampRef,
      State.setLampRef_eq, channelCode_of_code hch]
  · subst hc
    refine exec_refused rfl hr ht ((lampRefReply_eq hch (.inr rfl)).trans ?_)
    rw [if_neg (Decidable.not_not.mpr hp), State.heard_store, hj, if_neg (by decide), if_neg (by decide), State.heard_chan, he]
  · subst hc
    refine exec_answers rfl hr ht ((lampRefReply_eq hch (.inr rfl)).trans ?_)
    rw [if_neg (Decidable.not_not.mpr hp), State.heard_store, hj, if_neg (by decide), if_neg (by decide), State.heard_chan, he]
    dsimp only
    rw [State.heard_setLampRef, State.setLampRef_eq, channelCode_of_code hch]
  · subst hc
    refine exec_answers rfl hr ht ?_
    simp only [readChannelReply, hch, State.heard_chan, State.heard_now, Channel.elapsedNow_eq, fCode]
  · refine exec_refused rfl hr ht ?_
    simp only [clearChannelReply, channelOfCode_none hbad]
  · refine exec_refused rfl hr ht (lampRefReply_range (hbad.imp_right fun ⟨h0, h1⟩ => ⟨?_, ?_⟩))
    · exact fun hf => h0 (BitVec.eq_of_toNat_eq hf)
    · exact fun hf => h1 (BitVec.eq_of_toNat_eq hf)
  · refine exec_refused rfl hr ht ?_
    simp only [readChannelReply, channelOfCode_none hbad]

end Sys2Proof.Machine
end

section
/-! SUPPORT. RECALL and what it hands on (R46, R36, R39). -/

namespace Sys2Proof.Machine

/-! ## What a stage of the hand-off leaves -/

theorem State.ite_keeps {α : Type} (f : State → α) {c : Prop} [Decidable c] {a b : State} (h : f b = f a) :
    f (if c then a else b) = f a := by
  split
  · rfl
  · exact h

theorem State.ite_raisedOnly {c : Prop} [Decidable c] {a b : State} (h : RaisedOnly a b) :
    RaisedOnly a (if c then a else b) := by
  split
  · exact .refl a
  · exact h

/-! ## The silence that a lower SILENCE_LIMIT finds (R36, R182) -/

/-- Port `p` was last heard at `x`, and is LOST or due to be. -/
def LostOrDue (s : State) (p : Port) (x : Nat) : Prop :=
  (s.port p).state = .lost ∨ ((s.port p).state = .online ∧ (s.port p).lastHeard = some x ∧
    s.working.line.silenceLimit * 1000 ≤ since x s.now)

theorem State.checkPort_self {s : State} {p : Port} {x : Nat} (h : LostOrDue s p x) :
    ((s.checkPort p).port p).state = .lost := by
  unfold State.checkPort
  obtain hl | ⟨ho, hx, hdue⟩ := h
  · rw [hl]; exact hl
  · rw [ho, hx]
    dsimp only
    rw [if_pos hdue, State.enterLost_port_self]

theorem State.checkPort_other (s : State) {p q : Port} (h : p ≠ q) :
    ((s.checkPort q).port p).state = (s.port p).state ∧ ((s.checkPort q).port p).lastHeard = (s.port p).lastHeard := by
  obtain e | e := s.checkPort_cases q <;> rw [e]
  · exact ⟨rfl, rfl⟩
  · exact s.enterLost_port_kept h

theorem LostOrDue.checkPort {s : State} {p : Port} {x : Nat} (h : LostOrDue s p x) (q : Port) :
    LostOrDue (s.checkPort q) p x := by
  by_cases hq : p = q
  · subst hq
    exact .inl (State.checkPort_self h)
  · obtain ⟨hs, hl⟩ := s.checkPort_other hq
    obtain ⟨hn, hw⟩ := s.checkPort_frame q
    rw [LostOrDue, hs, hl, hn, hw]
    exact h

theorem LostOrDue.checkPorts {s : State} {p : Port} {x : Nat} (h : LostOrDue s p x) {l : List Port} (hp : p ∈ l) :
    ((l.foldl State.checkPort s).port p).state = .lost := by
  induction l generalizing s with
  | nil => exact absurd hp List.not_mem_nil
  | cons q l ih =>
    rw [List.foldl_cons]
    by_cases hl : p ∈ l
    · exact ih (h.checkPort q) hl
    · obtain rfl : p = q := by simpa [hl] using hp
      have hlost := State.checkPort_self h
      clear hp ih h
      generalize s.checkPort p = t at hlost
      induction l generalizing t with
      | nil => exact hlost
      | cons r l ih =>
        rw [List.foldl_cons]
        refine ih (fun hm => hl (List.mem_cons_of_mem r hm)) _ ?_
        rw [(t.checkPort_other fun e => hl (List.mem_cons.mpr (.inl e))).1]
        exact hlost

theorem mem_arrange_allPorts (k : Nat) (p : Port) : p ∈ arrange k allPorts := by
  rw [mem_arrange]
  cases p <;> decide

theorem LostOrDue.checkSilence {s : State} {p : Port} {x : Nat} (h : LostOrDue s p x) :
    (s.checkSilence.port p).state = .lost := by
  rw [State.checkSilence_eq]
  exact h.checkPorts (mem_arrange_allPorts _ p)

theorem State.evaluateAll_portState (s : State) (p : Port) : (s.evaluateAll.port p).state = (s.port p).state := by
  show ((s.ports.map fun r : PortRecord => r.evaluate s.working.levels).get p).state = _
  rw [PerPort.get_map]
  rfl

/-! ## The answer leaves what was handed on -/

section
variable {t : State} (p : Port) (r : Request) (c : ResultCode) (fs : List Field)

theorem answeredWith_portState (t : State) (q : Port) : ((answeredWith t p r c fs).port q).state = (t.port q).state := by
  rw [answeredWith_port]
  split
  · rename_i h; rw [h]
  · rfl

theorem TransportAgrees.answered (h : TransportAgrees t) : TransportAgrees (answeredWith t p r c fs) :=
  Eq.trans h (State.permitted_congr (s := t) (t := answeredWith t p r c fs) rfl (answeredWith_portState p r c fs t .W) rfl).symm

theorem AttentionAgrees.answered (h : AttentionAgrees t) : AttentionAgrees (answeredWith t p r c fs) := by
  intro q
  rw [answeredWith_port]
  split
  · rename_i e; subst e; exact h q
  · exact h q

end

/-! ## The stages of the hand-off (R46) -/

section
variable {w : WorkingCopy} {s v t1 t2 t3 t4 t5 : State} (hv : v.working = w)
  (h1 : t1 = if w.line.drawers = s.working.line.drawers then v else v.assignDrawers)
  (h2 : t2 = if w.line.loadWarn = s.working.line.loadWarn ∧ w.line.loadStop = s.working.line.loadStop ∧
    w.line.bathVolMin = s.working.line.bathVolMin then t1 else t1.recomputeBath s.bath)
  (h3 : t3 = if w.line.transportHold = s.working.line.transportHold then t2 else t2.updatePermit)
  (h4 : t4 = if w.line.silenceLimit = s.working.line.silenceLimit then t3 else t3.checkSilence)
  (h5 : t5 = if w.levels = s.working.levels then t4 else t4.evaluateAll)

include hv h1 in
theorem recall_drawers_working : t1.working = w := by
  rw [h1, State.ite_keeps State.working (by simp), hv]

include hv h1 h2 in
theorem recall_bath_working : t2.working = w := by
  rw [h2, State.ite_keeps State.working (by simp), recall_drawers_working hv h1]

include hv h1 h2 h3 in
theorem recall_permit_working : t3.working = w := by
  rw [h3, State.ite_keeps State.working (by simp), recall_bath_working hv h1 h2]

include hv h1 h2 h3 h4 in
theorem recall_silence_working : t4.working = w := by
  rw [h4, State.ite_keeps State.working (by simp), recall_permit_working hv h1 h2 h3]

include h4 h5 in
theorem recall_last_frame : t5.bath = t3.bath ∧ t5.drawers = t3.drawers ∧ t5.dryQueue = t3.dryQueue ∧
    t5.working = t3.working := by
  refine ⟨?_, ?_, ?_, ?_⟩
  · rw [h5, State.ite_keeps State.bath (by simp), h4, State.ite_keeps State.bath (by simp)]
  · rw [h5, State.ite_keeps State.drawers (by simp), h4, State.ite_keeps State.drawers (by simp)]
  · rw [h5, State.ite_keeps State.dryQueue (by simp), h4, State.ite_keeps State.dryQueue (by simp)]
  · rw [h5, State.ite_keeps State.working (by simp), h4, State.ite_keeps State.working (by simp)]

include h1 h2 h3 h4 h5 in
theorem recall_drawers (hd : w.line.drawers ≠ s.working.line.drawers) : DrawersGiven t5 := by
  obtain ⟨-, hdrawers, hqueue, hworking⟩ := recall_last_frame h4 h5
  rw [if_neg hd] at h1
  have hgiven : DrawersGiven t1 := h1 ▸ v.assignDrawers_given
  refine hgiven.congr ?_ ?_ ?_
  · rw [hdrawers, h3, State.ite_keeps State.drawers (by simp), h2, State.ite_keeps State.drawers (by simp)]
  · rw [hworking, h3, State.ite_keeps State.working (by simp), h2, State.ite_keeps State.working (by simp)]
  · rw [hqueue, h3, State.ite_keeps State.dryQueue (by simp), h2, State.ite_keeps State.dryQueue (by simp)]

/-- R122: what a change of a threshold leaves of the account. -/
theorem State.recomputeBath_own (s : State) (b : Bath) (hb : s.bath = b) :
    (s.recomputeBath b).bath =
      { b with condition := if b.condition = .unknown then .unknown else b.judged s.working.line } := by
  rw [State.recomputeBath, hb]
  split
  · rename_i h
    simp only [← h]
    rfl
  · simp [State.judgeBath_bath]

include hv h1 h2 h3 h4 h5 in
theorem recall_bath (hb : v.bath = s.bath) (hc : ¬ (w.line.loadWarn = s.working.line.loadWarn ∧
      w.line.loadStop = s.working.line.loadStop ∧ w.line.bathVolMin = s.working.line.bathVolMin)) :
    t5.bath = { s.bath with condition :=
      if s.bath.condition = .unknown then .unknown else s.bath.judged w.line } := by
  obtain ⟨hbath, -, -, -⟩ := recall_last_frame h4 h5
  have hb1 : t1.bath = s.bath := by rw [h1, State.ite_keeps State.bath (by simp), hb]
  rw [hbath, h3, State.ite_keeps State.bath (by simp), h2, if_neg hc, t1.recomputeBath_own _ hb1,
    recall_drawers_working hv h1]

include h3 h4 h5 in
theorem recall_permit (hc : w.line.transportHold ≠ s.working.line.transportHold) : TransportAgrees t5 := by
  have hp3 : TransportAgrees t3 := by rw [h3, if_neg hc]; exact State.updatePermit_transport _
  have hp4 : TransportAgrees t4 := by
    rw [h4]
    split
    · exact hp3
    · exact State.checkSilence_keeps (P := TransportAgrees) (fun _ q h => State.enterLost_transport h q) hp3
  rw [h5]
  split
  · exact hp4
  · exact hp4.trans (State.permitted_congr (s := t4) (t := t4.evaluateAll) rfl (t4.evaluateAll_portState .W) rfl).symm

include h1 h2 h3 h4 h5 in
theorem recall_silence (hc : w.line.silenceLimit ≠ s.working.line.silenceLimit) {p : Port} {x : Nat}
    (hd : LostOrDue v p x) : (t5.port p).state = .lost := by
  have hr1 : RaisedOnly v t1 := h1 ▸ State.ite_raisedOnly (State.assignDrawers_raisedOnly v)
  have hr2 : RaisedOnly t1 t2 := h2 ▸ State.ite_raisedOnly (State.recomputeBath_raisedOnly t1 s.bath)
  have hr3 : RaisedOnly t2 t3 :=
    h3 ▸ State.ite_raisedOnly (.same (State.updatePermit_frame t2).2.2.2.2.1 (by simp))
  have hr := (hr1.trans hr2).trans hr3
  have hnow : t3.now = v.now := by
    rw [h3, State.ite_keeps State.now (by simp), h2, State.ite_keeps State.now (by simp), h1,
      State.ite_keeps State.now (by simp)]
  have hd3 : LostOrDue t3 p x := by
    rw [LostOrDue, hr.kept p, hr.working, hnow]
    exact hd
  rw [h5, State.ite_keeps (fun t => (t.port p).state) (t4.evaluateAll_portState p), h4, if_neg hc]
  exact hd3.checkSilence

include h5 in
theorem recall_levels (hc : w.levels ≠ s.working.levels) : AttentionAgrees t5 := by
  rw [h5, if_neg hc]
  exact State.evaluateAll_attention t4

include hv h1 h2 h3 h4 h5 in
theorem handOnRecall_stages (hb : v.bath = s.bath) : v.handOnRecall s.working = t5 := by
  have hb1 : t1.bath = s.bath := by rw [h1, State.ite_keeps State.bath (by simp), hb]
  have hbath : (w.line.loadWarn ≠ s.working.line.loadWarn ∨ w.line.loadStop ≠ s.working.line.loadStop ∨
      w.line.bathVolMin ≠ s.working.line.bathVolMin) ↔ ¬ (w.line.loadWarn = s.working.line.loadWarn ∧
      w.line.loadStop = s.working.line.loadStop ∧ w.line.bathVolMin = s.working.line.bathVolMin) := by grind
  unfold State.handOnRecall
  simp only [hv, hbath, ne_eq, ite_not, ← h1, hb1, ← h2, ← h3, ← h4, ← h5]

end

/-! ## The obligation -/

theorem recallReply_busy {s : State} (hj : s.store.job ≠ none) : recallReply s = refuse s .busy := by
  rw [recallReply, if_pos (Option.isSome_iff_ne_none.mpr hj)]

/-- R46: the state that RECALL hands on from. -/
theorem recallReply_eq {s v : State} (hj : s.store.job = none)
    (hv : v = if s.store.image.goodBody = none then
        ((s.setWorking .factory).setStore { s.store with lastResult := .imageBad, resultTime := some s.seconds }).raise .E
          .storeResult none
      else s.setWorking (s.store.image.goodBody.getD .factory)) :
    recallReply s = (v.handOnRecall s.working, .ok, [.num .code (if s.store.image.goodBody = none then 2 else 1)]) := by
  rw [recallReply, hj, if_neg (by decide)]
  split
  · rename_i w hw
    rw [hv, hw]
    rfl
  · rename_i hw
    rw [hv, hw]
    rfl

/-- Settles O41. -/
theorem recallReadsTheImage : Obligations.RecallReadsTheImage := by
  unfold Obligations.RecallReadsTheImage
  intro h s hr
  have hport : h.port = .E := Reaches.settings_port (.inr hr)
  refine ⟨fun hj => exec_refused_of_ne rfl hr (by decide) (recallReply_busy hj), ?_⟩
  intro w u v t1 t2 t3 t4 t5 t hj hw hu hv h1 h2 h3 h4 h5 ht
  have hu' : u = (s.heard h.port).setWorking w := by
    rw [hu, State.heard, if_neg (by rw [hport]; decide)]
    rfl
  have hvw : v.working = w := by
    rw [hv, hu]
    split
    · simp
    · rfl
  have hvb : v.bath = s.bath := by
    rw [hv, hu]
    split
    · simp
    · rfl
  have hvr : RaisedOnly u v := by
    rw [hv]
    split
    · refine RaisedOnly.trans (t := { u with
        store := { s.store with lastResult := .imageBad, resultTime := some (s.now / 1000) } }) (.same rfl rfl) ?_
      exact State.raise_raisedOnly _ _ _ _
    · exact .refl u
  have hvn : v.now = s.now := by
    rw [hv, hu]
    split
    · simp
    · rfl
  have hbase : v = if s.store.image.goodBody = none then
        (((s.heard h.port).setWorking .factory).setStore
          { s.store with lastResult := .imageBad, resultTime := some s.seconds }).raise .E .storeResult none
      else (s.heard h.port).setWorking (s.store.image.goodBody.getD .factory) := by
    rw [hv, hu', hw]
    split
    · rename_i hnone
      rw [hnone]
      rfl
    · rfl
  subst ht
  refine ⟨?_, fun hc => ?_, fun hc => ?_, fun hc => ?_, fun hc p x hp ho hx hd => ?_, fun hc p => ?_⟩
  · rw [exec_recall, takeNamed_reaches hr, State.onlineEntry_heard_of_ne s (by rw [hport]; decide),
      recallReply_eq (s := s.heard h.port) (v := v) hj hbase, State.heard_working,
      handOnRecall_stages hvw h1 h2 h3 h4 h5 hvb]
    rfl
  · exact (recall_drawers h1 h2 h3 h4 h5 hc).congr rfl rfl rfl
  · show t5.bath = _
    exact recall_bath hvw h1 h2 h3 h4 h5 hvb (by grind)
  · exact (recall_permit h3 h4 h5 hc).answered _ _ _ _
  · rw [answeredWith_portState]
    refine recall_silence h1 h2 h3 h4 h5 hc (x := x) ?_
    have hup : u.port p = s.port p := by
      rw [hu, State.port, PerPort.get_set, if_neg hp]
      rfl
    rw [LostOrDue, hvr.kept p, hup, hvw, hvn]
    exact .inr ⟨ho, hx, hd⟩
  · obtain hatt := (recall_levels h5 hc).answered h.port .recall .ok
      [.num .code (if s.store.image.goodBody = none then 2 else 1)] p
    have hlast : t5.working = w :=
      (recall_last_frame h4 h5).2.2.2.trans (recall_permit_working hvw h1 h2 h3)
    rw [hatt]
    exact congrArg _ (congrArg WorkingCopy.levels hlast)

end Sys2Proof.Machine
end

section
/-! SUPPORT. The requests at the exposure units that claim, return and start a docket (R77 to R80, R89). -/

namespace Sys2Proof.Machine

/-! ## The unit of a port (R75) -/

section
variable {p : Port} {u : UnitId} (hp : p = unitPort u)
include hp

theorem onUnit_unitPort (owner : UnitId → State → Reply) (s : State) : onUnit p owner s = owner u s := by
  subst hp
  cases u <;> rfl

theorem onHolder_unitPort (owner : UnitId → State → Reply) (finisher : State → Reply) (s : State) :
    onHolder p owner finisher s = owner u s := by
  have hne : p ≠ .F := by rw [hp]; cases u <;> decide
  rw [onHolder, if_neg hne, onUnit_unitPort hp]

end

/-! ## A place in a pool (R10) -/

theorem insertByOrder_between {order : Nat → Nat} {before after : List Nat} {n : Nat}
    (hb : ∀ m ∈ before, order m ≤ order n) (ha : ∀ m ∈ after, order n < order m) :
    insertByOrder order (before ++ after) n = before ++ n :: after := by
  have hbefore : ∀ m ∈ before, decide (order m ≤ order n) = true := fun m hm => decide_eq_true (hb m hm)
  have htake : after.takeWhile (fun m => decide (order m ≤ order n)) = [] := by
    cases after with
    | nil => rfl
    | cons m l => exact List.takeWhile_cons_of_neg (by simpa using ha m List.mem_cons_self)
  have hdrop : after.dropWhile (fun m => decide (order m ≤ order n)) = after := by
    cases after with
    | nil => rfl
    | cons m l => exact List.dropWhile_cons_of_neg (by simpa using ha m List.mem_cons_self)
  rw [insertByOrder, List.takeWhile_append_of_pos hbefore, List.dropWhile_append_of_pos hbefore, htake, hdrop,
    List.append_nil]

theorem idxOf_between {before after : List Nat} {n : Nat} (h : n ∉ before ++ after) :
    (before ++ n :: after).idxOf n = before.length := by
  rw [List.idxOf_append, if_neg fun hm => h (List.mem_append_left after hm), List.idxOf_cons_self, Nat.zero_add]

theorem State.regOrderOf_of_docket {s : State} {n : Nat} {d : Docket} (hd : s.docket n = some d) :
    s.regOrderOf n = d.regOrder := by
  rw [State.regOrderOf, hd]

/-! ## CLAIM (R77) and RETURN (R89) -/

section
variable {s : State} {n : Nat} {u : UnitId} {d : Docket} (hd : s.docket n = some d)
include hd

theorem claimReply_taken (hu : s.unit u = .vacant) (hs : d.state = .registered) (hp : d.pref = none ∨ d.pref = some u)
    (hr : s.working.recipes[d.recipe].valid = true) : claimReply n u s =
      (((s.setExposurePool (s.exposurePool.filter fun m => m != n)).setUnit u (.loaded n)).updateDocket n fun y =>
          y.claimed u s.working.recipes[d.recipe].figures, .ok,
        [fDocket n, fCode (if s.working.recipes[d.recipe].figures.back = 0 then SubStage.mainReady else .backReady).code,
          .num .dose s.working.recipes[d.recipe].figures.back, .num .dose s.working.recipes[d.recipe].figures.main]) := by
  have hpref : ¬ (d.pref ≠ none ∧ d.pref ≠ some u) := by grind
  simp only [claimReply, hd]
  rw [if_neg (Decidable.not_not.mpr hu), if_neg (Decidable.not_not.mpr hs), if_neg hpref, if_neg (by rw [hr]; decide)]

theorem claimReply_badRecipe (hu : s.unit u = .vacant) (hs : d.state = .registered)
    (hp : ¬ (d.pref ≠ none ∧ d.pref ≠ some u)) (hr : s.working.recipes[d.recipe].valid = false) :
    claimReply n u s = refuse s .badRecipe := by
  simp only [claimReply, hd]
  rw [if_neg (Decidable.not_not.mpr hu), if_neg (Decidable.not_not.mpr hs), if_neg hp, if_pos hr]

theorem unitReturnReply_taken (hu : s.unit u = .loaded n) (hok : ¬ (d.sub = .mainReady ∧ d.backDose ≠ 0)) :
    unitReturnReply n u s =
      (((s.setUnit u .vacant).setExposurePool (insertByOrder s.regOrderOf s.exposurePool n)).updateDocket n fun y =>
          { y with state := .registered, sub := .none, snapshot := none, unit := none, backDelivered := none }, .ok,
        [fDocket n, fCode ((insertByOrder s.regOrderOf s.exposurePool n).idxOf n)]) := by
  simp only [unitReturnReply, hd]
  rw [if_neg (by simp [hu, UnitRecord.docket]), if_neg (by simp only [hu]; grind)]

theorem unitReturnReply_wrongState (hh : (s.unit u).docket = some n)
    (hbad : s.unit u ≠ .loaded n ∨ (d.sub = .mainReady ∧ d.backDose ≠ 0)) :
    unitReturnReply n u s = refuse s .wrongState := by
  simp only [unitReturnReply, hd]
  rw [if_neg (Decidable.not_not.mpr hh), if_pos hbad]

end

/-- Settles O43. -/
theorem claimAndReturn : Obligations.ClaimAndReturn := by
  unfold Obligations.ClaimAndReturn
  intro h s u n d hp hd
  refine ⟨fun hr => ⟨fun hu => ?_, fun hu hs => ?_, fun v hu hs hpr hv => ?_, fun hu hs hpr hv => ?_,
    fun x hu hs hpr hv hx => ?_⟩, fun hr => ⟨fun hu => ?_, fun hu hbad => ?_, fun x before after hu hx hok hq hn hb ha => ?_⟩⟩
  · exact exec_refused_of_ne rfl hr (by decide) ((onUnit_unitPort hp _ _).trans (if_pos hu))
  · exact exec_refused_of_ne rfl hr (by decide) ((onUnit_unitPort hp _ _).trans (by simp [claimReply, hu, hd, hs]))
  · exact exec_refused_of_ne rfl hr (by decide)
      ((onUnit_unitPort hp _ _).trans (by simp [claimReply, hu, hd, hs, hpr, hv]))
  · have hpref : ¬ (d.pref ≠ none ∧ d.pref ≠ some u) := by grind
    exact exec_refused_of_ne rfl hr (by decide) ((onUnit_unitPort hp _ _).trans
      (claimReply_badRecipe (s := s.heard h.port) hd hu hs hpref hv))
  · refine exec_answers_of_ne rfl hr (by decide) ((onUnit_unitPort hp _ _).trans
      ((claimReply_taken (s := s.heard h.port) hd hu hs hpr hv).trans ?_))
    subst hx
    rw [State.heard_working, State.heard_exposurePool, State.heard_setExposurePool, State.heard_setUnit,
      State.heard_updateDocket]
    have hcode : (if s.working.recipes[d.recipe].figures.back = 0 then SubStage.mainReady else .backReady).code =
        if s.working.recipes[d.recipe].figures.back = 0 then 3 else 1 := by split <;> rfl
    rw [hcode]
    rfl
  · refine exec_refused_of_ne rfl hr (by decide) ((onHolder_unitPort hp _ _ _).trans ?_)
    simp [unitReturnReply, hd, hu]
  · have hbad' : s.unit u ≠ .loaded n.toNat ∨ (d.sub = .mainReady ∧ d.backDose ≠ 0) :=
      hbad.imp_right fun ⟨hsub, x, hx, hne⟩ => ⟨hsub, by rw [Docket.backDose, hx]; exact hne⟩
    exact exec_refused_of_ne rfl hr (by decide) ((onHolder_unitPort hp _ _ _).trans
      (unitReturnReply_wrongState (s := s.heard h.port) hd hu hbad'))
  · have hok' : ¬ (d.sub = .mainReady ∧ d.backDose ≠ 0) := by
      rw [Docket.backDose, hx]
      grind
    have horder := State.regOrderOf_of_docket hd
    have hins : insertByOrder s.regOrderOf s.exposurePool n.toNat = before ++ n.toNat :: after := by
      rw [hq]
      exact insertByOrder_between (by rwa [horder]) (by rwa [horder])
    refine exec_answers_of_ne rfl hr (by decide) ((onHolder_unitPort hp _ _ _).trans
      ((unitReturnReply_taken (s := s.heard h.port) hd hu hok').trans ?_))
    rw [State.heard_exposurePool, show (s.heard h.port).regOrderOf = s.regOrderOf from rfl, hins,
      idxOf_between (hq ▸ hn), State.heard_setUnit, State.heard_setExposurePool, State.heard_updateDocket]
    rfl

/-! ## A start of a channel (R50 to R52) -/

theorem Channel.predict_eq (c : Channel) (y : ChanSettings) (todo : Nat) : c.predict y todo =
    if c.irradiance.getD y.eRef = 0 then 0
    else min 65535 ((todo * 10 + c.irradiance.getD y.eRef - 1) / c.irradiance.getD y.eRef) := by
  unfold Channel.predict
  cases c.irradiance <;> rfl

theorem State.startChannel_started (s : State) (ch : ChannelId) (d : Docket) {target initial : Nat}
    (h : initial < target) : s.startChannel ch d target initial = s.setChan ch
      ((s.chan ch).started (s.working.channels.get ch) d target initial s.now s.microNow) :=
  if_neg (Nat.not_le.mpr h)

theorem State.startChannel_completed (s : State) (ch : ChannelId) (d : Docket) {target initial : Nat}
    (h : target ≤ initial) : s.startChannel ch d target initial =
      (s.setChan ch ((s.chan ch).completed (s.working.channels.get ch) d target initial)).recordDose ch d.asRun initial
        target :=
  if_pos h

section
variable {s : State} {ch : ChannelId}

theorem State.startRefusal_fault (h : (s.chan ch).state = .fault) : s.startRefusal [ch] = some .channelFault := by
  simp [State.startRefusal, h]

theorem State.startRefusal_busy (h : (s.chan ch).state = .exposing ∨ (s.chan ch).state = .tail) :
    s.startRefusal [ch] = some .busy := by
  obtain h | h := h <;> simp [State.startRefusal, h]

theorem State.startRefusal_stopped (h : (s.chan ch).state = .idle) (hs : s.sstop = true) :
    s.startRefusal [ch] = some .stopped := by
  simp [State.startRefusal, h, hs]

theorem State.startRefusal_free (h : (s.chan ch).state = .idle) (hs : s.sstop = false) : s.startRefusal [ch] = none := by
  simp [State.startRefusal, h, hs]

end

/-! ## START_BACK and START_MAIN (R79, R80) -/

section
variable {s : State} {st : Stage} {n : Nat} {u : UnitId} {d : Docket} (hd : s.docket n = some d)
include hd

theorem startStageReply_wrongState (hh : (s.unit u).docket = some n) (hbad : s.unit u ≠ .loaded n ∨ d.sub ≠ stageReady st) :
    startStageReply st n u s = refuse s .wrongState := by
  simp only [startStageReply, hd]
  rw [if_neg (Decidable.not_not.mpr hh), if_pos (by grind)]

theorem startStageReply_ready (hu : s.unit u = .loaded n) (hs : d.sub = stageReady st) : startStageReply st n u s =
    match s.startRefusal [stageChannel u st] with
    | some code => refuse s code
    | none =>
      let t := s.startChannel (stageChannel u st) d (d.stageTarget st) 0
      (if d.stageTarget st = 0 then t.stageReached u n st
        else (t.setUnit u (.running n st)).updateDocket n fun d => { d with sub := stageRunning st }, .ok,
        [fDocket n, fCode st.code, .num .dose (d.stageTarget st),
         .num .figure (t.chan (stageChannel u st)).prediction]) := by
  simp only [startStageReply, hd]
  rw [if_neg (by simp [hu, UnitRecord.docket]), if_neg (Decidable.not_not.mpr ⟨hu, hs⟩)] <;> rfl

theorem startStageReply_refused (hu : s.unit u = .loaded n) (hs : d.sub = stageReady st) {code : ResultCode}
    (hc : s.startRefusal [stageChannel u st] = some code) : startStageReply st n u s = refuse s code := by
  rw [startStageReply_ready hd hu hs, hc]

theorem startStageReply_taken (hu : s.unit u = .loaded n) (hs : d.sub = stageReady st)
    (hc : s.startRefusal [stageChannel u st] = none) {target : Nat} (ht : d.stageTarget st = target) (h0 : target ≠ 0)
    {c : Channel}
    (hch : c = (s.chan (stageChannel u st)).started (s.working.channels.get (stageChannel u st)) d target 0 s.now
      s.microNow) :
    startStageReply st n u s =
      (((s.setChan (stageChannel u st) c).setUnit u (.running n st)).updateDocket n fun d => { d with sub := stageRunning st },
        .ok, [fDocket n, fCode st.code, .num .dose target, .num .figure c.prediction]) := by
  rw [startStageReply_ready hd hu hs, hc]
  dsimp only
  rw [ht, if_neg h0, State.startChannel_started _ _ _ (Nat.pos_of_ne_zero h0), ← hch, State.setChan_chan, if_pos rfl]

end

/-- R79: the two commands that start a stage. -/
theorem takenOf_start {h : Hdr} {st : Stage} {n : BitVec 16} {cmd : Instr} {r : Request} (s : State)
    (hc : (st = .back ∧ cmd = .startBack h n ∧ r = .startBack) ∨ (st = .main ∧ cmd = .startMain h n ∧ r = .startMain)) :
    takenOf s cmd = some ⟨r, 0, h, onUnit h.port (startStageReply st n.toNat)⟩ ∧ Port.W ∉ r.ports := by
  obtain ⟨rfl, rfl, rfl⟩ | ⟨rfl, rfl, rfl⟩ := hc
  · exact ⟨rfl, by decide⟩
  · exact ⟨rfl, by decide⟩

/-- R51, R52: the channel record after a start from 0, field by field. -/
theorem Channel.started_eq {c : Channel} {y : ChanSettings} {d : Docket} {target lamp p now micro n : Nat}
    (hlamp : lamp = c.irradiance.getD y.eRef)
    (hp : p = if lamp = 0 then 0 else min 65535 ((target * 10 + lamp - 1) / lamp)) (hn : d.number = n) :
    c.started y d target 0 now micro =
      { c with
        state := .exposing, permit := true, latched := some y
        run := some { number := n, order := d.regOrder, recipe := d.recipe, cls := d.cls, unit := d.unit }
        target := some target, accumulator := 0, prediction := p
        overtime := if p = 0 then none else some (p * y.overtime / 100)
        elapsed := 0, health := none, lastEnd := .none, dimRaised := false, agedRaised := false
        startedAt := now, inGrace := y.grace != 0
        window := if y.grace = 0 then some { openedAt := now, pulses := 0 } else none
        dimFrom := if y.grace = 0 then some micro else none
        deadFrom := if y.grace = 0 then some now else none
        tailFrom := none } := by
  have hpred : c.predict y (target - 0) = p := by rw [Channel.predict_eq, hp, hlamp]; rfl
  have hrun : d.asRun = { number := n, order := d.regOrder, recipe := d.recipe, cls := d.cls, unit := d.unit } := by
    rw [Docket.asRun, hn]
  rw [Channel.started, hpred, hrun]
  by_cases hg : y.grace = 0
  · simp only [hg]
    rfl
  · simp only [if_neg hg, bne_iff_ne.mpr hg]
    rfl

/-- Settles O44. -/
theorem startRunsTheStage : Obligations.StartRunsTheStage := by
  unfold Obligations.StartRunsTheStage
  intro h s u st n d cmd r c hp hcmd hr hd hc
  obtain ⟨hx, hw⟩ := takenOf_start s hcmd
  have hunit := onUnit_unitPort hp (startStageReply st n.toNat) (s.heard h.port)
  subst hc
  refine ⟨fun hu => ?_, fun hh hbad => ?_, fun hu hs hf => ?_, fun hu hs hb => ?_, fun hu hs hi hst => ?_,
    fun x y target lamp p hu hs hi hst hsn hy ht h0 hl hpr => ?_⟩
  · exact exec_refused_of_ne hx hr hw (hunit.trans (by simp [startStageReply, hd, hu]))
  · exact exec_refused_of_ne hx hr hw (hunit.trans (startStageReply_wrongState (s := s.heard h.port) hd hh hbad))
  · exact exec_refused_of_ne hx hr hw (hunit.trans
      (startStageReply_refused (s := s.heard h.port) hd hu hs (State.startRefusal_fault hf)))
  · exact exec_refused_of_ne hx hr hw (hunit.trans
      (startStageReply_refused (s := s.heard h.port) hd hu hs (State.startRefusal_busy hb)))
  · exact exec_refused_of_ne hx hr hw (hunit.trans
      (startStageReply_refused (s := s.heard h.port) hd hu hs (State.startRefusal_stopped hi hst)))
  · have htarget : d.stageTarget st = target := by
      rw [ht]
      cases st <;> simp [Docket.stageTarget, hsn]
    have hstarted := Channel.started_eq (d := d) (now := s.now) (micro := s.microNow) hl hpr (State.docket_number hd)
    subst hy
    refine exec_answers_of_ne hx hr hw (hunit.trans ((startStageReply_taken (s := s.heard h.port) hd hu hs
      (State.startRefusal_free hi hst) htarget h0 rfl).trans ?_))
    rw [State.heard_chan, State.heard_working, State.heard_now, State.heard_microNow, State.heard_setChan,
      State.heard_setUnit, State.heard_updateDocket, hstarted]
    rfl

end Sys2Proof.Machine
end

section
/-! SUPPORT. STOP and RESUME at the exposure units (R53, R85 to R88). -/

namespace Sys2Proof.Machine

/-! ## STOP (R85) -/

theorem RunsStage.heard {s : State} {u : UnitId} {n : Nat} {st : Stage} (h : RunsStage s u n st) (p : Port) :
    RunsStage (s.heard p) u n st := ⟨h.unit, h.channel, h.docket⟩

theorem unitStopReply_running {s : State} {u : UnitId} {n : Nat} {st : Stage} {d : Docket} (hd : s.docket n = some d)
    (hu : s.unit u = .running n st) :
    unitStopReply n u s = (s.abortUnit u .operator, .ok,
      [fDocket n, fCode st.code, fCode ((s.abortUnit u .operator).unit u).code]) := by
  simp [unitStopReply, hd, hu, UnitRecord.docket]

theorem unitHalted_unit (s : State) (u : UnitId) (n : Nat) (st : Stage) (r : AbortReason) (reason : HoldReason) :
    (unitHalted s u n st r reason).unit u = .halted n st reason := by
  rw [State.unit_of_units_set (unitHalted_owners s u n st r reason).1, if_pos rfl]

/-! ## A RESUME whose partial dose meets the target (R53, R87) -/

/-- R53: the run docket that a start names is the docket it was taken for. -/
theorem State.updateRunDocket_asRun {s : State} {n : Nat} {d : Docket} (hd : s.docket n = some d) (f : Docket → Docket) :
    s.updateRunDocket d.asRun f = s.updateDocket n f := by
  have hn := State.docket_number hd
  have hlive : (s.runDocket d.asRun).isSome = true := by
    rw [State.runDocket, Docket.asRun, hn, hd]
    simp
  rw [State.updateRunDocket, if_pos hlive, Docket.asRun, hn]

section
variable (s : State) (n : Nat) (f g : Docket → Docket)

theorem State.offer_updateDocket (e : CounterEvent) (a : Nat) (x : Option (Fin 16 × PlateClass))
    (o : Option (Option UnitId)) : (s.updateDocket n f).offer e a x o = (s.offer e a x o).updateDocket n f := by
  simp only [State.offer, State.updateDocket, State.setSlots, State.setCounters]

theorem State.offer_updateDocket_setChan (e : CounterEvent) (a : Nat) (x : Option (Fin 16 × PlateClass))
    (o : Option (Option UnitId)) (c : ChannelId) (y : Channel) :
    ((s.offer e a x o).updateDocket n f).setChan c y =
      { s.updateDocket n f with counters := (s.offer e a x o).counters, channels := s.channels.set c y } := by
  simp only [State.offer, State.updateDocket, State.setSlots, State.setCounters, State.setChan]

theorem State.updateDocket_setChan_updateDocket (hf : ∀ d, (f d).number = d.number) (c : ChannelId) (y : Channel) :
    ((s.updateDocket n f).setChan c y).updateDocket n g = (s.updateDocket n fun d => g (f d)).setChan c y := by
  rw [State.updateDocket_setChan, State.updateDocket_updateDocket s n f g hf]

end

/-- R53: a start that is complete at once, with a change of the docket after it. -/
theorem State.startChannel_complete {s : State} {n : Nat} {d : Docket} (hd : s.docket n = some d) (u : UnitId) (st : Stage)
    {target p : Nat} (h : target ≤ p) (g : Docket → Docket) :
    (s.startChannel (stageChannel u st) d target p).updateDocket n g =
      { s.updateDocket n fun z => g (z.deliver (stageChannel u st) p) with
        counters := (s.offer .doseOvershoot (p - target) (some (d.recipe, d.cls)) (some d.unit)).counters
        channels := s.channels.set (stageChannel u st)
          ((s.chan (stageChannel u st)).completed (s.working.channels.get (stageChannel u st)) d target p) } := by
  rw [State.startChannel_completed _ _ _ h, State.recordDose_setChan, State.recordDose, State.updateRunDocket_asRun hd,
    overshootUnit_stage, State.offer_updateDocket,
    State.updateDocket_setChan_updateDocket _ _ _ _ fun z => (z.deliver_kept (stageChannel u st) p).1,
    State.offer_updateDocket_setChan]
  rfl

/-! ## RESUME (R86 to R88) -/

section
variable {s : State} {n : Nat} {u : UnitId} {d : Docket} {st : Stage} {reason : HoldReason} (hd : s.docket n = some d)
  (hu : s.unit u = .halted n st reason)
include hd hu

theorem unitResumeReply_refused {code : ResultCode} (hc : s.startRefusal [stageChannel u st] = some code) :
    unitResumeReply n u s = refuse s code := by
  simp [unitResumeReply, hd, hu, UnitRecord.docket, hc]

omit hd hu in
theorem State.chan_updateDocket (s : State) (n : Nat) (f : Docket → Docket) (c : ChannelId) :
    (s.updateDocket n f).chan c = s.chan c := by simp only [State.updateDocket, State.setSlots, State.chan]

omit hd hu in
theorem State.setUnit_updateDocket (s : State) (n : Nat) (f : Docket → Docket) (u : UnitId) (x : UnitRecord) :
    (s.updateDocket n f).setUnit u x = (s.setUnit u x).updateDocket n f := by
  simp only [State.updateDocket, State.setSlots, State.setUnit]

theorem unitResumeReply_on (hc : s.startRefusal [stageChannel u st] = none) {target p : Nat}
    (ht : d.stageTarget st = target) (hp : d.stagePartial = p) (hlt : p < target) {c : Channel}
    (hch : c = (s.chan (stageChannel u st)).started (s.working.channels.get (stageChannel u st)) d target p s.now
      s.microNow) :
    unitResumeReply n u s =
      (((s.setChan (stageChannel u st) c).setUnit u (.running n st)).updateDocket n
          (fun z => { z with state := .atExposure, sub := stageRunning st, hold := none }), .ok,
        [fDocket n, fCode st.code, fCode 1, .num .dose p, .num .dose target, .num .figure c.prediction]) := by
  have hstart : s.startChannel (stageChannel u st) d target p = s.setChan (stageChannel u st) c := by
    rw [State.startChannel_started _ _ _ hlt, hch]
  have hchan : (s.setChan (stageChannel u st) c).chan (stageChannel u st) = c := by rw [State.setChan_chan, if_pos rfl]
  simp only [unitResumeReply, hd, hu, UnitRecord.docket, ne_eq, not_true_eq_false, if_false, hc, ht, hp, hstart,
    if_neg (Nat.not_le.mpr hlt), State.chan_updateDocket, hchan]
  rw [State.setUnit_updateDocket, State.updateDocket_updateDocket]
  exact fun _ => rfl

theorem unitResumeReply_complete (hc : s.startRefusal [stageChannel u st] = none) {target p : Nat}
    (ht : d.stageTarget st = target) (hp : d.stagePartial = p) (hle : target ≤ p) {t : State}
    (hs : t = (s.startChannel (stageChannel u st) d target p).updateDocket n (fun z => { z with hold := none })) :
    unitResumeReply n u s = (t.stageReached u n st, .ok,
        [fDocket n, fCode st.code, fCode 2, .num .dose p, .num .dose target,
          .num .figure (t.chan (stageChannel u st)).prediction]) := by
  simp only [unitResumeReply, hd, hu, UnitRecord.docket, ne_eq, not_true_eq_false, if_false, hc, ht, hp, if_pos hle, ← hs]

end

theorem unitResumeReply_wrongState {s : State} {n : Nat} {u : UnitId} {d : Docket} {st : Stage}
    (hd : s.docket n = some d) (hu : s.unit u = .loaded n ∨ s.unit u = .running n st) :
    unitResumeReply n u s = refuse s .wrongState := by
  obtain hu | hu := hu <;> simp [unitResumeReply, hd, hu, UnitRecord.docket]

theorem unitStopReply_wrongState {s : State} {n : Nat} {u : UnitId} {d : Docket} {st : Stage} {reason : HoldReason}
    (hd : s.docket n = some d) (hu : s.unit u = .loaded n ∨ s.unit u = .halted n st reason) :
    unitStopReply n u s = refuse s .wrongState := by
  obtain hu | hu := hu <;> simp [unitStopReply, hd, hu, UnitRecord.docket]

section
variable {h : Hdr} {s : State} {u : UnitId} {st : Stage} {n : BitVec 16} {d : Docket} (hp : h.port = unitPort u)
  (hd : s.docket n.toNat = some d)
include hp hd

theorem exec_stop_running (hr : Reaches .stop 0 h s) (hrun : RunsStage s u n.toNat st) :
    exec (.stop h n) s = .next (replied (unitHalted s u n.toNat st .operator .operator) h.port .stop .ok
      [.num .docket n.toNat, .num .code st.code, .num .code 3]) := by
  refine exec_answers_of_ne rfl hr (by decide) ((onHolder_unitPort hp _ _ _).trans
    ((unitStopReply_running (s := s.heard h.port) hd hrun.unit).trans ?_))
  rw [State.heard_abortUnit, State.heard_unit, hrun.abortUnit_eq rfl, unitHalted_unit]
  rfl

section
variable {reason : HoldReason} {c : Channel} {target p : Nat} {y : ChanSettings} (hr : Reaches .resume 0 h s)
  (hu : s.unit u = .halted n.toNat st reason) (hc : s.chan (stageChannel u st) = c) (hi : c.state = .idle)
  (hst : s.sstop = false) (ht : d.stageTarget st = target) (hpart : d.stagePartial = p)
  (hy : s.working.channels.get (stageChannel u st) = y)
include hr hu hc hi hst ht hpart hy

theorem exec_resume_on (hlt : p < target) : exec (.resume h n) s = .next (replied
    { s.updateDocket n.toNat fun z => { z with state := .atExposure, sub := stageRunning st, hold := none } with
      units := s.units.set u (.running n.toNat st)
      channels := s.channels.set (stageChannel u st) (c.started y d target p s.now s.microNow) }
    h.port .resume .ok
    [.num .docket n.toNat, .num .code st.code, .num .code 1, .num .dose p, .num .dose target,
     .num .figure (c.started y d target p s.now s.microNow).prediction]) := by
  subst hc hy
  refine exec_answers_of_ne rfl hr (by decide) ((onHolder_unitPort hp _ _ _).trans
    ((unitResumeReply_on (s := s.heard h.port) hd hu (State.startRefusal_free hi hst) ht hpart hlt rfl).trans ?_))
  rw [State.heard_chan, State.heard_working, State.heard_now, State.heard_microNow, State.heard_setChan,
    State.heard_setUnit, State.heard_updateDocket]
  rfl

theorem exec_resume_complete (hle : target ≤ p) : exec (.resume h n) s = .next (replied
    (({ s.updateDocket n.toNat fun z => { z.deliver (stageChannel u st) p with hold := none } with
        counters := (s.offer .doseOvershoot (p - target) (some (d.recipe, d.cls)) (some d.unit)).counters
        channels := s.channels.set (stageChannel u st) (c.completed y d target p) } : State).stageReached u n.toNat st)
    h.port .resume .ok
    [.num .docket n.toNat, .num .code st.code, .num .code 2, .num .dose p, .num .dose target, .num .figure 0]) := by
  subst hc hy
  refine exec_answers_of_ne rfl hr (by decide) ((onHolder_unitPort hp _ _ _).trans
    ((unitResumeReply_complete (s := s.heard h.port) hd hu (State.startRefusal_free hi hst) ht hpart hle rfl).trans ?_))
  rw [State.heard_startChannel, State.heard_updateDocket, State.startChannel_complete hd u st hle,
    State.heard_stageReached, State.heard_chan]
  have hpred : (({ s.updateDocket n.toNat fun z => { z.deliver (stageChannel u st) p with hold := none } with
        counters := (s.offer .doseOvershoot (p - target) (some (d.recipe, d.cls)) (some d.unit)).counters
        channels := s.channels.set (stageChannel u st) ((s.chan (stageChannel u st)).completed
          (s.working.channels.get (stageChannel u st)) d target p) } : State).chan (stageChannel u st)).prediction = 0 := by
    rw [State.chan, PerChannel.get_set, if_pos rfl]
    rfl
  rw [hpred]
  rfl

end

end

/-- Settles O45. -/
theorem stopAndResume : Obligations.StopAndResume := by
  unfold Obligations.StopAndResume
  intro h s u st n d hp hd
  have refused (hr : Reaches .resume 0 h s) {code : ResultCode}
      (ho : unitResumeReply n.toNat u (s.heard h.port) = refuse (s.heard h.port) code) :
      exec (.resume h n) s = .next (replied s h.port .resume code []) :=
    exec_refused_of_ne rfl hr (by decide) ((onHolder_unitPort hp _ _ _).trans ho)
  have stopRefused (hr : Reaches .stop 0 h s) {code : ResultCode}
      (ho : unitStopReply n.toNat u (s.heard h.port) = refuse (s.heard h.port) code) :
      exec (.stop h n) s = .next (replied s h.port .stop code []) :=
    exec_refused_of_ne rfl hr (by decide) ((onHolder_unitPort hp _ _ _).trans ho)
  refine ⟨fun hr => ⟨fun hrun => exec_stop_running hp hd hr hrun, fun hu => stopRefused hr ?_, fun reason hu =>
      stopRefused hr (unitStopReply_wrongState (s := s.heard h.port) hd hu)⟩,
    fun hr => ⟨fun hu => refused hr ?_, fun hu => refused hr (unitResumeReply_wrongState (s := s.heard h.port) hd hu),
      fun reason c hu hc => ⟨fun hf => ?_, fun hb => ?_, fun hi hst => ?_,
        fun x hold p target y hi hst hx hh hfirst ht hy => ?_⟩⟩⟩
  · simp [unitStopReply, hd, hu]
  · simp [unitResumeReply, hd, hu]
  · subst hc
    exact refused hr (unitResumeReply_refused (s := s.heard h.port) hd hu (State.startRefusal_fault hf))
  · subst hc
    exact refused hr (unitResumeReply_refused (s := s.heard h.port) hd hu (State.startRefusal_busy hb))
  · subst hc
    exact refused hr (unitResumeReply_refused (s := s.heard h.port) hd hu (State.startRefusal_stopped hi hst))
  · have htarget : d.stageTarget st = target := by
      rw [ht]
      cases st <;> simp [Docket.stageTarget, hx]
    have hpart : d.stagePartial = p := by simp [Docket.stagePartial, hh, hfirst]
    refine ⟨exec_resume_on hp hd hr hu hc hi hst htarget hpart hy, fun hle => ?_⟩
    rw [exec_resume_complete hp hd hr hu hc hi hst htarget hpart hy hle, Channel.completed, Docket.asRun,
      State.docket_number hd]

end Sys2Proof.Machine
end

section
/-! SUPPORT. The requests at the light finisher (R153 to R161). -/

namespace Sys2Proof.Machine

/-! ## A docket, the counters and the channels written together -/

/-- Docket `n` changed by `f`, the counters and the channels replaced: what a start at the finisher may write. -/
def State.askedWith (s : State) (n : Nat) (f : Docket → Docket) (l : Vector LineCounter 4) (chs : PerChannel Channel) :
    State :=
  { s.updateDocket n f with counters := l, channels := chs }

section
variable (s : State) (n : Nat) (f : Docket → Docket) (l : Vector LineCounter 4) (chs : PerChannel Channel)

theorem State.askedWith_self : s.askedWith n (fun x => x) s.counters s.channels = s := by
  rw [State.askedWith, State.updateDocket_of_fixed fun _ _ _ _ => rfl]

theorem State.setChan_askedWith (c : ChannelId) (x : Channel) :
    s.setChan c x = s.askedWith n (fun d => d) s.counters (s.channels.set c x) := by
  rw [State.askedWith, State.updateDocket_of_fixed fun _ _ _ _ => rfl]
  rfl

theorem State.askedWith_frame : (s.askedWith n f l chs).channels = chs ∧ (s.askedWith n f l chs).counters = l ∧
    (s.askedWith n f l chs).working = s.working ∧ (s.askedWith n f l chs).now = s.now ∧
    (s.askedWith n f l chs).microNow = s.microNow ∧ ∀ c, (s.askedWith n f l chs).chan c = chs.get c := by
  simp only [State.askedWith, State.updateDocket, State.setSlots, State.microNow, State.chan, implies_true, and_self]

theorem State.askedWith_docket {d : Docket} (hd : s.docket n = some d) (hf : ∀ x, (f x).number = x.number) :
    (s.askedWith n f l chs).docket n = some (f d) := by
  rw [State.docket_of_slots (show (s.askedWith n f l chs).slots = (s.updateDocket n f).slots from rfl),
    State.updateDocket_docket s n n f hf, if_pos rfl, hd]
  rfl

theorem State.askedWith_askedWith (g : Docket → Docket) (m : Vector LineCounter 4) (dhs : PerChannel Channel)
    (hf : ∀ x, (f x).number = x.number) :
    (s.askedWith n f l chs).askedWith n g m dhs = s.askedWith n (fun x => g (f x)) m dhs := by
  unfold State.askedWith
  rw [← State.updateDocket_updateDocket s n f g hf]
  simp only [State.updateDocket, State.setSlots]

variable {s n f l chs} in
theorem State.askedWith_congr {m : Vector LineCounter 4} {dhs : PerChannel Channel} (hl : l = m) (hc : chs = dhs) :
    s.askedWith n f l chs = s.askedWith n f m dhs := by rw [hl, hc]

end

/-! ## A start at a channel of the finisher (R51, R53, R156) -/

theorem overshootUnit_finish {ch : ChannelId} (hch : ch = .FC ∨ ch = .FA) (r : RunDocket) : overshootUnit ch r = none := by
  obtain rfl | rfl := hch <;> rfl

/-- R53: the run docket that a start names is the live docket it was taken for. -/
theorem State.updateRunDocket_live {s : State} {n : Nat} {d e : Docket} (he : s.docket n = some e) (hn : d.number = n)
    (ho : e.regOrder = d.regOrder) (f : Docket → Docket) : s.updateRunDocket d.asRun f = s.updateDocket n f := by
  have hlive : (s.runDocket d.asRun).isSome = true := by
    rw [State.runDocket, Docket.asRun, hn, he]
    simp [ho]
  rw [State.updateRunDocket, if_pos hlive, Docket.asRun, hn]

/-- The docket after a finisher channel was asked to run from `initial` to `target`. -/
def Docket.asked (d : Docket) (ch : ChannelId) (target initial : Nat) : Docket :=
  if target ≤ initial then d.deliver ch initial else d

theorem Docket.asked_kept (d : Docket) (ch : ChannelId) (target initial : Nat) :
    (d.asked ch target initial).number = d.number ∧ (d.asked ch target initial).regOrder = d.regOrder := by
  unfold Docket.asked
  split
  · exact d.deliver_kept ch initial
  · exact ⟨rfl, rfl⟩

/-- The state whose counters a finisher channel that was asked to run leaves. -/
def State.offeredAsked (s : State) (d : Docket) (target initial : Nat) : State :=
  if target ≤ initial then s.offer .doseOvershoot (initial - target) (some (d.recipe, d.cls)) none else s

theorem State.offeredAsked_counters {s t : State} (h : t.counters = s.counters) (d : Docket) (target initial : Nat) :
    (t.offeredAsked d target initial).counters = (s.offeredAsked d target initial).counters := by
  unfold State.offeredAsked
  split
  · exact State.offer_counters_congr h _ _ _ _
  · exact h

theorem State.startChannel_asked {s : State} {n : Nat} {d e : Docket} (he : s.docket n = some e) (hn : d.number = n)
    (ho : e.regOrder = d.regOrder) {ch : ChannelId} (hch : ch = .FC ∨ ch = .FA) (target initial : Nat) :
    s.startChannel ch d target initial =
      s.askedWith n (fun x => x.asked ch target initial) (s.offeredAsked d target initial).counters
        (s.channels.set ch ((s.chan ch).asked (s.working.channels.get ch) d target initial s.now s.microNow)) := by
  by_cases h : target ≤ initial
  · have hf : (fun x : Docket => x.asked ch target initial) = fun x => x.deliver ch initial :=
      funext fun x => if_pos h
    rw [State.startChannel_completed _ _ _ h, State.recordDose_setChan, State.recordDose,
      State.updateRunDocket_live he hn ho, overshootUnit_finish hch, State.offer_updateDocket,
      State.offer_updateDocket_setChan, hf, State.offeredAsked, if_pos h, Channel.asked, if_pos h]
    rfl
  · have hf : (fun x : Docket => x.asked ch target initial) = fun x => x := funext fun x => if_neg h
    rw [State.startChannel_started _ _ _ (Nat.not_le.mp h), hf, State.offeredAsked, if_neg h, Channel.asked, if_neg h]
    exact s.setChan_askedWith n ch _

/-- R156, R160: a channel with an OPEN mark is asked to run, a REACHED one is left alone. -/
def State.askFinish (s : State) (m : Mark) (ch : ChannelId) (d : Docket) (target initial : Nat) : State :=
  if m = .openMark then s.startChannel ch d target initial else s

theorem State.askFinish_eq {s : State} {n : Nat} {d e : Docket} (he : s.docket n = some e) (hn : d.number = n)
    (ho : e.regOrder = d.regOrder) {ch : ChannelId} (hch : ch = .FC ∨ ch = .FA) (m : Mark) (target initial : Nat) :
    s.askFinish m ch d target initial =
      s.askedWith n (fun x => if m = .openMark then x.asked ch target initial else x)
        (if m = .openMark then s.offeredAsked d target initial else s).counters
        (s.channels.set ch (if m = .openMark then
          (s.chan ch).asked (s.working.channels.get ch) d target initial s.now s.microNow else s.chan ch)) := by
  unfold State.askFinish
  by_cases hm : m = .openMark
  · simp only [hm, if_true]
    exact State.startChannel_asked he hn ho hch target initial
  · simp only [if_neg hm]
    rw [State.chan, PerChannel.set_get, State.askedWith_self]

theorem finishedAsked_docket (x : Docket) (c a : Mark) (tc pc ta pa : Nat) :
    (if a = .openMark then (if c = .openMark then x.asked .FC tc pc else x).asked .FA ta pa
      else if c = .openMark then x.asked .FC tc pc else x) =
    { x with
      finishC := if c = .openMark ∧ tc ≤ pc then some pc else x.finishC
      finishA := if a = .openMark ∧ ta ≤ pa then some pa else x.finishA } := by
  unfold Docket.asked
  by_cases hc : c = .openMark <;> by_cases ha : a = .openMark <;> by_cases h1 : tc ≤ pc <;> by_cases h2 : ta ≤ pa <;>
    simp [hc, ha, h1, h2, Docket.deliver]

theorem finisherAsked_eq (s : State) (n : Nat) (d : Docket) (c a : Mark) (tc pc ta pa : Nat) :
    finisherAsked s n d c a tc pc ta pa = s.askedWith n
      (fun x => if a = .openMark then (if c = .openMark then x.asked .FC tc pc else x).asked .FA ta pa
        else if c = .openMark then x.asked .FC tc pc else x)
      (if a = .openMark then (if c = .openMark then s.offeredAsked d tc pc else s).offeredAsked d ta pa
        else if c = .openMark then s.offeredAsked d tc pc else s).counters
      ((s.channels.set .FC (if c = .openMark then
          (s.chan .FC).asked (s.working.channels.get .FC) d tc pc s.now s.microNow else s.chan .FC)).set .FA
        (if a = .openMark then
          (s.chan .FA).asked (s.working.channels.get .FA) d ta pa s.now s.microNow else s.chan .FA)) := by
  have hfun := funext fun x => finishedAsked_docket x c a tc pc ta pa
  have hoffer (t : State) (m : Mark) (target initial : Nat) :
      (if m = .openMark then t.offeredAsked d target initial else t) =
        if m = .openMark ∧ target ≤ initial then
          t.offer .doseOvershoot (initial - target) (some (d.recipe, d.cls)) none else t := by
    unfold State.offeredAsked
    by_cases hm : m = .openMark <;> simp [hm]
  rw [hfun, hoffer s c, hoffer _ a]
  rfl

/-- R156, R160: both channels asked one after the other. -/
theorem State.askFinish_both {s : State} {n : Nat} {d : Docket} (hd : s.docket n = some d) (c a : Mark)
    (tc pc ta pa : Nat) :
    (s.askFinish c .FC d tc pc).askFinish a .FA d ta pa = finisherAsked s n d c a tc pc ta pa := by
  have hn := State.docket_number hd
  have hkept (x : Docket) : (if c = .openMark then x.asked .FC tc pc else x).number = x.number ∧
      (if c = .openMark then x.asked .FC tc pc else x).regOrder = x.regOrder := by
    split
    · exact x.asked_kept .FC tc pc
    · exact ⟨rfl, rfl⟩
  rw [State.askFinish_eq hd hn rfl (.inl rfl)]
  have hdocket := fun l chs => s.askedWith_docket n (fun x => if c = .openMark then x.asked .FC tc pc else x) l chs hd
    fun x => (hkept x).1
  rw [State.askFinish_eq (hdocket _ _) hn (hkept d).2 (.inr rfl),
    State.askedWith_askedWith _ _ _ _ _ _ _ _ fun x => (hkept x).1, finisherAsked_eq]
  obtain ⟨hchannels, hcounters, hworking, hnow, hmicro, hchans⟩ := s.askedWith_frame n
    (fun x => if c = .openMark then x.asked .FC tc pc else x)
    (if c = .openMark then s.offeredAsked d tc pc else s).counters
    (s.channels.set .FC (if c = .openMark then
      (s.chan .FC).asked (s.working.channels.get .FC) d tc pc s.now s.microNow else s.chan .FC))
  have hchan : (s.channels.set .FC (if c = .openMark then
      (s.chan .FC).asked (s.working.channels.get .FC) d tc pc s.now s.microNow else s.chan .FC)).get .FA = s.chan .FA := by
    rw [PerChannel.get_set]
    exact if_neg (by decide)
  rw [hchans, hchannels, hworking, hnow, hmicro, hchan]
  refine State.askedWith_congr ?_ rfl
  by_cases ha : a = .openMark
  · rw [if_pos ha, if_pos ha]
    exact State.offeredAsked_counters hcounters _ _ _
  · rw [if_neg ha, if_neg ha]
    exact hcounters

end Sys2Proof.Machine
end

section
/-! SUPPORT. The obligations on the light finisher's requests (R153 to R161). -/

namespace Sys2Proof.Machine

/-! ## The end of a START_FINISH or RESUME (R156, R157) -/

theorem State.updateDocket_setFinisher (s : State) (x : FinisherRecord) (n : Nat) (f : Docket → Docket) :
    (s.setFinisher x).updateDocket n f = { s.updateDocket n f with finisher := x } := by
  simp only [State.updateDocket, State.setSlots, State.setFinisher]

theorem State.finishRun_eq (s : State) (n : Nat) (c a : Mark) : s.finishRun n c a = finisherProceeds s n c a := by
  unfold State.finishRun finisherProceeds State.finishComplete
  rw [State.updateDocket_setFinisher, State.updateDocket_setFinisher]

theorem State.heard_finishRun (s : State) (p : Port) (n : Nat) (c a : Mark) :
    (s.heard p).finishRun n c a = (s.finishRun n c a).heard p := by
  unfold State.finishRun State.finishComplete
  simp only [State.heard_setFinisher, State.heard_updateDocket, State.heard_raise, State.heard_offerFor,
    State.heard_seconds]
  split <;> rfl

theorem State.heard_askFinish (s : State) (p : Port) (m : Mark) (ch : ChannelId) (d : Docket) (target initial : Nat) :
    (s.heard p).askFinish m ch d target initial = (s.askFinish m ch d target initial).heard p := by
  unfold State.askFinish
  rw [State.heard_startChannel]
  split <;> rfl

theorem Docket.finishTarget_of_snapshot {d : Docket} {x : Snapshot} (h : d.snapshot = some x) :
    d.finishTarget .FC = x.uvc * 1000 ∧ d.finishTarget .FA = x.uva * 1000 := by
  simp [Docket.finishTarget, h]

/-! ## CLAIM_FINISH and START_FINISH (R154 to R156) -/

section
variable {s : State} {n : Nat} {d : Docket} {x : Snapshot} (hd : s.docket n = some d)
include hd

theorem claimFinishReply_taken (hx : d.snapshot = some x) (hf : s.finisher = .vacant) (hs : d.state = .finishQueued) :
    claimFinishReply n s =
      (((s.setFinishPool (s.finishPool.filter fun m => m != n)).setFinisher (.loaded n)).updateDocket n fun d =>
          { d with state := .atFinisher, sub := .ready }, .ok,
        [fDocket n, .opt .dose (some x.uvc), .opt .dose (some x.uva)]) := by
  simp [claimFinishReply, hd, hx, hf, hs]

theorem startFinishReply_refused (hf : s.finisher = .loaded n) {code : ResultCode}
    (hc : s.startRefusal [.FC, .FA] = some code) : startFinishReply n s = refuse s code := by
  simp [startFinishReply, hd, State.finisherHolds, hf, FinisherRecord.docket, hc]

theorem startFinishReply_taken (hx : d.snapshot = some x) (hf : s.finisher = .loaded n)
    (hc : s.startRefusal [.FC, .FA] = none) {t : State}
    (ht : t = (s.askFinish .openMark .FC d (x.uvc * 1000) 0).askFinish .openMark .FA d (x.uva * 1000) 0) :
    startFinishReply n s =
      (t.finishRun n (markAfter (x.uvc * 1000) 0) (markAfter (x.uva * 1000) 0), .ok,
        [fDocket n, fCode (finishResult (markAfter (x.uvc * 1000) 0) (markAfter (x.uva * 1000) 0)),
         fCode (markAfter (x.uvc * 1000) 0).code, .num .dose (x.uvc * 1000), .num .figure (t.chan .FC).prediction,
         fCode (markAfter (x.uva * 1000) 0).code, .num .dose (x.uva * 1000), .num .figure (t.chan .FA).prediction]) := by
  obtain ⟨htc, hta⟩ := Docket.finishTarget_of_snapshot hx
  rw [State.askFinish, if_pos rfl, State.askFinish, if_pos rfl] at ht
  simp [startFinishReply, hd, State.finisherHolds, hf, FinisherRecord.docket, hc, htc, hta, ← ht]

theorem finisherReturnReply_taken (hf : s.finisher = .loaded n) : finisherReturnReply n s =
    (((s.setFinisher .vacant).setFinishPool (insertByOrder s.unloadOrderOf s.finishPool n)).updateDocket n fun d =>
        { d with state := .finishQueued, sub := .none }, .ok,
      [fDocket n, fCode ((insertByOrder s.unloadOrderOf s.finishPool n).idxOf n)]) := by
  simp [finisherReturnReply, hd, State.finisherHolds, hf, FinisherRecord.docket]

end

section
variable {s : State} {c a : ChannelId}

theorem State.startRefusal_any_fault (h : (s.chan c).state = .fault ∨ (s.chan a).state = .fault) :
    s.startRefusal [c, a] = some .channelFault := by
  simp [State.startRefusal, h]

theorem State.startRefusal_any_busy (hc : (s.chan c).state ≠ .fault) (ha : (s.chan a).state ≠ .fault)
    (h : (s.chan c).state ≠ .idle ∨ (s.chan a).state ≠ .idle) : s.startRefusal [c, a] = some .busy := by
  simp only [State.startRefusal, List.any_cons, List.any_nil, decide_eq_false hc, decide_eq_false ha]
  obtain h | h := h <;> simp [h]

theorem State.startRefusal_both_stopped (hc : (s.chan c).state = .idle) (ha : (s.chan a).state = .idle)
    (hs : s.sstop = true) : s.startRefusal [c, a] = some .stopped := by
  simp [State.startRefusal, hc, ha, hs]

theorem State.startRefusal_both_free (hc : (s.chan c).state = .idle) (ha : (s.chan a).state = .idle)
    (hs : s.sstop = false) : s.startRefusal [c, a] = none := by
  simp [State.startRefusal, hc, ha, hs]

end

theorem markAfter_zero (dose : Nat) : markAfter (dose * 1000) 0 = if dose = 0 then .reached else .openMark := by
  unfold markAfter
  by_cases h : dose = 0
  · simp [h]
  · rw [if_neg h, if_neg (by omega)]

theorem finishResult_of_doses {c a : Mark} {x y : Nat} (hc : c = if x = 0 then .reached else .openMark)
    (ha : a = if y = 0 then .reached else .openMark) : finishResult c a = if x = 0 ∧ y = 0 then 2 else 1 := by
  rw [finishResult, hc, ha]
  by_cases hx : x = 0 <;> by_cases hy : y = 0 <;> simp [hx, hy]

theorem State.heard_unloadOrder_fun (s : State) (p : Port) : (s.heard p).unloadOrderOf = s.unloadOrderOf := rfl

theorem State.unloadOrderOf_of_docket {s : State} {n : Nat} {d : Docket} (hd : s.docket n = some d) :
    s.unloadOrderOf n = d.unloadOrder := by
  rw [State.unloadOrderOf, hd]

section
variable {h : Hdr} {s : State} {n : BitVec 16} {d : Docket} {x : Snapshot} (hd : s.docket n.toNat = some d)
  (hx : d.snapshot = some x)
include hd

include hx in
theorem exec_claimFinish (hr : Reaches .claimFinish 0 h s) (hf : s.finisher = .vacant) (hs : d.state = .finishQueued) :
    exec (.claimFinish h n) s = .next (replied
      { s.updateDocket n.toNat fun y => { y with state := .atFinisher, sub := .ready } with
        finisher := .loaded n.toNat, finishPool := s.finishPool.filter fun m => m != n.toNat }
      h.port .claimFinish .ok
      [.num .docket n.toNat, .opt .dose (some x.uvc), .opt .dose (some x.uva)]) := by
  refine exec_answers_of_ne rfl hr (by decide) ((claimFinishReply_taken (s := s.heard h.port) hd hx hf hs).trans ?_)
  rw [State.heard_finishPool, State.heard_setFinishPool, State.heard_setFinisher, State.heard_updateDocket]
  rfl

include hx in
theorem exec_startFinish (hr : Reaches .startFinish 0 h s) {t : State} {c a : Mark} (hf : s.finisher = .loaded n.toNat)
    (hcIdle : (s.chan .FC).state = .idle) (haIdle : (s.chan .FA).state = .idle) (hst : s.sstop = false)
    (ht : t = finisherAsked s n.toNat d .openMark .openMark (x.uvc * 1000) 0 (x.uva * 1000) 0)
    (hc : c = if x.uvc = 0 then .reached else .openMark) (ha : a = if x.uva = 0 then .reached else .openMark) :
    exec (.startFinish h n) s = .next (replied (finisherProceeds t n.toNat c a) h.port .startFinish .ok
      [.num .docket n.toNat, .num .code (if x.uvc = 0 ∧ x.uva = 0 then 2 else 1),
       .num .code c.code, .num .dose (x.uvc * 1000), .num .figure (t.chan .FC).prediction,
       .num .code a.code, .num .dose (x.uva * 1000), .num .figure (t.chan .FA).prediction]) := by
  refine exec_answers_of_ne rfl hr (by decide) ((startFinishReply_taken (s := s.heard h.port) hd hx hf
    (State.startRefusal_both_free hcIdle haIdle hst) rfl).trans ?_)
  rw [State.heard_askFinish, State.heard_askFinish, State.askFinish_both hd, ← ht, State.heard_finishRun,
    State.finishRun_eq, markAfter_zero, markAfter_zero, ← hc, ← ha, finishResult_of_doses hc ha]
  rfl

theorem exec_finisherReturn {len : Nat} (hr : Reaches .returnDocket 0 ⟨.F, len⟩ s) {before after : List Nat}
    (hf : s.finisher = .loaded n.toNat) (hq : s.finishPool = before ++ after) (hn : n.toNat ∉ s.finishPool)
    (hb : ∀ m ∈ before, s.unloadOrderOf m ≤ d.unloadOrder) (ha : ∀ m ∈ after, d.unloadOrder < s.unloadOrderOf m) :
    exec (.finisherReturn len n) s = .next (replied
      { s.updateDocket n.toNat fun y => { y with state := .finishQueued, sub := .none } with
        finisher := .vacant, finishPool := before ++ n.toNat :: after }
      .F .returnDocket .ok [.num .docket n.toNat, .num .code before.length]) := by
  have horder := State.unloadOrderOf_of_docket hd
  have hins : insertByOrder s.unloadOrderOf s.finishPool n.toNat = before ++ n.toNat :: after := by
    rw [hq]
    exact insertByOrder_between (by rwa [horder]) (by rwa [horder])
  refine exec_answers_of_ne (h := ⟨.F, len⟩) rfl hr (by decide)
    ((finisherReturnReply_taken (s := s.heard .F) hd hf).trans ?_)
  rw [State.heard_finishPool, State.heard_unloadOrder_fun, hins, idxOf_between (hq ▸ hn), State.heard_setFinisher,
    State.heard_setFinishPool, State.heard_updateDocket]
  rfl

end

/-- Settles O46. -/
theorem finisherClaimsStartsAndReturns : Obligations.FinisherClaimsStartsAndReturns := by
  unfold Obligations.FinisherClaimsStartsAndReturns
  intro h s n d x hd hx
  refine ⟨fun hr => ⟨fun hf => exec_refused_of_ne rfl hr (by decide) (if_pos hf), fun hf hs => ?_,
      exec_claimFinish hd hx hr⟩,
    fun hr => ⟨fun hf => ?_, fun hf hl => ?_, fun hf hc => ?_, fun hf hc ha hi => ?_, fun hf hc ha hst => ?_,
      fun t c a => exec_startFinish hd hx hr⟩, fun before after hr hp => ?_⟩
  · exact exec_refused_of_ne rfl hr (by decide) (by simp [claimFinishReply, hd, hf, hs])
  · exact exec_refused_of_ne rfl hr (by decide) (by simp [startFinishReply, hd, State.finisherHolds, hf])
  · exact exec_refused_of_ne rfl hr (by decide) (by simp [startFinishReply, hd, State.finisherHolds, hf, hl])
  · exact exec_refused_of_ne rfl hr (by decide)
      (startFinishReply_refused (s := s.heard h.port) hd hf (State.startRefusal_any_fault hc))
  · exact exec_refused_of_ne rfl hr (by decide)
      (startFinishReply_refused (s := s.heard h.port) hd hf (State.startRefusal_any_busy hc ha hi))
  · exact exec_refused_of_ne rfl hr (by decide)
      (startFinishReply_refused (s := s.heard h.port) hd hf (State.startRefusal_both_stopped hc ha hst))
  · obtain ⟨p, len⟩ := h
    obtain rfl : p = .F := hp
    refine ⟨fun hf => ?_, fun hf hl => ?_, exec_finisherReturn hd hr⟩
    · exact exec_refused_of_ne (h := ⟨.F, len⟩) rfl hr (by decide)
        (by simp [finisherReturnReply, hd, State.finisherHolds, hf])
    · exact exec_refused_of_ne (h := ⟨.F, len⟩) rfl hr (by decide)
        (by simp [finisherReturnReply, hd, State.finisherHolds, hf, hl])

/-! ## STOP and RESUME from port F (R159, R160) -/

theorem RunsFinish.heard {s : State} {n : Nat} {c a : Mark} (h : RunsFinish s n c a) (p : Port) :
    RunsFinish (s.heard p) n c a := ⟨h.finisher, h.someOpen, h.uvc, h.uva⟩

theorem finisherStopReply_running {s : State} {n : Nat} {d : Docket} {c a : Mark} (hd : s.docket n = some d)
    (hf : s.finisher = .running n c a) : finisherStopReply n s =
      (s.abortFinisher .operator, .ok, [fDocket n, fCode (s.abortFinisher .operator).finisher.code]) := by
  simp [finisherStopReply, hd, State.finisherHolds, hf, FinisherRecord.docket]

theorem exec_finisherStop {s : State} {len : Nat} {n : BitVec 16} {d : Docket} {c a : Mark}
    (hr : Reaches .stop 0 ⟨.F, len⟩ s) (hd : s.docket n.toNat = some d) (hrun : RunsFinish s n.toNat c a) :
    exec (.finisherStop len n) s = .next (replied (finisherHalted s n.toNat c a .operator .operator) .F .stop .ok
      [.num .docket n.toNat, .num .code 3]) := by
  refine exec_answers_of_ne (h := ⟨.F, len⟩) rfl hr (by decide)
    ((finisherStopReply_running (s := s.heard .F) hd hrun.finisher).trans ?_)
  rw [State.heard_abortFinisher, hrun.abortFinisher_eq rfl, State.heard_finisher,
    (finisherHalted_owners s n.toNat c a .operator .operator).2]
  rfl

theorem finisherStopReply_wrongState {s : State} {n : Nat} {d : Docket} {c a : Mark} {reason : HoldReason}
    (hd : s.docket n = some d) (hf : s.finisher = .loaded n ∨ s.finisher = .halted n c a reason) :
    finisherStopReply n s = refuse s .wrongState := by
  obtain hf | hf := hf <;> simp [finisherStopReply, hd, State.finisherHolds, hf, FinisherRecord.docket]

theorem finisherResumeReply_wrongState {s : State} {n : Nat} {d : Docket} {c a : Mark}
    (hd : s.docket n = some d) (hf : s.finisher = .loaded n ∨ s.finisher = .running n c a) :
    finisherResumeReply n s = refuse s .wrongState := by
  obtain hf | hf := hf <;> simp [finisherResumeReply, hd, State.finisherHolds, hf, FinisherRecord.docket]

theorem FinisherRecord.openChannels_halted (n : Nat) (c a : Mark) (reason : HoldReason) :
    (FinisherRecord.halted n c a reason).openChannels =
      (if c = .openMark then [ChannelId.FC] else []) ++ (if a = .openMark then [ChannelId.FA] else []) := by
  cases c <;> cases a <;> rfl

theorem markAfterResume_eq {m : Mark} {ch : ChannelId} {d : Docket} {target initial : Nat}
    (ht : d.finishTarget ch = target) (hp : m = .openMark → d.finishPartial ch = initial) :
    markAfterResume m ch d = markAsked m target initial := by
  unfold markAfterResume markAsked markAfter
  by_cases hm : m = .openMark
  · rw [if_pos hm, ht, hp hm]
    by_cases hle : target ≤ initial
    · rw [if_pos hle, if_neg (by omega)]
    · rw [if_neg hle, if_pos ⟨hm, by omega⟩]
  · rw [if_neg hm, if_neg (by grind)]

theorem State.resumeFinish_eq (s : State) {m : Mark} {ch : ChannelId} {d : Docket} {target initial : Nat}
    (ht : d.finishTarget ch = target) (hp : m = .openMark → d.finishPartial ch = initial) :
    s.resumeFinish ch m d = s.askFinish m ch d target initial := by
  unfold State.resumeFinish State.askFinish
  by_cases hm : m = .openMark
  · rw [if_pos hm, if_pos hm, ht, hp hm]
  · rw [if_neg hm, if_neg hm]

theorem resumeFinishFields_eq (t : State) {m : Mark} {ch : ChannelId} {d : Docket} {target initial : Nat}
    (ht : d.finishTarget ch = target) (hp : m = .openMark → d.finishPartial ch = initial) (m' : Mark) :
    resumeFinishFields t ch m m' d = [fCode m'.code, .opt .dose (if m = .openMark then some initial else none),
      .num .dose target, .opt .figure (if m = .openMark then some (t.chan ch).prediction else none)] := by
  unfold resumeFinishFields
  by_cases hm : m = .openMark
  · simp only [hm, if_true, ht, hp hm]
  · simp only [if_neg hm, ht]

section
variable {s : State} {n : Nat} {d : Docket} {c a : Mark} {reason : HoldReason} (hd : s.docket n = some d)
  (hf : s.finisher = .halted n c a reason)
include hd hf

theorem finisherResumeReply_refused {code : ResultCode}
    (hc : s.startRefusal (FinisherRecord.halted n c a reason).openChannels = some code) :
    finisherResumeReply n s = refuse s code := by
  simp [finisherResumeReply, hd, State.finisherHolds, hf, FinisherRecord.docket, hc]

theorem finisherResumeReply_taken (hc : s.startRefusal (FinisherRecord.halted n c a reason).openChannels = none)
    {t : State}
    (ht : t = ((s.resumeFinish .FC c d).resumeFinish .FA a d).updateDocket n fun d => { d with hold := none }) :
    finisherResumeReply n s =
      (t.finishRun n (markAfterResume c .FC d) (markAfterResume a .FA d), .ok,
        fDocket n :: fCode (finishResult (markAfterResume c .FC d) (markAfterResume a .FA d)) ::
          resumeFinishFields t .FC c (markAfterResume c .FC d) d ++
          resumeFinishFields t .FA a (markAfterResume a .FA d) d) := by
  simp [finisherResumeReply, hd, State.finisherHolds, hf, FinisherRecord.docket, hc, ← ht]

end

section
variable {s : State} {n : Nat} {c a : Mark} {reason : HoldReason}

theorem State.resumeRefusal_fault (h : (c = .openMark ∧ (s.chan .FC).state = .fault) ∨
      (a = .openMark ∧ (s.chan .FA).state = .fault)) :
    s.startRefusal (FinisherRecord.halted n c a reason).openChannels = some .channelFault := by
  rw [FinisherRecord.openChannels_halted, State.startRefusal, if_pos]
  obtain ⟨hm, hs⟩ | ⟨hm, hs⟩ := h <;> simp [hm, hs]

theorem State.resumeRefusal_busy (hc : c = .openMark → (s.chan .FC).state ≠ .fault)
    (ha : a = .openMark → (s.chan .FA).state ≠ .fault)
    (h : (c = .openMark ∧ (s.chan .FC).state ≠ .idle) ∨ (a = .openMark ∧ (s.chan .FA).state ≠ .idle)) :
    s.startRefusal (FinisherRecord.halted n c a reason).openChannels = some .busy := by
  rw [FinisherRecord.openChannels_halted, State.startRefusal, if_neg, if_pos]
  · obtain ⟨hm, hs⟩ | ⟨hm, hs⟩ := h <;> simp [hm, hs]
  · by_cases hm : c = .openMark <;> by_cases hn : a = .openMark <;> simp_all

theorem State.resumeRefusal_idle (hc : c = .openMark → (s.chan .FC).state = .idle)
    (ha : a = .openMark → (s.chan .FA).state = .idle) :
    s.startRefusal (FinisherRecord.halted n c a reason).openChannels = if s.sstop then some .stopped else none := by
  rw [FinisherRecord.openChannels_halted, State.startRefusal, if_neg, if_neg]
  · by_cases hm : c = .openMark <;> by_cases hn : a = .openMark <;> simp_all
  · by_cases hm : c = .openMark <;> by_cases hn : a = .openMark <;> simp_all

end

theorem exec_finisherResume {s : State} {len : Nat} {n : BitVec 16} {d : Docket} {c a : Mark} {reason : HoldReason}
    (hr : Reaches .resume 0 ⟨.F, len⟩ s) (hd : s.docket n.toNat = some d) (hf : s.finisher = .halted n.toNat c a reason)
    {x : Snapshot} {pc pa : Nat} {t : State} {c' a' : Mark}
    (hc : c = .openMark → (s.chan .FC).state = .idle) (ha : a = .openMark → (s.chan .FA).state = .idle)
    (hst : s.sstop = false) (hx : d.snapshot = some x) (hpc : c = .openMark → d.finishPartial .FC = pc)
    (hpa : a = .openMark → d.finishPartial .FA = pa)
    (ht : t = (finisherAsked s n.toNat d c a (x.uvc * 1000) pc (x.uva * 1000) pa).updateDocket n.toNat
      fun y => { y with hold := none })
    (hc' : c' = markAsked c (x.uvc * 1000) pc) (ha' : a' = markAsked a (x.uva * 1000) pa) :
    exec (.finisherResume len n) s = .next (replied (finisherProceeds t n.toNat c' a') .F .resume .ok
      [.num .docket n.toNat, .num .code (if c' = .reached ∧ a' = .reached then 2 else 1),
       .num .code c'.code, .opt .dose (if c = .openMark then some pc else none), .num .dose (x.uvc * 1000),
       .opt .figure (if c = .openMark then some (t.chan .FC).prediction else none),
       .num .code a'.code, .opt .dose (if a = .openMark then some pa else none), .num .dose (x.uva * 1000),
       .opt .figure (if a = .openMark then some (t.chan .FA).prediction else none)]) := by
  obtain ⟨htc, hta⟩ := Docket.finishTarget_of_snapshot hx
  have hfree : s.startRefusal (FinisherRecord.halted n.toNat c a reason).openChannels = none := by
    rw [State.resumeRefusal_idle hc ha, hst]
    rfl
  have hasked : (((s.heard .F).resumeFinish .FC c d).resumeFinish .FA a d).updateDocket n.toNat
      (fun d => { d with hold := none }) = t.heard .F := by
    rw [State.resumeFinish_eq _ htc hpc, State.resumeFinish_eq _ hta hpa, State.heard_askFinish, State.heard_askFinish,
      State.askFinish_both hd, State.heard_updateDocket, ht]
  refine exec_answers_of_ne (h := ⟨.F, len⟩) rfl hr (by decide)
    ((finisherResumeReply_taken (s := s.heard .F) hd hf hfree hasked.symm).trans ?_)
  rw [State.heard_finishRun, State.finishRun_eq, markAfterResume_eq htc hpc, markAfterResume_eq hta hpa, ← hc', ← ha',
    resumeFinishFields_eq _ htc hpc, resumeFinishFields_eq _ hta hpa]
  rfl

/-- Settles O47. -/
theorem finisherStopsAndResumes : Obligations.FinisherStopsAndResumes := by
  unfold Obligations.FinisherStopsAndResumes
  rintro ⟨p, len⟩ s n d c a hp hd
  obtain rfl : p = .F := hp
  have stopRefused (hr : Reaches .stop 0 ⟨.F, len⟩ s) {code : ResultCode}
      (ho : finisherStopReply n.toNat (s.heard .F) = refuse (s.heard .F) code) :
      exec (.finisherStop len n) s = .next (replied s .F .stop code []) :=
    exec_refused_of_ne (h := ⟨.F, len⟩) rfl hr (by decide) ho
  have resumeRefused (hr : Reaches .resume 0 ⟨.F, len⟩ s) {code : ResultCode}
      (ho : finisherResumeReply n.toNat (s.heard .F) = refuse (s.heard .F) code) :
      exec (.finisherResume len n) s = .next (replied s .F .resume code []) :=
    exec_refused_of_ne (h := ⟨.F, len⟩) rfl hr (by decide) ho
  refine ⟨fun hr => ⟨exec_finisherStop hr hd, fun hf => stopRefused hr ?_, fun reason hf =>
      stopRefused hr (finisherStopReply_wrongState (s := s.heard .F) hd hf)⟩,
    fun hr => ⟨fun hf => resumeRefused hr ?_, fun hf =>
      resumeRefused hr (finisherResumeReply_wrongState (s := s.heard .F) hd hf), fun reason hf => ⟨fun hb => ?_,
        fun hc ha hb => ?_, fun hc ha hopen hst => ?_, fun x hold pc pa t c' a' hc ha hst hx hh hpc hpa => ?_⟩⟩⟩
  · simp [finisherStopReply, hd, State.finisherHolds, hf]
  · simp [finisherResumeReply, hd, State.finisherHolds, hf]
  · exact resumeRefused hr (finisherResumeReply_refused (s := s.heard .F) hd hf (State.resumeRefusal_fault hb))
  · exact resumeRefused hr (finisherResumeReply_refused (s := s.heard .F) hd hf (State.resumeRefusal_busy hc ha hb))
  · have hstop : s.startRefusal (FinisherRecord.halted n.toNat c a reason).openChannels = some .stopped := by
      rw [State.resumeRefusal_idle hc ha, hst]
      rfl
    exact resumeRefused hr (finisherResumeReply_refused (s := s.heard .F) hd hf hstop)
  · exact exec_finisherResume hr hd hf hc ha hst hx (fun hm => by simp [Docket.finishPartial, hh, hpc hm])
      (fun hm => by simp [Docket.finishPartial, hh, hpa hm])

end Sys2Proof.Machine
end

section
/-! SUPPORT. The requests on the solvent bath (R121 to R123, R129 to R133). -/

namespace Sys2Proof.Machine

theorem Bath.judged_ne_unknown (b : Bath) (l : LineSettings) : b.judged l ≠ .unknown := by
  unfold Bath.judged
  split
  · decide
  · split
    · decide
    · split <;> decide

/-- R122, R123: the account judged anew, and the notices of a condition that changed. -/
theorem State.judgeBath_cases {s t : State} {b : Bath} {cond : BathCondition} (hc : b.judged s.working.line = cond)
    (ht : t = { s with bath := { b with condition := cond } }) : s.judgeBath b =
      if cond = s.bath.condition ∨ cond = .normal then t
      else if cond = .warn then (t.raise .W .bathWarn none).raise .E .bathWarn none
      else (t.raise .W .bathHalt none).raise .E .bathHalt none := by
  have hjudge : s.judgeBath b = if cond = s.bath.condition then t
      else match conditionNotice cond with
        | some k => (t.raise .W k none).raise .E k none
        | none => t := by
    rw [State.judgeBath, hc, ht] <;> rfl
  have hne : cond ≠ .unknown := hc ▸ b.judged_ne_unknown s.working.line
  rw [hjudge]
  by_cases h : cond = s.bath.condition
  · rw [if_pos h, if_pos (.inl h)]
  · rw [if_neg h]
    cases cond with
    | unknown => contradiction
    | normal => exact (if_pos (.inr rfl)).symm
    | warn => rw [if_neg (by simp [h]), if_pos rfl]; rfl
    | spent => rw [if_neg (by simp [h]), if_neg (by decide)]; rfl
    | low => rw [if_neg (by simp [h]), if_neg (by decide)]; rfl

theorem Bath.correctionFor_eq (b : Bath) (m : Nat) : b.correctionFor m =
    if b.condition = .unknown then none else some (max (-32767) (min 32767 ((b.load : Int) - (m : Int)))) := by
  unfold Bath.correctionFor
  split
  · rename_i h
    rw [if_pos h]
  · rename_i h
    rw [if_neg h]

/-- R132: drained, filled and overflowed. -/
theorem Bath.replenished_eq (b : Bath) {vd va volMax m1 v1 m v : Nat}
    (hm1 : m1 = if b.volume ≤ vd then 0 else b.mass * (b.volume - vd) / b.volume)
    (hv1 : v1 = (if b.volume ≤ vd then 0 else b.volume - vd) + va)
    (hm : m = if volMax < v1 then m1 * volMax / v1 else m1) (hv : v = min v1 volMax) :
    b.replenished vd va volMax = { b with mass := m, volume := v } := by
  have hfilled : (b.drain vd).fill va = { b with mass := m1, volume := v1 } := by
    unfold Bath.drain Bath.fill
    by_cases h : b.volume ≤ vd
    · rw [if_pos h] at hm1 hv1 ⊢
      rw [hm1, hv1]
    · rw [if_neg h] at hm1 hv1 ⊢
      rw [hm1, hv1]
  rw [Bath.replenished, hfilled, Bath.overflow]
  by_cases h : volMax < v1
  · rw [if_pos h] at hm ⊢
    rw [hm, hv, Nat.min_eq_right (Nat.le_of_lt h)]
  · rw [if_neg h] at hm ⊢
    rw [hm, hv, Nat.min_eq_left (Nat.not_lt.mp h)]

theorem replenishReply_taken {s : State} (h : s.bath.condition ≠ .unknown) {drained added vd va : Nat}
    (hvd : vd = min 9000 drained) (hva : va = min 9000 added) {b : Bath}
    (hb : s.bath.replenished vd va s.working.line.bathVolMax = b) : replenishReply drained added s =
      (s.judgeBath b, .ok,
        [.num .volume vd, .num .volume va, .num .mass (s.judgeBath b).bath.mass, .num .volume (s.judgeBath b).bath.volume,
         .num .load (s.judgeBath b).bath.shownLoad, .num .mass (s.bath.mass - (s.judgeBath b).bath.mass),
         fCode (s.judgeBath b).bath.condition.code]) := by
  simp only [replenishReply, if_neg h, ← hvd, ← hva, hb, State.recomputeBath]

/-- Settles O51. -/
theorem bathRequests : Obligations.BathRequests := by
  unfold Obligations.BathRequests
  intro h s ht
  refine ⟨fun load volume m v cond t hr hm hv hc hs => ?_, fun drained added hr hu => exec_refused rfl hr ht (if_pos hu),
    fun drained added vd va m1 v1 m v load cond t hr hu hvd hva hm1 hv1 hm hv hl hc hs => ?_⟩
  · have hreported : s.bath.reported m v s.seconds =
        { s.bath with mass := m * v * 10, volume := v, reportedAt := some (s.now / 1000)
                      correction := s.bath.correctionFor m } := rfl
    have hjudged : (s.bath.reported m v s.seconds).judged s.working.line = cond := hc.symm
    have hcorr : t.bath.correction = s.bath.correctionFor m := by
      rw [hs, Bath.correctionFor_eq]
      rfl
    have ht' : t = { s with bath := { s.bath.reported m v s.seconds with condition := cond } } := by
      rw [hs, hreported, Bath.correctionFor_eq]
      rfl
    refine exec_answers rfl hr ht ?_
    rw [reportBathReply, State.heard_working, State.heard_bath, State.heard_seconds, ← hm, ← hv, State.heard_judgeBath, State.heard_bath, s.judgeBath_bath, hjudged, State.judgeBath_cases hjudged ht', hcorr]
    rfl
  · have hb : s.bath.replenished vd va s.working.line.bathVolMax = { s.bath with mass := m, volume := v } :=
      Bath.replenished_eq s.bath hm1 hv1 hm hv
    have hjudged : ({ s.bath with mass := m, volume := v } : Bath).judged s.working.line = cond := by
      rw [hc, hl]
      rfl
    have hload : ({ s.bath with mass := m, volume := v, condition := cond } : Bath).shownLoad = min 65535 load := by
      rw [Bath.shownLoad, Nat.min_comm, hl]
      rfl
    refine exec_answers rfl hr ht ((replenishReply_taken (s := s.heard h.port) hu hvd hva hb).trans ?_)
    rw [State.heard_judgeBath, State.heard_bath, State.heard_bath, s.judgeBath_bath, hjudged,
      State.judgeBath_cases hjudged hs, hload]
    rfl

end Sys2Proof.Machine
end

section
/-! SUPPORT. FEED and its refusals (R99 to R105, R124, R125). -/

namespace Sys2Proof.Machine

/-! ## The scan of the queue (R101, R104) -/

theorem compatible_iff {l : LineSettings} {v r : Nat} :
    compatible l v r = true ↔ v ≤ r ∧ r * (1000 - l.speedBand) ≤ v * 1000 := by simp [compatible]

section
variable {s : State} {v : Nat}

/-- R104: dockets that do not suit the belt and were not passed over three times are passed over. -/
theorem State.scanQueue_skip {passed : List Nat} (acc rest : List Nat)
    (h : ∀ m ∈ passed, ∃ e, s.docket m = some e ∧ e.passOver ≠ 3 ∧
      ¬compatible s.working.line v (e.vReq s.bath s.working.line) = true) :
    s.scanQueue v acc (passed ++ rest) = s.scanQueue v (acc ++ passed) rest := by
  induction passed generalizing acc with
  | nil => rw [List.nil_append, List.append_nil]
  | cons m l ih =>
    obtain ⟨e, he, hpass, hcomp⟩ := h m List.mem_cons_self
    rw [List.cons_append, State.scanQueue, he]
    dsimp only
    rw [if_neg hcomp, if_neg hpass, ih (acc ++ [m]) fun x hx => h x (List.mem_cons_of_mem m hx), List.append_assoc,
      List.singleton_append]

theorem State.scanQueue_take {n : Nat} {d : Docket} (acc rest : List Nat) (hd : s.docket n = some d)
    (h : compatible s.working.line v (d.vReq s.bath s.working.line) = true) :
    s.scanQueue v acc (n :: rest) = some (n, acc) := by
  rw [State.scanQueue, hd]
  exact if_pos h

theorem State.scanQueue_stop {n : Nat} {d : Docket} (acc rest : List Nat) (hd : s.docket n = some d)
    (h : ¬compatible s.working.line v (d.vReq s.bath s.working.line) = true) (h3 : d.passOver = 3) :
    s.scanQueue v acc (n :: rest) = none := by
  rw [State.scanQueue, hd]
  dsimp only
  rw [if_neg h, if_pos h3]

theorem State.heard_scanQueue (p : Port) (acc l : List Nat) :
    (s.heard p).scanQueue v acc l = s.scanQueue v acc l := by
  induction l generalizing acc with
  | nil => rfl
  | cons n l ih =>
    rw [State.scanQueue, State.scanQueue, State.heard_docket]
    simp only [ih]
    rfl

end

theorem State.heard_selectFeed (s : State) (p : Port) : (s.heard p).selectFeed = s.selectFeed := by
  unfold State.selectFeed
  simp only [State.heard_belt, State.heard_beltSpeed, State.heard_washQueue, State.heard_scanQueue, State.heard_docket,
    State.heard_bath, State.heard_working]

theorem State.selectFeed_running {s : State} (h : s.belt ≠ []) {v : Nat} (hv : s.beltSpeed = some v) :
    s.selectFeed = (s.scanQueue v [] s.washQueue).map fun x => { docket := x.1, passed := x.2, speed := v } := by
  obtain ⟨b, l, hb⟩ := List.exists_cons_of_ne_nil h
  rw [State.selectFeed, hb, hv]

theorem State.selectFeed_empty {s : State} (h : s.belt = []) {n : Nat} {rest : List Nat} (hq : s.washQueue = n :: rest)
    {d : Docket} (hd : s.docket n = some d) :
    s.selectFeed = some { docket := n, passed := [], speed := d.vReq s.bath s.working.line } := by
  rw [State.selectFeed, h, hq]
  simp only [hd]
  rfl

/-! ## The refusals (R102, R104) -/

theorem State.heard_offerRefused (s : State) (p : Port) : (s.heard p).offerRefused = s.offerRefused.heard p := by
  unfold State.offerRefused
  simp only [State.heard_washQueue, State.heard_offerFor]
  split <;> rfl

theorem State.offerRefused_empty {s : State} (h : s.washQueue = []) :
    s.offerRefused = s.offer .feedRefused 1 none none := by
  rw [State.offerRefused, h]

theorem State.offerRefused_head {s : State} {n : Nat} {q : List Nat} {d : Docket} (h : s.washQueue = n :: q)
    (hd : s.docket n = some d) : s.offerRefused = s.offer .feedRefused 1 (some (d.recipe, d.cls)) none := by
  rw [State.offerRefused, h]
  simp only [State.offerFor, hd]
  rfl

section
variable {s : State}

theorem feedReply_bath {code : ResultCode} (h : bathRefusal s.bath.condition = some code) :
    feedReply s = refuse s code := by
  rw [feedReply, h]

theorem bathRefusal_none (h : s.bath.condition = .normal ∨ s.bath.condition = .warn) :
    bathRefusal s.bath.condition = none := by
  obtain h | h := h <;> rw [h] <;> rfl

theorem feedReply_stopped (hb : bathRefusal s.bath.condition = none) (ht : s.tpm = false) :
    feedReply s = refuse s .stopped := by
  simp [feedReply, hb, ht]

theorem feedReply_noRoom (hb : bathRefusal s.bath.condition = none) (ht : s.tpm = true)
    (hp : s.working.line.beltPlaces ≤ s.belt.length) : feedReply s = refuse s.offerRefused .noRoom := by
  simp [feedReply, hb, ht, hp]

theorem feedReply_empty (hb : bathRefusal s.bath.condition = none) (ht : s.tpm = true)
    (hp : s.belt.length < s.working.line.beltPlaces) (hq : s.washQueue = []) : feedReply s = refuse s .empty := by
  simp [feedReply, hb, ht, Nat.not_le.mpr hp, hq]

theorem feedReply_wait (hb : bathRefusal s.bath.condition = none) (ht : s.tpm = true)
    (hp : s.belt.length < s.working.line.beltPlaces) (hq : s.washQueue ≠ []) (hs : s.selectFeed = none) :
    feedReply s = refuse s.offerRefused .wait := by
  simp [feedReply, hb, ht, Nat.not_le.mpr hp, hq, hs]

theorem feedReply_taken (hb : bathRefusal s.bath.condition = none) (ht : s.tpm = true)
    (hp : s.belt.length < s.working.line.beltPlaces) (hq : s.washQueue ≠ []) {c : FeedChoice}
    (hs : s.selectFeed = some c) {d : Docket} (hd : s.docket c.docket = some d) :
    feedReply s = ((s.passOver c.passed).feedDocket d c.speed, .ok,
      [fDocket d.number, .num .speed c.speed, fTime (dwell s.working.line c.speed),
       .num .flags (expectationFlags s.working.line (d.requiredSpeed s.bath s.working.line)),
       fCode (d.passes.length + 1)]) := by
  simp [feedReply, hb, ht, Nat.not_le.mpr hp, hq, hs, hd]

end

/-- R116: a frame from an ONLINE port W has the permit follow SSTOP. -/
theorem State.heard_tpm_of_feed {h : Hdr} {s : State} (hr : Reaches .feed 0 h s) : (s.heard h.port).tpm = !s.sstop := by
  have hport : h.port = .W := by simpa [Request.ports] using hr.2.1
  exact if_pos hport

/-- Settles O49. -/
theorem feedRefusals : Obligations.FeedRefusals := by
  unfold Obligations.FeedRefusals
  intro h s hr ht
  have htpm := State.heard_tpm_of_feed hr
  have condition {b : BathCondition} {code : ResultCode} (hb : s.bath.condition = b) (hc : bathRefusal b = some code) :
      exec (.feed h) s = .next (replied s h.port .feed code []) :=
    exec_refused rfl hr ht (feedReply_bath (s := s.heard h.port) (by rw [State.heard_bath, hb, hc]))
  refine ⟨fun hb => condition hb rfl, fun hb => condition hb rfl, fun hb => condition hb rfl, fun hb => ?_⟩
  have hbath : bathRefusal (s.heard h.port).bath.condition = none := bathRefusal_none (s := s.heard h.port) hb
  refine ⟨fun hst => ?_, fun hst hp hq => ?_, fun n q d hst hp hq hd => ?_, fun hst hp hq => ?_,
    fun n q d speed passed rest hst hp hbelt hspeed hq hd hsplit hlive hpassed hrest => ?_⟩
  · exact exec_refused rfl hr ht (feedReply_stopped hbath (by rw [htpm, hst]; rfl))
  · refine exec_answers rfl hr ht ((feedReply_noRoom hbath (by rw [htpm, hst]; rfl) hp).trans ?_)
    rw [State.heard_offerRefused, State.offerRefused_empty hq]
    rfl
  · refine exec_answers rfl hr ht ((feedReply_noRoom hbath (by rw [htpm, hst]; rfl) hp).trans ?_)
    rw [State.heard_offerRefused, State.offerRefused_head hq hd]
    rfl
  · exact exec_refused rfl hr ht (feedReply_empty hbath (by rw [htpm, hst]; rfl) hp hq)
  · have hskip : ∀ m ∈ passed, ∃ e, s.docket m = some e ∧ e.passOver ≠ 3 ∧
        ¬compatible s.working.line speed (e.vReq s.bath s.working.line) = true := by
      intro m hm
      obtain ⟨e, he⟩ := hlive m (by rw [hsplit]; exact List.mem_append_left rest hm)
      obtain ⟨h3, hc⟩ := hpassed m hm e he
      exact ⟨e, he, h3, fun hx => hc (compatible_iff.mp hx)⟩
    have hscan : s.scanQueue speed [] s.washQueue = none := by
      rw [hsplit, State.scanQueue_skip [] rest hskip]
      obtain rfl | ⟨m, l, e, rfl, he, h3, hc⟩ := hrest
      · rfl
      · exact State.scanQueue_stop _ l he (fun hx => hc (compatible_iff.mp hx)) h3
    have hselect : (s.heard h.port).selectFeed = none := by
      rw [State.heard_selectFeed, State.selectFeed_running hbelt hspeed, hscan]
      rfl
    refine exec_answers rfl hr ht ((feedReply_wait hbath (by rw [htpm, hst]; rfl) hp
      (by rw [State.heard_washQueue, hq]; exact List.cons_ne_nil n q) hselect).trans ?_)
    rw [State.heard_offerRefused, State.offerRefused_head hq hd]
    rfl

/-! ## The dockets passed over (R104) -/

theorem State.offerFor_counters_congr {s t : State} {n : Nat} (hl : t.counters = s.counters)
    (hs : (t.docket n).map Docket.subject = (s.docket n).map Docket.subject) (e : CounterEvent) (a : Nat) :
    (t.offerFor e a n false).counters = (s.offerFor e a n false).counters := by
  unfold State.offerFor
  cases h : s.docket n with
  | none =>
    rw [h, Option.map_none, Option.map_eq_none_iff] at hs
    rw [hs]
    exact hl
  | some d =>
    rw [h, Option.map_some, Option.map_eq_some_iff] at hs
    obtain ⟨x, hx, he⟩ := hs
    rw [hx]
    dsimp only
    rw [he]
    exact State.offer_counters_congr hl _ _ _ _

theorem State.passOver_counters {s t : State} (ns : List Nat) (hl : t.counters = s.counters)
    (hs : ∀ m, (t.docket m).map Docket.subject = (s.docket m).map Docket.subject) :
    (t.passOver ns).counters = (ns.foldl (fun (r : State) m => r.offerFor .passOver 1 m false) s).counters := by
  induction ns generalizing s t with
  | nil => exact hl
  | cons n ns ih =>
    have hupdated (m : Nat) : ((t.updateDocket n fun d => { d with passOver := d.passOver + 1 }).docket m).map
        Docket.subject = (s.docket m).map Docket.subject := by
      rw [State.updateDocket_docket]
      · rw [← hs m]
        split
        · rename_i hm
          rw [hm, Option.map_map]
          rfl
        · rfl
      · exact fun _ => rfl
    rw [State.passOver, List.foldl_cons, List.foldl_cons]
    refine ih (State.offerFor_counters_congr (by simpa using hl) (hupdated n) _ _) fun m => ?_
    rw [State.offerFor_docket, State.offerFor_docket]
    exact hupdated m

theorem State.passOver_docket (s : State) {ns : List Nat} (hn : ns.Nodup) (m : Nat) : (s.passOver ns).docket m =
    if m ∈ ns then (s.docket m).map fun d => { d with passOver := d.passOver + 1 } else s.docket m := by
  induction ns generalizing s with
  | nil => exact (if_neg List.not_mem_nil).symm
  | cons n ns ih =>
    obtain ⟨hnot, hns⟩ := List.nodup_cons.mp hn
    have hfirst : ((s.updateDocket n fun d => { d with passOver := d.passOver + 1 }).offerFor .passOver 1 n
        false).docket m = if m = n then (s.docket m).map fun d => { d with passOver := d.passOver + 1 } else s.docket m := by
      rw [State.offerFor_docket, State.updateDocket_docket]
      · split
        · rename_i h
          rw [h]
        · rfl
      · exact fun _ => rfl
    rw [State.passOver, List.foldl_cons]
    refine (ih _ hns).trans ?_
    rw [hfirst]
    by_cases hm : m = n
    · subst hm
      rw [if_neg hnot, if_pos rfl, if_pos List.mem_cons_self]
    · simp [hm]

theorem State.heard_passOver (s : State) (p : Port) (ns : List Nat) : (s.heard p).passOver ns = (s.passOver ns).heard p := by
  unfold State.passOver
  induction ns generalizing s with
  | nil => rfl
  | cons n ns ih => rw [List.foldl_cons, List.foldl_cons, State.heard_updateDocket, State.heard_offerFor, ih]

/-! ## The plate put on the belt (R105) -/

theorem State.heard_feedDocket (s : State) (p : Port) (d : Docket) (v : Nat) :
    (s.heard p).feedDocket d v = (s.feedDocket d v).heard p := by
  unfold State.feedDocket
  simp only [State.heard_washQueue, State.heard_belt, State.heard_setWashQueue]
  rw [← State.heard_offerFor, ← State.heard_updateDocket]
  rfl

theorem State.feedDocket_docket {s : State} {n : Nat} {d : Docket} (hd : s.docket n = some d) (hn : d.number = n) (v m : Nat) :
    (s.feedDocket d v).docket m = if m = n then
      some { d with state := .onBelt, sub := .none, passOver := 0, passes := d.passes ++ [s.newPass d v] }
      else s.docket m := by
  subst hn
  rw [State.feedDocket, State.offerFor_docket, State.updateDocket_docket]
  · split
    · show Option.map _ (s.docket d.number) = _
      rw [hd]
      rfl
    · rfl
  · exact fun _ => rfl

theorem State.feedDocket_counters {s : State} {n : Nat} {d : Docket} (hd : s.docket n = some d) (hn : d.number = n) (v : Nat) :
    (s.feedDocket d v).counters = (s.offer .fed 1 (some (d.recipe, d.cls)) none).counters := by
  subst hn
  rw [State.feedDocket]
  refine (State.offerFor_counters_congr (s := s) (by simp) ?_ _ _).trans (State.offerFor_counters hd _ _ _)
  rw [State.updateDocket_docket]
  · rw [if_pos rfl, Option.map_map]
    rfl
  · exact fun _ => rfl

theorem State.feedDocket_moved (s : State) (d : Docket) (v : Nat) :
    (s.feedDocket d v).washQueue = s.washQueue.filter (fun m => m != d.number) ∧
    (s.feedDocket d v).belt = s.belt ++
      [{ docket := d.number, feedTime := s.seconds, expectedExit := s.expectedExit v, overdueRaised := false }] ∧
    (s.feedDocket d v).beltSpeed = some v := by
  simp [State.feedDocket]

theorem filter_ne_between {before after : List Nat} {n : Nat} (h : (before ++ n :: after).Nodup) :
    (before ++ n :: after).filter (fun m => m != n) = before ++ after := by
  obtain ⟨-, ha, hdisj⟩ := List.nodup_append.mp h
  obtain ⟨hna, -⟩ := List.nodup_cons.mp ha
  have keep {l : List Nat} (hl : n ∉ l) : l.filter (fun m => m != n) = l :=
    List.filter_eq_self.mpr fun m hm => bne_iff_ne.mpr fun e => hl (e ▸ hm)
  rw [List.filter_append, List.filter_cons_of_neg (by simp), keep hna,
    keep fun hm => hdisj n hm n List.mem_cons_self rfl]

end Sys2Proof.Machine
end

section
/-! SUPPORT. The plate that a FEED puts on the belt (R99 to R105, R124, R125). -/

namespace Sys2Proof.Machine

/-! ## The washout figures of a docket with a snapshot (R99, R100) -/

section
variable {d : Docket} {x : Snapshot} (hx : d.snapshot = some x) {b : Bath} {l : LineSettings}
include hx

theorem Docket.rate_of_snapshot : d.rate b l = max 1 (x.w0 * max 250 (1000 - l.derate *
    (if b.volume = 0 then 0 else b.mass / (10 * b.volume)) / 10) / 1000) := by
  simp only [Docket.rate, hx]
  rfl

theorem Docket.requiredSpeed_of_snapshot : d.requiredSpeed b l = l.pathLength * 60 /
    (((x.relief - d.removed) * x.margin * 60 + d.rate b l * 1000 - 1) / (d.rate b l * 1000)) := by
  simp only [Docket.requiredSpeed, Docket.washTime, Docket.reliefLeft, hx]
  rfl

end

theorem Docket.vReq_eq (d : Docket) (b : Bath) (l : LineSettings) :
    d.vReq b l = max l.speedMin (min l.speedMax (d.requiredSpeed b l)) := rfl

/-! ## What a FEED leaves -/

section
variable {s : State} {n : Nat} {d : Docket} {passed rest : List Nat} (hd : s.docket n = some d)
  (hq : s.washQueue = passed ++ n :: rest) (hnodup : s.washQueue.Nodup) (v : Nat)
include hd hq hnodup

theorem State.passOver_docket_fed : (s.passOver passed).docket n = some d := by
  have hsplit : (passed ++ n :: rest).Nodup := hq ▸ hnodup
  obtain ⟨hp, -, hdisj⟩ := List.nodup_append.mp hsplit
  rw [State.passOver_docket s hp, if_neg fun hm => hdisj n hm n List.mem_cons_self rfl, hd]

theorem State.fed_docket (m : Nat) : ((s.passOver passed).feedDocket d v).docket m =
    if m = n then some { d with state := .onBelt, sub := .none, passOver := 0
                                passes := d.passes ++ [(s.passOver passed).newPass d v] }
    else if m ∈ passed then (s.docket m).map fun e => { e with passOver := e.passOver + 1 } else s.docket m := by
  have hsplit : (passed ++ n :: rest).Nodup := hq ▸ hnodup
  obtain ⟨hp, -, -⟩ := List.nodup_append.mp hsplit
  rw [State.feedDocket_docket (State.passOver_docket_fed hd hq hnodup) (State.docket_number hd),
    State.passOver_docket s hp]

theorem State.fed_counters : ((s.passOver passed).feedDocket d v).counters =
    ((passed.foldl (fun (r : State) m => r.offerFor .passOver 1 m false) s).offer .fed 1
      (some (d.recipe, d.cls)) none).counters := by
  rw [State.feedDocket_counters (State.passOver_docket_fed hd hq hnodup) (State.docket_number hd)]
  exact State.offer_counters_congr (State.passOver_counters passed rfl fun _ => rfl) _ _ _ _

theorem State.fed_eq : (s.passOver passed).feedDocket d v = { s with
    slots := ((s.passOver passed).feedDocket d v).slots, washQueue := passed ++ rest, beltSpeed := some v
    belt := s.belt ++ [{ docket := n, feedTime := s.now / 1000, overdueRaised := false
                         expectedExit := s.expectedExit v }]
    counters := ((passed.foldl (fun (r : State) m => r.offerFor .passOver 1 m false) s).offer .fed 1
      (some (d.recipe, d.cls)) none).counters } := by
  obtain ⟨hqueue, hbelt, hspeed⟩ := (s.passOver passed).feedDocket_moved d v
  have hn := State.docket_number hd
  have hexit : (s.passOver passed).expectedExit v = s.expectedExit v := by simp [State.expectedExit, State.seconds]
  refine State.ext (by simp) (by simp) (by simp) (by simp) (by simp) (by simp) (by dsimp only) (by simp) (by simp) (by simp)
    (by simp) (by simp) (by simp) (by simp) (by simp) (by simp) ?_ ?_ hspeed (by simp) (by simp) (by simp)
    (State.fed_counters hd hq hnodup v) (by simp)
  · rw [hqueue, hn, show (s.passOver passed).washQueue = s.washQueue by simp, hq]
    exact filter_ne_between (hq ▸ hnodup)
  · rw [hbelt, hexit, hn, State.seconds]
    simp

end

/-- R103, R104: the choice of a FEED on an empty and on a running belt. -/
theorem State.selectFeed_chosen {s : State} {n speed v : Nat} {d : Docket} {passed rest : List Nat}
    (hd : s.docket n = some d) (hq : s.washQueue = passed ++ n :: rest) (hv : d.vReq s.bath s.working.line = v)
    (hcase : (s.belt = [] ∧ passed = [] ∧ speed = v) ∨
      (s.belt ≠ [] ∧ s.beltSpeed = some speed ∧ speed ≤ v ∧ v * (1000 - s.working.line.speedBand) ≤ speed * 1000 ∧
        ∀ m ∈ passed, ∃ e, s.docket m = some e ∧ e.passOver ≠ 3 ∧
          ¬(speed ≤ e.vReq s.bath s.working.line ∧
            e.vReq s.bath s.working.line * (1000 - s.working.line.speedBand) ≤ speed * 1000))) :
    s.selectFeed = some { docket := n, passed := passed, speed := speed } := by
  obtain ⟨hb, rfl, rfl⟩ | ⟨hb, hspeed, hle, hband, hpassed⟩ := hcase
  · rw [State.selectFeed_empty hb hq hd, hv]
  · have hskip : ∀ m ∈ passed, ∃ e, s.docket m = some e ∧ e.passOver ≠ 3 ∧
        ¬compatible s.working.line speed (e.vReq s.bath s.working.line) = true :=
      fun m hm => (hpassed m hm).imp fun e he => ⟨he.1, he.2.1, fun hx => he.2.2 (compatible_iff.mp hx)⟩
    rw [State.selectFeed_running hb hspeed, hq, State.scanQueue_skip [] _ hskip,
      State.scanQueue_take _ rest hd (compatible_iff.mpr ⟨by rw [hv]; exact hle, by rw [hv]; exact hband⟩)]
    rfl

/-- Settles O48. -/
theorem feedPutsAPlateOnTheBelt : Obligations.FeedPutsAPlateOnTheBelt := by
  unfold Obligations.FeedPutsAPlateOnTheBelt
  intro h s n speed d x passed rest w need v time hr ht hst hb hp hq hnodup hd hx hw hneed hv hcase htime
  have hrate : d.rate s.bath s.working.line = w := (Docket.rate_of_snapshot hx).trans hw.symm
  have hrequired : d.requiredSpeed s.bath s.working.line = need := by
    rw [Docket.requiredSpeed_of_snapshot hx, hrate, hneed]
  have hreq : d.vReq s.bath s.working.line = v := by rw [Docket.vReq_eq, hrequired, hv]
  have hdwell : dwell s.working.line speed = time := htime.symm
  have hexit : s.expectedExit speed = (s.now / 1000 + time + s.working.line.exitGrace) % 4294967296 := by
    rw [State.expectedExit, hdwell]
    rfl
  have hpass : (s.passOver passed).newPass d speed =
      { feedTime := s.now / 1000, w := w, vReq := v, vBelt := speed
        expectedExit := (s.now / 1000 + time + s.working.line.exitGrace) % 4294967296
        exitTime := none, depth := none, underwash := false, overwash := false
        overdue := false, beltStopped := false } := by
    rw [State.newPass, show (s.passOver passed).expectedExit speed = s.expectedExit speed by
      simp [State.expectedExit, State.seconds], hexit, show (s.passOver passed).bath = s.bath by simp,
      show (s.passOver passed).working = s.working by simp, hrate, hreq,
      show (s.passOver passed).seconds = s.now / 1000 by simp [State.seconds]]
  have hdocket := State.fed_docket hd hq hnodup speed
  have hsplit : (passed ++ n :: rest).Nodup := hq ▸ hnodup
  obtain ⟨-, -, hdisj⟩ := List.nodup_append.mp hsplit
  have hne {m : Nat} (hm : m ∈ passed) : m ≠ n := hdisj m hm n List.mem_cons_self
  refine ⟨(s.passOver passed).feedDocket d speed, ?_, ?_, fun m hm e he => ?_, fun m hm hnot => ?_, ?_⟩
  · have hselect : (s.heard h.port).selectFeed = some { docket := n, passed := passed, speed := speed } := by
      rw [State.heard_selectFeed, State.selectFeed_chosen hd hq hreq hcase]
    have hqueue : (s.heard h.port).washQueue ≠ [] := by
      rw [State.heard_washQueue, hq]
      exact List.append_ne_nil_of_right_ne_nil passed (List.cons_ne_nil n rest)
    refine exec_answers rfl hr ht ((feedReply_taken (s := s.heard h.port) (bathRefusal_none hb)
      (by rw [State.heard_tpm_of_feed hr, hst]; rfl) hp hqueue hselect hd).trans ?_)
    rw [State.heard_passOver, State.heard_feedDocket, State.heard_working, State.heard_bath, hdwell, hrequired,
      State.docket_number hd]
    rfl
  · rw [hdocket, if_pos rfl, hpass]
  · rw [hdocket, if_neg (hne hm), if_pos hm, he]
    rfl
  · rw [hdocket, if_neg hm, if_neg hnot]
  · have h := State.fed_eq hd hq hnodup speed
    rwa [hexit] at h

end Sys2Proof.Machine
end

section
/-! SUPPORT. EXIT (R110 to R113, R126, R127). -/

namespace Sys2Proof.Machine

/-! ## The newest pass (R6) -/

theorem modify_last {α : Type} (l : List α) (x : α) (f : α → α) : (l ++ [x]).modify l.length f = l ++ [f x] := by
  induction l with
  | nil => rfl
  | cons y l ih => rw [List.cons_append, List.length_cons, List.modify_succ_cons, ih, List.cons_append]

section
variable {d : Docket} {passes : List WashPass} {p : WashPass} (h : d.passes = passes ++ [p])
include h

theorem Docket.newest_of_passes : d.newest = some p := by
  rw [Docket.newest, h, List.getLast?_concat]

theorem Docket.updateNewest_passes (f : WashPass → WashPass) : (d.updateNewest f).passes = passes ++ [f p] := by
  rw [Docket.updateNewest, h]
  simp [modify_last]

end

/-! ## Operations on states that share their dockets -/

theorem State.joinClass_of_slots {s t : State} (h : t.slots = s.slots) (q : List Nat) (n : Nat) :
    t.joinClass q n = s.joinClass q n := by
  have hclass : t.classOf = s.classOf := by
    funext m
    unfold State.classOf
    rw [State.docket_of_slots h]
  unfold State.joinClass
  rw [hclass]

theorem State.offerFor_updateDocket {s : State} {n : Nat} {d : Docket} (hd : s.docket n = some d) {f : Docket → Docket}
    (hf : ∀ x, (f x).number = x.number) (hs : (f d).subject = d.subject) (e : CounterEvent) (a : Nat) :
    (s.updateDocket n f).offerFor e a n false = (s.updateDocket n f).offer e a (some (d.recipe, d.cls)) none := by
  have hdocket := State.updateDocket_docket s n n f hf
  rw [if_pos rfl, hd] at hdocket
  simp only [State.offerFor, hdocket, Option.map_some, hs]
  rfl

/-! ## The pass at its exit (R111, R112) -/

theorem Docket.reliefLeft_of_snapshot {d : Docket} {x : Snapshot} (h : d.snapshot = some x) :
    d.reliefLeft = x.relief - d.removed := by
  rw [Docket.reliefLeft, h]

/-- R111: the docket after a pass removed `taken` and ended as `p'`. -/
def Docket.exited (d : Docket) (p' : WashPass) (taken : Nat) : Docket :=
  { d.updateNewest (fun _ => p') with removed := d.removed + taken }

/-- R111, R126: the line after its head left the belt, before the mass goes to the bath. -/
def State.leftBelt (s : State) (n : Nat) (d : Docket) (belt : List BeltRecord) (p' : WashPass) (taken mass : Nat) : State :=
  { s.updateDocket n fun z => z.exited p' taken with
    belt := belt, beltSpeed := if belt = [] then none else s.beltSpeed
    counters := ((s.offer .washed 1 (some (d.recipe, d.cls)) none).offer .massAdded mass
      (some (d.recipe, d.cls)) none).counters }

section
variable {s : State} {n : Nat} {d : Docket} {p' : WashPass} {b : BeltRecord} {belt : List BeltRecord} {taken mass : Nat}

theorem State.leftBelt_frame : (s.leftBelt n d belt p' taken mass).slots = (s.updateDocket n fun z => z.exited p' taken).slots ∧
    (s.leftBelt n d belt p' taken mass).bath = s.bath ∧ (s.leftBelt n d belt p' taken mass).dryQueue = s.dryQueue ∧
    (s.leftBelt n d belt p' taken mass).now = s.now := by
  simp only [State.leftBelt, State.updateDocket, State.setSlots, and_self]

theorem State.leftBelt_docket (hd : s.docket n = some d) :
    (s.leftBelt n d belt p' taken mass).docket n = some (d.exited p' taken) := by
  rw [State.docket_of_slots State.leftBelt_frame.1, State.updateDocket_docket]
  · rw [if_pos rfl, hd]
    rfl
  · exact fun _ => rfl

/-- R111: the two offers of an EXIT, with the belt and the pass written before them. -/
theorem State.leftBelt_eq (hd : s.docket n = some d) :
    (((s.setBelt belt (if belt.isEmpty then none else s.beltSpeed)).updateDocket n fun z => z.exited p' taken).offerFor
      .washed 1 n false).offer .massAdded mass (some (d.recipe, d.cls)) none = s.leftBelt n d belt p' taken mass := by
  have hd' : (s.setBelt belt (if belt.isEmpty then none else s.beltSpeed)).docket n = some d := hd
  rw [State.offerFor_updateDocket hd' (f := fun z => z.exited p' taken) (fun _ => rfl) rfl]
  have hempty : (if belt.isEmpty then none else s.beltSpeed) = if belt = [] then none else s.beltSpeed := by
    cases belt <;> rfl
  rw [hempty]
  simp only [State.offer, State.leftBelt, State.setCounters, State.updateDocket, State.setSlots, State.setBelt]

theorem State.exitBelt_eq (hd : s.docket n = some d) (hb : s.belt = b :: belt) {p : WashPass}
    (hp : s.passAtExit d p = p') (ht : s.removedAtExit d p = taken)
    (hm : dissolved d.area d.coverage taken s.working.line.density = mass) :
    s.exitBelt d p = (s.leftBelt n d belt p' taken mass).recomputeBath
      { s.bath with mass := min 4294967295 (s.bath.mass + mass) } := by
  have hsubject : d.subject = some (d.recipe, d.cls) := rfl
  have hdrop : s.belt.drop 1 = belt := by rw [hb]; rfl
  have hfun : (fun x : Docket => { x.updateNewest (fun _ => p') with removed := x.removed + taken }) =
      fun z => z.exited p' taken := rfl
  rw [State.exitBelt, State.addMass, hp, ht, hm, State.docket_number hd, hdrop, hsubject, hfun, State.leftBelt_eq hd,
    State.leftBelt_frame.2.1]
  rfl

end

/-! ## What becomes of the docket (R113) -/

section
variable {f : State} {n : Nat} {d e : Docket} {p : WashPass} (he : f.docket n = some e) (hn : d.number = n)
  (hs : e.subject = d.subject)
include he hn hs

theorem State.disposeExit_scrapped (hscrap : d.scrapMark = some .atExit) : f.disposeExit d p =
    { f.updateDocket n fun z => { z with state := .scrapped, sub := .none, drawer := none, hold := none } with
      counters := (f.offer .scrapped 1 (some (d.recipe, d.cls)) none).counters } := by
  have hsub : some (e.recipe, e.cls) = some (d.recipe, d.cls) := hs
  rw [State.disposeExit, if_pos hscrap, hn, State.enterScrapped_eq he, ← State.scrapped_eq, hsub]

theorem State.disposeExit_held (hscrap : d.scrapMark ≠ some .atExit) {r : HoldReason} (hr : p.holdReason = some r) :
    f.disposeExit d p = ((f.updateDocket n fun z => z.heldBy r .wash .washExit (f.now / 1000)).raise .E .plateHeld
      (some n)).offer .held 1 (some (d.recipe, d.cls)) none := by
  have hsub : e.subject = some (d.recipe, d.cls) := hs
  have henter : f.enterHeld n r .wash .washExit = ((f.updateDocket n fun z => z.heldBy r .wash .washExit (f.now / 1000)).raise
    .E .plateHeld (some n)).offerFor .held 1 n false := rfl
  have hdocket : ((f.updateDocket n fun z => z.heldBy r .wash .washExit (f.now / 1000)).raise .E .plateHeld
      (some n)).docket n = some (e.heldBy r .wash .washExit (f.now / 1000)) := by
    rw [State.raise_docket, State.updateDocket_docket]
    · rw [if_pos rfl, he]
      rfl
    · exact fun _ => rfl
  rw [State.disposeExit, if_neg hscrap, hn, hr]
  dsimp only
  rw [henter, State.offerFor, hdocket]
  dsimp only
  rw [show (e.heldBy r .wash .washExit (f.now / 1000)).subject = e.subject from rfl, hsub]
  rfl

omit he hs in
theorem State.disposeExit_dry (hscrap : d.scrapMark ≠ some .atExit) (hr : p.holdReason = none) : f.disposeExit d p =
    ({ f.updateDocket n fun z => { z with state := .dryQueued, sub := .none } with
      dryQueue := f.joinClass f.dryQueue n } : State).assignDrawers := by
  rw [State.disposeExit, if_neg hscrap, hn, hr]
  dsimp only
  rw [State.joinDry, State.updateDocket_setDryQueue]
  rfl

end

/-! ## EXIT beside the ONLINE entry -/

/-- R111: the belt speed after the head left the belt. -/
def State.speedAfterExit (s : State) : Option Nat := if (s.belt.drop 1).isEmpty then none else s.beltSpeed

section
variable (s : State) (q : Port) (d : Docket) (p : WashPass)

theorem State.heard_passAtExit : (s.heard q).passAtExit d p = s.passAtExit d p := rfl

theorem State.heard_removedAtExit : (s.heard q).removedAtExit d p = s.removedAtExit d p := rfl

theorem State.heard_addMass (mass : Nat) : (s.heard q).addMass d mass = (s.addMass d mass).heard q := by
  unfold State.addMass
  rw [State.heard_offer]
  exact State.heard_recomputeBath _ q _

theorem State.heard_exitBelt : (s.heard q).exitBelt d p = (s.exitBelt d p).heard q := by
  have hdef (t : State) : t.exitBelt d p = (((t.setBelt (t.belt.drop 1) t.speedAfterExit).updateDocket d.number fun x =>
      x.exited (t.passAtExit d p) (t.removedAtExit d p)).offerFor .washed 1 d.number false).addMass d
      (dissolved d.area d.coverage (t.removedAtExit d p) t.working.line.density) := rfl
  have hspeed : (s.heard q).speedAfterExit = s.speedAfterExit := rfl
  simp only [hdef, hspeed, State.heard_passAtExit, State.heard_removedAtExit, State.heard_belt, State.heard_working, State.heard_setBelt, State.heard_updateDocket, State.heard_offerFor, State.heard_addMass]

theorem State.heard_disposeExit : (s.heard q).disposeExit d p = (s.disposeExit d p).heard q := by
  unfold State.disposeExit
  simp only [State.heard_enterScrapped, State.heard_enterHeld, State.heard_joinDry]
  split
  · rfl
  · split <;> rfl

end

theorem exitReply_taken {s : State} {n : Nat} {d : Docket} (hd : s.docket n = some d) (hs : d.state = .onBelt)
    {b : BeltRecord} {belt : List BeltRecord} (hb : s.belt = b :: belt) (hn : b.docket = n) {p : WashPass}
    (hp : d.newest = some p) {t : State} (ht : t = (s.exitBelt d p).disposeExit d (s.passAtExit d p)) :
    exitReply n s = (t, .ok,
      [fDocket n, .num .depth (p.achieved s.working.line.pathLength), .num .depth (s.removedAtExit d p),
       fCode (t.stateCodeOf n), fCode (exitHoldCode d (s.passAtExit d p)), .num .flags (s.passAtExit d p).flags]) := by
  simp [exitReply, hd, hs, hb, hn, hp, ← ht]

theorem State.stateCodeOf_map (s : State) (n : Nat) :
    s.stateCodeOf n = ((s.docket n).map fun y => y.state.code).getD 0 := by
  unfold State.stateCodeOf
  cases s.docket n <;> rfl

/-- Settles O50. -/
theorem exitCompletesThePass : Obligations.ExitCompletesThePass := by
  unfold Obligations.ExitCompletesThePass
  intro h s n d hr ht hd
  refine ⟨fun hs => exec_refused rfl hr ht (by simp [exitReply, hd, hs]), fun hs hb => exec_refused rfl hr ht ?_,
    fun b belt x passes p p' depth left taken mass e f g hold hs hb hbn hx hpasses hdepth hleft htaken hmass hp' hhold
      he hf hg => ?_⟩
  · have hhead : (s.belt.head?.map BeltRecord.docket) ≠ some n.toNat := by
      cases hbelt : s.belt with
      | nil => simp
      | cons b l => simpa using hb b l hbelt
    simp [exitReply, hd, hs, hhead]
  · have hrelief : d.reliefLeft = left := (Docket.reliefLeft_of_snapshot hx).trans hleft.symm
    have hach : p.achieved s.working.line.pathLength = depth := hdepth.symm
    have hpass : s.passAtExit d p = p' := by
      rw [State.passAtExit, hach, hrelief, hp']
      rfl
    have hremoved : s.removedAtExit d p = taken := by rw [State.removedAtExit, hach, hrelief, htaken]
    have hhold' : p'.holdReason = hold := hhold.symm
    have he' : e = s.leftBelt n.toNat d belt p' taken mass := he
    have hexit : s.exitBelt d p = f := by
      rw [State.exitBelt_eq hd hb hpass hremoved hmass.symm, hf, he']
    have hdocket : e.docket n.toNat = some (d.exited p' taken) := by rw [he', State.leftBelt_docket hd]
    have hslots : f.slots = e.slots := by rw [hf]; simp
    have hfdocket : f.docket n.toNat = some (d.exited p' taken) := by rw [State.docket_of_slots hslots, hdocket]
    have hfnow : f.now = s.now := by rw [hf, he']; simp [State.leftBelt_frame.2.2.2]
    have hfdry : f.joinClass f.dryQueue n.toNat = s.joinClass s.dryQueue n.toNat := by
      have hq : f.dryQueue = s.dryQueue := by rw [hf, he']; simp [State.leftBelt_frame.2.2.1]
      have hleft : e.slots = (s.updateDocket n.toNat fun z => z.exited p' taken).slots := he' ▸ State.leftBelt_frame.1
      rw [State.joinClass_of_slots (hslots.trans hleft), State.joinClass_updateDocket, hq]
      exact fun _ => ⟨rfl, rfl⟩
    have hg' : g = f.disposeExit d p' := by
      have hn := State.docket_number hd
      rw [hg]
      split
      · rename_i hscrap
        exact (State.disposeExit_scrapped hfdocket hn rfl hscrap).symm
      · rename_i hscrap
        cases hr : hold with
        | some r => rw [State.disposeExit_held hfdocket hn rfl hscrap (hhold'.trans hr), hfnow]
        | none => rw [State.disposeExit_dry hn hscrap (hhold'.trans hr), hfdry]
    refine ⟨⟨_, hdocket, Docket.updateNewest_passes hpasses _⟩, ?_⟩
    have hreply : (s.heard h.port).passAtExit d p = p' := hpass
    refine exec_answers rfl hr ht ((exitReply_taken (s := s.heard h.port) hd hs hb hbn
      (Docket.newest_of_passes hpasses) (t := g.heard h.port) ?_).trans ?_)
    · rw [hreply, State.heard_exitBelt, State.heard_disposeExit, hexit, hg']
    · rw [hreply, State.heard_stateCodeOf, State.stateCodeOf_map, State.heard_working, hach,
        show (s.heard h.port).removedAtExit d p = taken from hremoved, exitHoldCode, hhold']
      rfl

end Sys2Proof.Machine
end

section
/-! SUPPORT. The timers of the belt and of the drawers (R107, R144, R145). -/

namespace Sys2Proof.Machine

/-! ## The expiries that are due -/

theorem find_between {α : Type} {p : α → Bool} {before after : List α} {b : α} (hb : p b = true)
    (h : ∀ x ∈ before, p x = false) : (before ++ b :: after).find? p = some b := by
  rw [List.find?_append, List.find?_eq_none.mpr (by simpa using h), List.find?_cons_of_pos hb]
  rfl

/-- R107: the overdue flag of the one belt record of docket `n`. -/
theorem map_overdue_between {before after : List BeltRecord} {b : BeltRecord} {n : Nat} (hb : b.docket = n)
    (h : ∀ x ∈ before ++ after, x.docket ≠ n) :
    (before ++ b :: after).map (fun x => if x.docket = n then { x with overdueRaised := true } else x) =
      before ++ { b with overdueRaised := true } :: after := by
  have keep {l : List BeltRecord} (hl : ∀ x ∈ l, x.docket ≠ n) :
      l.map (fun x => if x.docket = n then { x with overdueRaised := true } else x) = l :=
    (List.map_congr_left fun x hx => if_neg (hl x hx)).trans (List.map_id' l)
  rw [List.map_append, List.map_cons, keep fun x hx => h x (List.mem_append_left after hx),
    keep fun x hx => h x (List.mem_append_right before hx), if_pos hb]

/-- R107: the state after an overdue expiry at `v`. -/
def State.overdueAt (v : State) (n : Nat) (belt : List BeltRecord) : State :=
  (((v.setBelt belt v.beltSpeed).updateDocket n fun d => d.updateNewest fun p => { p with overdue := true }).raise
    .W .washOverdue (some n)).raise .E .washOverdue (some n)

theorem exec_overdueExpiry_due {s v : State} {n : Nat} {b : BeltRecord} {before after : List BeltRecord}
    (hbelt : s.belt = before ++ b :: after) (hb : b.docket = n) (hr : b.overdueRaised = false)
    (h : ∀ x ∈ before ++ after, x.docket ≠ n) (hv : v = s.pass (s.overdueIn b)) :
    exec (.overdueExpiry n) s = .next (v.overdueAt n (before ++ { b with overdueRaised := true } :: after)) := by
  have hfind : (s.belt.find? fun r => r.docket == n && !r.overdueRaised) = some b := by
    rw [hbelt]
    exact find_between (by simp [hb, hr]) fun x hx => by simp [h x (List.mem_append_left after hx)]
  have hvbelt : v.belt = before ++ b :: after := by rw [hv, ← hbelt]; simp
  show execOverdueExpiry n s = _
  rw [execOverdueExpiry, hfind]
  dsimp only
  rw [← hv, hvbelt, map_overdue_between hb h]
  rfl

section
variable (v : State) (n : Nat) (belt : List BeltRecord)

theorem State.overdueAt_docket (m : Nat) : (v.overdueAt n belt).docket m =
    if m = n then (v.docket n).map fun d => d.updateNewest fun p => { p with overdue := true } else v.docket m := by
  rw [State.overdueAt, State.raise_docket, State.raise_docket, State.updateDocket_docket]
  · rfl
  · exact fun _ => rfl

theorem State.overdueAt_ports :
    (v.overdueAt n belt).ports = ((v.raise .W .washOverdue (some n)).raise .E .washOverdue (some n)).ports :=
  State.raise_ports_congr (State.raise_ports_congr (by simp) (by simp) (by simp) _ _ _) (by simp) (by simp) _ _ _

theorem State.overdueAt_eq : v.overdueAt n belt =
    { v with slots := (v.overdueAt n belt).slots, ports := (v.overdueAt n belt).ports, belt := belt } := by
  refine State.ext ?_ ?_ ?_ ?_ ?_ (by dsimp only) (by dsimp only) ?_ ?_ ?_ ?_ ?_ ?_ ?_ ?_ ?_ ?_ ?_ ?_ ?_ ?_ ?_ ?_ ?_ <;>
    simp [State.overdueAt]

end

/-- R144: the state after a drying expiry at `v`. -/
def State.driedAt (v : State) (n : Nat) (drawers : Vector Drawer 8) : State :=
  (((v.setDrawers drawers).updateDocket n fun x => { x with sub := .dry, dryEnd := some v.seconds }).raise .F .dryDone
    (some n)).offerFor .dried 1 n false

/-- R145: the state after an overdry expiry at `v`. -/
def State.overdriedAt (v : State) (n : Nat) (drawers : Vector Drawer 8) : State :=
  (((v.setDrawers drawers).updateDocket n fun x => { x with overdry := true }).raise .F .overdry (some n)).raise .E .overdry
    (some n)

theorem exec_dryingExpiry_due {s v : State} {i : Fin 8} {n : Nat} {timer : DrawerTimer}
    (hd : s.drawers[i] = .drying n timer) (hv : v = s.pass (remainingMs timer.startedAt (timer.seconds * 1000) s.now)) :
    exec (.dryingExpiry i) s = .next (v.driedAt n (s.drawers.set i (.dry n (if s.working.line.overdryLimit = 0 then none else
      some { startedAt := v.now, seconds := s.working.line.overdryLimit * 60 }) false))) := by
  have hdrawers : v.drawers = s.drawers := by rw [hv]; simp
  have hworking : v.working = s.working := by rw [hv]; simp
  show execDryingExpiry i s = _
  rw [execDryingExpiry, hd]
  dsimp only
  rw [← hv, hdrawers, hworking]
  rfl

theorem exec_overdryExpiry_due {s v : State} {i : Fin 8} {n : Nat} {timer : DrawerTimer} {raised : Bool}
    (hd : s.drawers[i] = .dry n (some timer) raised)
    (hv : v = s.pass (remainingMs timer.startedAt (timer.seconds * 1000) s.now)) :
    exec (.overdryExpiry i) s = .next (v.overdriedAt n (s.drawers.set i (.dry n none true))) := by
  have hdrawers : v.drawers = s.drawers := by rw [hv]; simp
  show execOverdryExpiry i s = _
  rw [execOverdryExpiry, hd]
  dsimp only
  rw [← hv, hdrawers]
  rfl

section
variable (v : State) (n : Nat) (drawers : Vector Drawer 8)

theorem State.driedAt_docket (m : Nat) : (v.driedAt n drawers).docket m =
    if m = n then (v.docket n).map fun x => { x with sub := .dry, dryEnd := some v.seconds } else v.docket m := by
  rw [State.driedAt, State.offerFor_docket, State.raise_docket, State.updateDocket_docket]
  · rfl
  · exact fun _ => rfl

theorem State.driedAt_ports : (v.driedAt n drawers).ports = (v.raise .F .dryDone (some n)).ports := by
  have h : (v.driedAt n drawers).ports = (((v.setDrawers drawers).updateDocket n fun x =>
      { x with sub := .dry, dryEnd := some v.seconds }).raise .F .dryDone (some n)).ports := by
    unfold State.driedAt
    generalize ((v.setDrawers drawers).updateDocket n fun x =>
      { x with sub := .dry, dryEnd := some v.seconds }).raise .F .dryDone (some n) = u
    simp
  rw [h]
  exact State.raise_ports_congr (by simp) (by simp) (by simp) _ _ _

theorem State.driedAt_counters {d : Docket} (hd : v.docket n = some d) :
    (v.driedAt n drawers).counters = (v.offer .dried 1 (some (d.recipe, d.cls)) none).counters := by
  refine (State.offerFor_counters_congr (s := v) (by simp) ?_ _ _).trans (State.offerFor_counters hd _ _ _)
  rw [State.raise_docket, State.updateDocket_docket]
  · rw [if_pos rfl, Option.map_map]
    rfl
  · exact fun _ => rfl

theorem State.driedAt_eq : v.driedAt n drawers =
    { v with slots := (v.driedAt n drawers).slots, ports := (v.driedAt n drawers).ports
             counters := (v.driedAt n drawers).counters, drawers := drawers } := by
  refine State.ext ?_ ?_ ?_ ?_ ?_ (by dsimp only) (by dsimp only) ?_ ?_ ?_ ?_ ?_ ?_ ?_ ?_ ?_ ?_ ?_ ?_ ?_ ?_ ?_
    (by dsimp only) ?_ <;> simp [State.driedAt]

theorem State.overdriedAt_docket (m : Nat) : (v.overdriedAt n drawers).docket m =
    if m = n then (v.docket n).map fun x => { x with overdry := true } else v.docket m := by
  rw [State.overdriedAt, State.raise_docket, State.raise_docket, State.updateDocket_docket]
  · rfl
  · exact fun _ => rfl

theorem State.overdriedAt_ports :
    (v.overdriedAt n drawers).ports = ((v.raise .F .overdry (some n)).raise .E .overdry (some n)).ports :=
  State.raise_ports_congr (State.raise_ports_congr (by simp) (by simp) (by simp) _ _ _) (by simp) (by simp) _ _ _

theorem State.overdriedAt_eq : v.overdriedAt n drawers =
    { v with slots := (v.overdriedAt n drawers).slots, ports := (v.overdriedAt n drawers).ports, drawers := drawers } := by
  refine State.ext ?_ ?_ ?_ ?_ ?_ (by dsimp only) (by dsimp only) ?_ ?_ ?_ ?_ ?_ ?_ ?_ ?_ ?_ ?_ ?_ ?_ ?_ ?_ ?_ ?_ ?_ <;>
    simp [State.overdriedAt]

end

/-! ## The obligation -/

theorem State.pass_docket {s v : State} {ms : Nat} (hv : v = s.pass ms) (m : Nat) : v.docket m = s.docket m :=
  State.docket_of_slots (by rw [hv]; simp) m

/-- R107: the time of an overdue expiry, across the wrap of line time. -/
theorem State.overdueAt_clock {s v : State} {b : BeltRecord} (hv : v = s.pass (s.overdueIn b)) (n : Nat)
    (belt : List BeltRecord) : (v.overdueAt n belt).now = (s.pass (s.overdueIn b)).now ∧
    (v.overdueAt n belt).micro = (s.pass (s.overdueIn b)).micro := by
  rw [State.overdueAt_eq, ← hv]
  exact ⟨by dsimp only, by dsimp only⟩

theorem Docket.updateNewest_eq {d : Docket} {passes : List WashPass} {p : WashPass} (h : d.passes = passes ++ [p])
    (f : WashPass → WashPass) : d.updateNewest f = { d with passes := passes ++ [f p] } := by
  rw [← Docket.updateNewest_passes h f]
  rfl

/-- Settles O52. -/
theorem washAndDryerTimersExpire : Obligations.WashAndDryerTimersExpire := by
  unfold Obligations.WashAndDryerTimersExpire
  refine ⟨fun s v n b before after d l p hbelt hb hr hx hd hp hv => ?_, fun s v i n d timer hi hd hv => ?_,
    fun s v i n d timer raised hi hd hv => ?_⟩
  · have hdocket := v.overdueAt_docket n (before ++ { b with overdueRaised := true } :: after)
    obtain ⟨hnow, hmicro⟩ := State.overdueAt_clock hv n (before ++ { b with overdueRaised := true } :: after)
    refine ⟨_, exec_overdueExpiry_due hbelt hb hr hx hv, ?_, fun m hm => ?_, State.overdueAt_ports _ _ _,
      State.overdueAt_eq _ _ _, fun dwell gone hn he hf hdw hg => ?_⟩
    · rw [hdocket, if_pos rfl, State.pass_docket hv, hd, Option.map_some, Docket.updateNewest_eq hp]
    · rw [hdocket, if_neg hm, State.pass_docket hv]
    · rw [hnow, hmicro]
      exact State.pass_overdueIn_clock hn he hf hdw hg
  · have hvd : v.docket n = some d := (State.pass_docket hv n).trans hd
    refine ⟨_, exec_dryingExpiry_due hi hv, ?_, fun m hm => ?_, State.driedAt_ports _ _ _,
      State.driedAt_counters _ _ _ hvd, State.driedAt_eq _ _ _⟩
    · rw [State.driedAt_docket, if_pos rfl, hvd]
      rfl
    · rw [State.driedAt_docket, if_neg hm, State.pass_docket hv]
  · refine ⟨_, exec_overdryExpiry_due hi hv, ?_, fun m hm => ?_, State.overdriedAt_ports _ _ _,
      State.overdriedAt_eq _ _ _⟩
    · rw [State.overdriedAt_docket, if_pos rfl, State.pass_docket hv, hd]
      rfl
    · rw [State.overdriedAt_docket, if_neg hm, State.pass_docket hv]

end Sys2Proof.Machine
end

section
/-! SUPPORT. The requests on drawers (R141, R143, R146, R147, R149). -/

namespace Sys2Proof.Machine

theorem drawerOfCode_none {c : Nat} (h : c = 0 ∨ 8 < c) : drawerOfCode c = none :=
  dif_neg (by omega)

theorem drawerOfCode_idx {c : Nat} {i : Fin 8} (h : c = i.val + 1) : drawerOfCode c = some i := by
  subst h
  have hi : 1 ≤ i.val + 1 ∧ i.val + 1 ≤ 8 := by omega
  exact (dif_pos hi).trans rfl

/-! ## The docket at the end of its stay in the dryer (R147) -/

/-- R147: a docket whose plate is to be scrapped when it leaves the dryer. -/
def Docket.unloadedScrapped (y : Docket) (short : Bool) : Docket :=
  { y with shortDry := y.shortDry || short, drawer := none, state := .scrapped, sub := .none, hold := none }

/-- R147: a docket that goes on to the finish pool. -/
def Docket.unloadedQueued (y : Docket) (short : Bool) (order : Nat) : Docket :=
  { y with
    shortDry := y.shortDry || short, drawer := none, state := .finishQueued, sub := .none, unloadOrder := order }

/-- R147, steps 1 and 2: docket `n`, with the record `d`, out of its drawer. -/
def State.unloaded (s : State) (n : Nat) (d : Docket) (short : Bool) : State :=
  if d.scrapMark = some .atUnload then
    { s.updateDocket n fun y => y.unloadedScrapped short with
      counters := (s.offer .scrapped 1 (some (d.recipe, d.cls)) none).counters }
  else
    { s.updateDocket n fun y => y.unloadedQueued short s.nextOrder with
      finishPool := s.finishPool ++ [n], nextOrder := s.nextOrder + 1 }

section
variable {s : State} {n : Nat} {d : Docket} (hd : s.docket n = some d) (short : Bool)
include hd

theorem State.docket_updated {f : Docket → Docket} (hf : ∀ x, (f x).number = x.number) :
    (s.updateDocket n f).docket n = some (f d) := by
  rw [State.updateDocket_docket s n n f hf, if_pos rfl, hd]
  rfl

theorem State.unloadDocket_scrapped (h : d.scrapMark = some .atUnload) :
    (s.updateDocket n fun x => { x with shortDry := x.shortDry || short }).unloadDocket n d.scrapMark =
      s.unloaded n d short := by
  have hdocket := State.docket_updated hd
    (f := fun x => { x with shortDry := x.shortDry || short, drawer := none }) fun _ => rfl
  have hcounters := State.offer_counters_congr
    (s := s) (t := s.updateDocket n fun x => { x with shortDry := x.shortDry || short, drawer := none }) (by simp)
    .scrapped 1 (some (d.recipe, d.cls)) none
  rw [State.unloadDocket, if_pos h, State.updateDocket_updateDocket]
  · rw [State.enterScrapped_eq hdocket, ← State.scrapped_eq, State.unloaded, if_pos h, hcounters,
      State.updateDocket_updateDocket]
    · simp only [State.updateDocket, State.setSlots, Docket.unloadedScrapped]
    · exact fun _ => rfl
  · exact fun _ => rfl

omit hd in
theorem State.unloadDocket_queued (h : d.scrapMark ≠ some .atUnload) :
    (s.updateDocket n fun x => { x with shortDry := x.shortDry || short }).unloadDocket n d.scrapMark =
      s.unloaded n d short := by
  rw [State.unloadDocket, if_neg h, State.unloaded, if_neg h, State.updateDocket_updateDocket]
  · dsimp only
    rw [State.updateDocket_updateDocket]
    · simp only [State.updateDocket, State.setSlots, State.setFinishPool, Docket.unloadedQueued]
    · exact fun _ => rfl
  · exact fun _ => rfl

theorem State.unloadDocket_eq :
    (s.updateDocket n fun x => { x with shortDry := x.shortDry || short }).unloadDocket n d.scrapMark =
      s.unloaded n d short := by
  by_cases h : d.scrapMark = some .atUnload
  · exact State.unloadDocket_scrapped hd short h
  · exact State.unloadDocket_queued short h

theorem State.unloaded_docket : (s.unloaded n d short).docket n = some (if d.scrapMark = some .atUnload then
    d.unloadedScrapped short else d.unloadedQueued short s.nextOrder) := by
  unfold State.unloaded
  by_cases h : d.scrapMark = some .atUnload
  · rw [if_pos h, if_pos h]
    refine (State.docket_of_slots (s := s.updateDocket n fun y => y.unloadedScrapped short) ?_ n).trans
      (State.docket_updated hd fun _ => rfl)
    rfl
  · rw [if_neg h, if_neg h]
    refine (State.docket_of_slots (s := s.updateDocket n fun y => y.unloadedQueued short s.nextOrder) ?_ n).trans
      (State.docket_updated hd fun _ => rfl)
    rfl

omit hd in
theorem Docket.unloaded_fields (order : Nat) :
    (if d.scrapMark = some .atUnload then d.unloadedScrapped short else d.unloadedQueued short order).state.code =
      (if d.scrapMark = some .atUnload then 11 else 7) ∧
    (if d.scrapMark = some .atUnload then d.unloadedScrapped short else d.unloadedQueued short order).dryFlags =
      (if d.shortDry || short then 1 else 0) + (if d.overdry then 2 else 0) := by
  split <;> exact ⟨rfl, rfl⟩

omit hd in
theorem State.unloaded_frame : (s.unloaded n d short).drawers = s.drawers ∧ (s.unloaded n d short).working = s.working ∧
    (s.unloaded n d short).dryQueue = s.dryQueue := by
  unfold State.unloaded
  split <;> simp only [State.updateDocket, State.setSlots, and_self]

end

/-! ## The drawer after it (R147, R141) -/

/-- R147, steps 3 and 4, with the record of the state written out. -/
theorem State.vacateDrawer_eq {s t : State} (hd : t.drawers = s.drawers) (hw : t.working = s.working) (i : Fin 8) :
    t.vacateDrawer i = if s.working.line.drawers < i.val + 1 then { t with drawers := s.drawers.set i .out }
      else ({ t with drawers := s.drawers.set i .empty } : State).assignDrawers := by
  simp only [State.vacateDrawer, hd, hw, State.setDrawers]

theorem State.vacateDrawer_docket {s : State} {n : Nat} (h : n ∉ s.dryQueue) (i : Fin 8) :
    (s.vacateDrawer i).docket n = s.docket n := by
  unfold State.vacateDrawer
  split
  · rfl
  · exact State.assignDrawers_docket h

section
variable (s : State) (p : Port)

theorem State.heard_unloaded (n : Nat) (d : Docket) (short : Bool) :
    (s.heard p).unloaded n d short = (s.unloaded n d short).heard p := by
  unfold State.unloaded
  split
  · simp only [State.heard, State.updateDocket, State.setSlots, State.offer, State.setCounters, State.port]
  · simp only [State.heard, State.updateDocket, State.setSlots, State.port]

theorem State.heard_vacateDrawer (i : Fin 8) : (s.heard p).vacateDrawer i = (s.vacateDrawer i).heard p := by
  unfold State.vacateDrawer
  rw [State.heard_drawers, State.heard_working, State.heard_setDrawers, State.heard_setDrawers, State.heard_assignDrawers]
  split <;> rfl

end

/-! ## DRAWER_UNLOADED (R146, R147) -/

theorem unloadReply_eq {s : State} {n gone : Nat} {short : Bool} {i : Fin 8} {d : Docket} (hd : s.docket n = some d) {u : State}
    (hu : u = ((s.updateDocket n fun x => { x with shortDry := x.shortDry || short }).unloadDocket n d.scrapMark).vacateDrawer
      i) : unloadReply i n gone short s =
      (u, .ok, [fCode (i.val + 1), fDocket n, fCode (u.stateCodeOf n), fCode u.drawers[i].code, fTime gone,
        .num .flags (((u.docket n).map Docket.dryFlags).getD 0)]) := by
  have hmark : ((s.updateDocket n fun x => { x with shortDry := x.shortDry || short }).docket n).bind Docket.scrapMark =
      d.scrapMark := by
    rw [State.docket_updated hd]
    · rfl
    · exact fun _ => rfl
  rw [hu, unloadReply, hmark]

theorem drawerUnloadedReply_taken {s : State} {c force n gone : Nat} {short : Bool} {i : Fin 8} (hc : drawerOfCode c = some i)
    (h : (∃ rest raised, s.drawers[i] = .dry n rest raised ∧ force ≤ 1 ∧ gone = 0 ∧ short = false) ∨
      (∃ timer, s.drawers[i] = .drying n timer ∧ force = 1 ∧ short = true ∧
        gone = timer.seconds - since timer.startedAt s.now / 1000)) :
    drawerUnloadedReply c force s = unloadReply i n gone short s := by
  simp only [drawerUnloadedReply, hc]
  obtain ⟨rest, raised, hd, hf, rfl, rfl⟩ | ⟨timer, hd, rfl, rfl, rfl⟩ := h
  · rw [if_neg (by omega), hd]
  · rw [if_neg (by omega), hd]
    rfl

theorem drawerUnloadedReply_range {s : State} {c force : Nat} {i : Fin 8} (hc : drawerOfCode c = some i) (hf : 1 < force) :
    drawerUnloadedReply c force s = refuse s .range := by
  simp only [drawerUnloadedReply, hc]
  exact if_pos (by omega)

theorem drawerUnloadedReply_wrongState {s : State} {c force n : Nat} {timer : DrawerTimer} {i : Fin 8}
    (hc : drawerOfCode c = some i) (hf : force ≤ 1)
    (h : (s.drawers[i] = .drying n timer ∧ force = 0) ∨ s.drawers[i] = .empty ∨ s.drawers[i] = .out ∨
      s.drawers[i] = .reserved n) : drawerUnloadedReply c force s = refuse s .wrongState := by
  simp only [drawerUnloadedReply, hc]
  rw [if_neg (by omega)]
  obtain ⟨hd, h0⟩ | hd | hd | hd := h
  · rw [hd]
    exact if_pos h0
  · rw [hd]
  · rw [hd]
  · rw [hd]

theorem exec_drawerUnloaded {h : Hdr} {s : State} {code force : BitVec 8} {i : Fin 8} (hr : Reaches .drawerUnloaded 0 h s)
    (hc : code.toNat = i.val + 1) {n gone : Nat} {d : Docket} {short : Bool} {t u : State} (hd : s.docket n = some d)
    (hq : n ∉ s.dryQueue)
    (hcase : (∃ rest raised, s.drawers[i] = .dry n rest raised ∧ force.toNat ≤ 1 ∧ gone = 0 ∧ short = false) ∨
      (∃ timer, s.drawers[i] = .drying n timer ∧ force.toNat = 1 ∧ short = true ∧
        gone = timer.seconds - since timer.startedAt s.now / 1000))
    (ht : t = s.unloaded n d short)
    (hu : u = if s.working.line.drawers < i.val + 1 then { t with drawers := s.drawers.set i .out }
      else ({ t with drawers := s.drawers.set i .empty } : State).assignDrawers) :
    exec (.drawerUnloaded h code force) s = .next (replied u h.port .drawerUnloaded .ok
      [.num .code code.toNat, .num .docket n, .num .code (if d.scrapMark = some .atUnload then 11 else 7),
       .num .code u.drawers[i].code, .num .time gone,
       .num .flags ((if d.shortDry || short then 1 else 0) + (if d.overdry then 2 else 0))]) := by
  obtain ⟨hdrawers, hworking, hqueue⟩ := State.unloaded_frame (s := s) (n := n) (d := d) short
  have hvacate : (s.unloaded n d short).vacateDrawer i = u := by
    rw [State.vacateDrawer_eq hdrawers hworking, hu, ht]
  have hstate : (((s.heard h.port).updateDocket n fun x => { x with shortDry := x.shortDry || short }).unloadDocket n
      d.scrapMark).vacateDrawer i = u.heard h.port := by
    rw [State.unloadDocket_eq (s := s.heard h.port) hd, State.heard_unloaded, State.heard_vacateDrawer, hvacate]
  obtain ⟨hcode, hflags⟩ := Docket.unloaded_fields (d := d) short s.nextOrder
  have hdocket := State.unloaded_docket hd short
  rw [← State.vacateDrawer_docket (by rw [hqueue]; exact hq) i, hvacate] at hdocket
  refine exec_answers_of_ne rfl hr (by decide)
    (((drawerUnloadedReply_taken (s := s.heard h.port) (drawerOfCode_idx hc) hcase).trans
      (unloadReply_eq (s := s.heard h.port) hd hstate.symm)).trans ?_)
  rw [State.heard_stateCodeOf, State.stateCodeOf_eq hdocket, State.heard_docket, hdocket, hcode, Option.map_some,
    Option.getD_some, hflags, hc]
  rfl

/-! ## DRAWER_LOADED and DRAWER_SERVICE (R143, R149) -/

section
variable {s : State} {c n : Nat} {i : Fin 8} {d : Docket} (hc : drawerOfCode c = some i)
include hc

section
variable (hd : s.docket n = some d)
include hd

theorem drawerLoadedReply_taken (hi : s.drawers[i] = .reserved n) : drawerLoadedReply c n s =
    ((s.setDrawers (s.drawers.set i (.drying n { startedAt := s.now, seconds := d.drySeconds }))).updateDocket n
        fun x => { x with sub := .drying, dryStart := some s.seconds }, .ok,
      [fCode c, fDocket n, fTime d.drySeconds]) := by
  simp [drawerLoadedReply, hc, hd, hi]

theorem drawerLoadedReply_notHere {m : Nat} (hi : s.drawers[i] = .reserved m) (hm : m ≠ n) :
    drawerLoadedReply c n s = refuse s .notHere := by
  simp only [drawerLoadedReply, hc, hd, hi]
  exact if_pos hm

theorem drawerLoadedReply_wrongState (hi : ∀ m, s.drawers[i] ≠ .reserved m) :
    drawerLoadedReply c n s = refuse s .wrongState := by
  cases hx : s.drawers[i] with
  | reserved m => exact absurd hx (hi m)
  | _ => simp [drawerLoadedReply, hc, hd, hx]

end

theorem drawerServiceReply_out (hi : s.drawers[i] = .empty) : drawerServiceReply c 0 s =
    (s.setDrawers (s.drawers.set i .out), .ok, [fCode c, fCode 4]) := by
  simp only [drawerServiceReply, hc, hi, if_true]
  simp [Drawer.code]

theorem drawerServiceReply_busy (hi : s.drawers[i] ≠ .empty) : drawerServiceReply c 0 s = refuse s .busy := by
  simp only [drawerServiceReply, hc, if_true]
  exact if_neg hi

theorem drawerServiceReply_in (hi : s.drawers[i] = .out) {t : State}
    (ht : t = (s.setDrawers (s.drawers.set i .empty)).assignDrawers) :
    drawerServiceReply c 1 s = (t, .ok, [fCode c, fCode t.drawers[i].code]) := by
  simp [drawerServiceReply, hc, hi, ht]

theorem drawerServiceReply_wrongState (hi : s.drawers[i] ≠ .out) : drawerServiceReply c 1 s = refuse s .wrongState := by
  simp only [drawerServiceReply, hc, Nat.one_ne_zero, if_false, if_true]
  exact if_neg hi

theorem drawerServiceReply_range {dir : Nat} (h0 : dir ≠ 0) (h1 : dir ≠ 1) :
    drawerServiceReply c dir s = refuse s .range := by
  simp only [drawerServiceReply, hc, if_neg h0, if_neg h1]

end

section
variable {h : Hdr} {s : State} {code : BitVec 8} {i : Fin 8} (hc : code.toNat = i.val + 1)
include hc

theorem exec_drawerLoaded {n : BitVec 16} {d : Docket} {x : Snapshot} (hr : Reaches .drawerLoaded 0 h s)
    (hd : s.docket n.toNat = some d) (hx : d.snapshot = some x) (hi : s.drawers[i] = .reserved n.toNat) :
    exec (.drawerLoaded h code n) s = .next (replied
      { s.updateDocket n.toNat fun y => { y with sub := .drying, dryStart := some (s.now / 1000) } with
        drawers := s.drawers.set i (.drying n.toNat { startedAt := s.now, seconds := x.dryTime * 60 }) }
      h.port .drawerLoaded .ok [.num .code code.toNat, .num .docket n.toNat, .num .time (x.dryTime * 60)]) := by
  have hdry : d.drySeconds = x.dryTime * 60 := by rw [Docket.drySeconds, hx]
  refine exec_answers_of_ne rfl hr (by decide)
    ((drawerLoadedReply_taken (s := s.heard h.port) (drawerOfCode_idx hc) hd hi).trans ?_)
  rw [State.heard_drawers, State.heard_now, State.heard_seconds, State.heard_setDrawers, State.heard_updateDocket, hdry]
  rfl

theorem exec_drawerServiceOut (hr : Reaches .drawerService 0 h s) (hi : s.drawers[i] = .empty) :
    exec (.drawerServiceOut h code 0) s = .next (replied
      { s with drawers := s.drawers.set i .out } h.port .drawerService .ok [.num .code code.toNat, .num .code 4]) :=
  exec_answers_of_ne rfl hr (by decide) (drawerServiceReply_out (s := s.heard h.port) (drawerOfCode_idx hc) hi)

theorem exec_drawerServiceIn (hr : Reaches .drawerService 0 h s) {t : State} (hi : s.drawers[i] = .out)
    (ht : t = ({ s with drawers := s.drawers.set i .empty } : State).assignDrawers) :
    exec (.drawerServiceIn h code 1) s = .next (replied t h.port .drawerService .ok
      [.num .code code.toNat, .num .code t.drawers[i].code]) := by
  have hassign : t.heard h.port = ((s.heard h.port).setDrawers ((s.heard h.port).drawers.set i .empty)).assignDrawers := by
    rw [State.heard_setDrawers, State.heard_assignDrawers, ht]
    rfl
  exact exec_answers_of_ne rfl hr (by decide)
    (drawerServiceReply_in (s := s.heard h.port) (drawerOfCode_idx hc) hi hassign)

end

/-- Settles O53. -/
theorem drawerRequests : Obligations.DrawerRequests := by
  unfold Obligations.DrawerRequests
  refine ⟨fun h s code dir n hbad => ?_, fun h s code i hc => ⟨fun n d x hr hd hx => ⟨exec_drawerLoaded hc hr hd hx,
    fun m hi hm => ?_, fun hi => ?_⟩, fun force n gone d short t u hr hd hq hcase ht hu => ?_, fun force n timer hr =>
      ⟨fun hf => ?_, fun hcase hf => ?_⟩, fun hr => ⟨exec_drawerServiceOut hc hr, fun hi => ?_,
        fun t => exec_drawerServiceIn hc hr, fun hi => ?_, fun dir h0 h1 => ?_⟩⟩⟩
  · have hnone := drawerOfCode_none hbad
    refine ⟨fun hr => ?_, fun hr => ?_, fun hr => ⟨?_, ?_⟩⟩ <;>
      refine exec_refused_of_ne rfl hr (by decide) ?_
    · simp only [drawerLoadedReply, hnone]
    · simp only [drawerUnloadedReply, hnone]
    · simp only [drawerServiceReply, hnone]
    · simp only [drawerServiceReply, hnone]
  · exact exec_refused_of_ne rfl hr (by decide)
      (drawerLoadedReply_notHere (s := s.heard h.port) (drawerOfCode_idx hc) hd hi hm)
  · exact exec_refused_of_ne rfl hr (by decide)
      (drawerLoadedReply_wrongState (s := s.heard h.port) (drawerOfCode_idx hc) hd hi)
  · refine exec_drawerUnloaded hr hc hd hq (hcase.imp_right ?_) ht hu
    exact fun ⟨timer, hdry, hforce, hshort⟩ => ⟨timer, hdry, by rw [hforce]; rfl, hshort⟩
  · exact exec_refused_of_ne rfl hr (by decide)
      (drawerUnloadedReply_range (s := s.heard h.port) (drawerOfCode_idx hc) hf)
  · refine exec_refused_of_ne rfl hr (by decide) (drawerUnloadedReply_wrongState (s := s.heard h.port)
      (timer := timer) (drawerOfCode_idx hc) hf (hcase.imp_left ?_))
    exact fun ⟨hdry, hforce⟩ => ⟨hdry, by rw [hforce]; rfl⟩
  · exact exec_refused_of_ne rfl hr (by decide)
      (drawerServiceReply_busy (s := s.heard h.port) (drawerOfCode_idx hc) hi)
  · exact exec_refused_of_ne rfl hr (by decide)
      (drawerServiceReply_wrongState (s := s.heard h.port) (drawerOfCode_idx hc) hi)
  · refine exec_refused_of_ne rfl hr (by decide) (drawerServiceReply_range (s := s.heard h.port) (drawerOfCode_idx hc)
      (fun e => h0 ?_) fun e => h1 ?_)
    · exact BitVec.eq_of_toNat_eq e
    · exact BitVec.eq_of_toNat_eq e

end Sys2Proof.Machine
end

section
/-! SUPPORT. The requests that read the line (R92, R118, R136, R152, R164). -/

namespace Sys2Proof.Machine

theorem unitOfCode_idx {code : BitVec 8} {u : UnitId} (h : (code = 1 ∧ u = .A) ∨ (code = 2 ∧ u = .B)) :
    unitOfCode code.toNat = some u := by
  obtain ⟨rfl, rfl⟩ | ⟨rfl, rfl⟩ := h <;> rfl

theorem unitOfCode_none {c : Nat} (h1 : c ≠ 1) (h2 : c ≠ 2) : unitOfCode c = none := by
  unfold unitOfCode
  split <;> first | contradiction | rfl

theorem boolCode_eq (b : Bool) : boolCode b = if b then 1 else 0 := by cases b <;> rfl

theorem State.heard_drawerFields (s : State) (p : Port) (i : Fin 8) : (s.heard p).drawerFields i = s.drawerFields i := rfl

theorem State.inService_code (s : State) {i : Fin 8} (h : s.drawers[i] ≠ .out) :
    boolCode (s.inService i) = if i.val < s.working.line.drawers then 1 else 0 := by
  rw [boolCode_eq, State.inService, decide_eq_true h, Bool.and_true]
  simp only [decide_eq_true_eq, Nat.add_one_le_iff]

/-- Settles O54. -/
theorem readingTheLine : Obligations.ReadingTheLine := by
  unfold Obligations.ReadingTheLine
  intro h s ht
  refine ⟨fun code u hr hu => exec_answers rfl hr ht ?_, fun code hr h1 h2 => exec_refused rfl hr ht ?_,
    fun hr => exec_answers rfl hr ht ?_, fun hr => exec_answers rfl hr ht ?_, fun load hr hl => exec_answers rfl hr ht ?_,
    fun hr => exec_answers rfl hr ht ?_⟩
  · simp only [readUnitReply, unitOfCode_idx hu, State.heard_unit, State.heard_now, State.heard_chan]
    cases s.unit u <;> rfl
  · have hnone : unitOfCode code.toNat = none :=
      unitOfCode_none (fun e => h1 (BitVec.eq_of_toNat_eq e)) fun e => h2 (BitVec.eq_of_toNat_eq e)
    simp only [readUnitReply, hnone]
  · simp only [readFinisherReply, State.heard_finisher, State.heard_now, State.heard_chan]
    cases s.finisher <;> rfl
  · have hbelt : beltFields = fun b : BeltRecord => [.num .docket b.docket, .num .time b.feedTime,
        .num .time b.expectedExit, .num .code (if b.overdueRaised then 1 else 0)] := by
      funext b
      rw [beltFields, boolCode_eq]
      rfl
    rw [readWashReply, hbelt, boolCode_eq]
    rfl
  · rw [hl]
    rfl
  · have hfields : (s.heard h.port).drawerFields = fun i => _ := funext fun i => s.heard_drawerFields h.port i
    rw [readDryerReply, hfields]
    refine congrArg (fun l => (s.heard h.port, ResultCode.ok,
      [Field.num .code s.working.line.drawers, .num .code s.dryQueue.length] ++ (List.finRange 8).flatMap l)) ?_
    funext i
    cases hi : s.drawers[i] with
    | out => simp [State.drawerFields, hi, State.inService, boolCode, fCode, Drawer.code, Drawer.docket]
    | empty => simp [State.drawerFields, hi, s.inService_code (i := i) (by simp [hi]), fCode, Drawer.code, Drawer.docket]
    | reserved n =>
      simp [State.drawerFields, hi, s.inService_code (i := i) (by simp [hi]), fCode, Drawer.code, Drawer.docket]
    | drying n t =>
      simp [State.drawerFields, hi, s.inService_code (i := i) (by simp [hi]), fCode, Drawer.code, Drawer.docket,
        DrawerTimer.remaining]
    | dry n t r =>
      cases t <;> simp [State.drawerFields, hi, s.inService_code (i := i) (by simp [hi]), fCode, Drawer.code, Drawer.docket,
        DrawerTimer.remaining, boolCode_eq]

end Sys2Proof.Machine
end

section
/-! SUPPORT. The bytes of numbers and of an answer's fields (R178, R181). -/

namespace Sys2Proof.Machine

/-! ## Numbers as bytes (R178) -/

theorem foldl_bytesBE (w v a : Nat) :
    (bytesBE w v).foldl (fun n b => n * 256 + b.toNat) a = a * 256 ^ w + v % 256 ^ w := by
  induction w generalizing a with
  | zero => simp [bytesBE, Nat.mod_one]
  | succ w ih =>
    have hdigit : (BitVec.ofNat 8 (v / 256 ^ w)).toNat = v / 256 ^ w % 256 := BitVec.toNat_ofNat _ _
    have hmod : v % 256 ^ (w + 1) = v % 256 ^ w + 256 ^ w * (v / 256 ^ w % 256) := Nat.mod_pow_succ
    rw [bytesBE, List.foldl_cons, ih, hdigit, hmod, Nat.pow_succ]
    grind

theorem natBE_bytesBE (w v : Nat) : natBE (bytesBE w v) = v % 256 ^ w := by
  rw [natBE, foldl_bytesBE, Nat.zero_mul, Nat.zero_add]

theorem bytesBE_injective {w u v : Nat} (hu : u < 256 ^ w) (hv : v < 256 ^ w) (h : bytesBE w u = bytesBE w v) : u = v := by
  have hn := congrArg natBE h
  rwa [natBE_bytesBE, natBE_bytesBE, Nat.mod_eq_of_lt hu, Nat.mod_eq_of_lt hv] at hn

/-- R181: the greatest value of a width reads as an absent field. -/
theorem bytesBE_top (w : Nat) : bytesBE w (256 ^ w - 1) = List.replicate w 0xFF := by
  have hdigits : ∀ k m, k ≤ m → bytesBE k (256 ^ m - 1) = List.replicate k 0xFF := by
    intro k m hk
    induction k with
    | zero => rfl
    | succ k ih =>
      have hpow : 256 ^ m = 256 ^ k * (256 * 256 ^ (m - k - 1)) := by
        rw [← Nat.pow_succ', ← Nat.pow_add]
        congr 1
        omega
      have hpos : 0 < 256 ^ k := Nat.pow_pos (by decide)
      have hrest : 0 < 256 ^ (m - k - 1) := Nat.pow_pos (by decide)
      have hdiv : (256 ^ m - 1) / 256 ^ k = 256 * 256 ^ (m - k - 1) - 1 := by
        have hquot := Nat.mul_sub_div 0 (256 ^ k) (256 * 256 ^ (m - k - 1)) (Nat.mul_pos hpos (Nat.mul_pos (by decide) hrest))
        rw [hpow]
        simpa using hquot
      have hbyte : BitVec.ofNat 8 (256 * 256 ^ (m - k - 1) - 1) = 0xFF := by
        apply BitVec.eq_of_toNat_eq
        rw [BitVec.toNat_ofNat]
        show (256 * 256 ^ (m - k - 1) - 1) % 256 = 255
        omega
      rw [bytesBE, ih (by omega), hdiv, hbyte, List.replicate_succ]
  exact hdigits w w (Nat.le_refl w)

/-! ## The fields of an answer (R181) -/

theorem presentBytes_length (w v : Nat) : (presentBytes w v).length = w := by
  unfold presentBytes
  split <;> rw [length_bytesBE]

theorem presentBytes_of_lt {w v : Nat} (h : v < 256 ^ w) : presentBytes w v = bytesBE w v := if_pos h

theorem FieldType.top_pos (t : FieldType) : 256 ≤ 256 ^ t.width := by cases t <;> decide

/-- R181: a present value is sent as it is, the one that would read as absent less 1. -/
theorem optSent_eq_min {t v : Nat} (ht : 256 ≤ t) (hv : v < t) : (if v = t - 1 then v - 1 else v) = min v (t - 2) := by
  split <;> omega

theorem Field.bytes_opt {t : FieldType} {v : Nat} (hv : v < 256 ^ t.width) :
    (Field.opt t (some v)).bytes = bytesBE t.width (min v (256 ^ t.width - 2)) := by
  have htop := t.top_pos
  rw [Field.bytes, optSent_eq_min htop hv, presentBytes_of_lt (by omega)]

/-- R181, R16: a correction other than -1 reads as its two's complement. -/
theorem natBE_correction {v : Int} (h : v ≠ -1) :
    natBE (Field.correction (some v)).bytes = (v % 65536).toNat := by
  rw [Field.bytes, if_neg h, natBE_bytesBE, twosComplement, Nat.mod_eq_of_lt]
  have := Int.emod_lt_of_pos v (show (0 : Int) < 65536 by decide)
  show (v % 65536).toNat < 65536
  omega

/-- Settles O60. -/
theorem fieldBytes : Obligations.FieldBytes := by
  unfold Obligations.FieldBytes
  refine ⟨fun t v hv => ⟨presentBytes_length _ _, ?_⟩, fun t => rfl, fun t v hv => ⟨?_, ?_⟩, rfl,
    fun t v => ⟨presentBytes_length _ _, presentBytes_length _ _⟩, by decide, fun v _ _ h => natBE_correction h,
    fun name _ => rfl⟩
  · have hnum : (Field.num t v).bytes = bytesBE t.width v := presentBytes_of_lt hv
    rw [hnum, foldl_bytesBE, Nat.zero_mul, Nat.zero_add, Nat.mod_eq_of_lt hv]
  · have htop := t.top_pos
    have hnum : (Field.num t (min v (256 ^ t.width - 2))).bytes = bytesBE t.width (min v (256 ^ t.width - 2)) :=
      presentBytes_of_lt (by omega)
    rw [Field.bytes_opt hv, hnum]
  · have htop := t.top_pos
    have habsent : (Field.opt t none).bytes = bytesBE t.width (256 ^ t.width - 1) := (bytesBE_top t.width).symm
    rw [Field.bytes_opt hv, habsent]
    intro he
    have := bytesBE_injective (by omega) (by omega) he
    omega

end Sys2Proof.Machine
end

section
/-! SUPPORT. The frame of a request, read back (R178 to R181). -/

namespace Sys2Proof.Machine

/-! ## The frame (R178) -/

theorem Request.kind_lt (r : Request) : r.kind < 128 := by cases r <;> decide

/-- R178, R179: the bytes of a frame are taken apart as they were put together. -/
theorem commandOfFrame_frameOf (p : Port) (skey : Bool) (r : Request) {fs : List Byte} (h : fs.length + 1 ≤ 120) :
    commandOfFrame p skey (frameOf r.kind fs) = some (commandOf p skey r fs) := by
  have hlen : (BitVec.ofNat 8 (fs.length + 1)).toNat = fs.length + 1 := by
    rw [BitVec.toNat_ofNat]
    exact Nat.mod_eq_of_lt (by omega)
  have hkind : (BitVec.ofNat 8 r.kind).toNat = r.kind := by
    rw [BitVec.toNat_ofNat]
    exact Nat.mod_eq_of_lt (Nat.lt_trans (Request.kind_lt r) (by decide))
  obtain ⟨crc, hcrc⟩ : ∃ crc, crc8 (BitVec.ofNat 8 (fs.length + 1) :: BitVec.ofNat 8 r.kind :: fs) = crc := ⟨_, rfl⟩
  have hbody : (BitVec.ofNat 8 r.kind :: fs) ++ [crc] = BitVec.ofNat 8 r.kind :: (fs ++ [crc]) := rfl
  have htake : ((BitVec.ofNat 8 r.kind :: fs) ++ [crc]).take (fs.length + 1) = BitVec.ofNat 8 r.kind :: fs :=
    List.take_left' rfl
  have hdrop : ((BitVec.ofNat 8 r.kind :: fs) ++ [crc]).drop (fs.length + 1) = [crc] := List.drop_left' rfl
  have hframe : frameOf r.kind fs =
      syncByte :: BitVec.ofNat 8 (fs.length + 1) :: ((BitVec.ofNat 8 r.kind :: fs) ++ [crc]) := by rw [← hcrc]; rfl
  rw [hframe, commandOfFrame, hlen, if_neg (Decidable.not_not.mpr rfl), if_neg (by omega), if_neg (by simp), htake, hdrop, hcrc,
    if_neg (Decidable.not_not.mpr rfl)]
  dsimp only
  rw [hkind, requestOfKind_kind]

/-! ## The operands (R181) -/

theorem ofNat_natBE {w k : Nat} (hk : 2 ^ k = 256 ^ w) (n : BitVec k) : BitVec.ofNat k (natBE (bytesBE w n.toNat)) = n := by
  apply BitVec.eq_of_toNat_eq
  rw [natBE_bytesBE, BitVec.toNat_ofNat, ← hk, Nat.mod_mod, Nat.mod_eq_of_lt n.isLt]

theorem ofNat_natBE_byte (b : Byte) : BitVec.ofNat 8 (natBE [b]) = b := by simp [natBE]

theorem ofNat_natBE_16 (n : BitVec 16) : BitVec.ofNat 16 (natBE (bytesBE 2 n.toNat)) = n := ofNat_natBE (by decide) n

theorem ofNat_natBE_24 (n : BitVec 24) : BitVec.ofNat 24 (natBE (bytesBE 3 n.toNat)) = n := ofNat_natBE (by decide) n

theorem ofNat_natBE_32 (n : BitVec 32) : BitVec.ofNat 32 (natBE (bytesBE 4 n.toNat)) = n := ofNat_natBE (by decide) n

theorem Hdr.of_len {h : Hdr} {k : Nat} (hl : h.len = k) : ({ port := h.port, len := k } : Hdr) = h := by rw [← hl]

/-! ## The shapes of the requests (section 10.5) -/

section
variable {h : Hdr} {r : Request} {skey : Bool}

theorem commandOf_plain {c : Hdr → Instr} (hr : ∀ p fs, commandOf p skey r fs = c ⟨p, fs.length + 1⟩)
    (hl : h.len = 1) : commandOf h.port skey r [] = c h :=
  (hr _ _).trans (congrArg c (Hdr.of_len hl))

theorem commandOf_byte {c : Hdr → BitVec 8 → Instr} {a : BitVec 8}
    (hr : ∀ p fs, commandOf p skey r fs = c ⟨p, fs.length + 1⟩ (BitVec.ofNat 8 (fieldAt fs 0 1))) (hl : h.len = 2) :
    commandOf h.port skey r [a] = c h a := by
  rw [hr, show ([a] : List Byte).length + 1 = 2 from rfl, Hdr.of_len hl]
  exact congrArg (c h) (ofNat_natBE_byte a)

theorem commandOf_twoBytes {c : Hdr → BitVec 8 → BitVec 8 → Instr} {a b : BitVec 8}
    (hr : ∀ p fs, commandOf p skey r fs =
      c ⟨p, fs.length + 1⟩ (BitVec.ofNat 8 (fieldAt fs 0 1)) (BitVec.ofNat 8 (fieldAt fs 1 1))) (hl : h.len = 3) :
    commandOf h.port skey r [a, b] = c h a b := by
  rw [hr, show ([a, b] : List Byte).length + 1 = 3 from rfl, Hdr.of_len hl]
  exact congr (congrArg (c h) (ofNat_natBE_byte a)) (ofNat_natBE_byte b)

theorem commandOf_number {c : Hdr → BitVec 16 → Instr} {n : BitVec 16}
    (hr : ∀ fs, commandOf h.port skey r fs = c ⟨h.port, fs.length + 1⟩ (BitVec.ofNat 16 (fieldAt fs 0 2)))
    (hl : h.len = 3) : commandOf h.port skey r (bytesBE 2 n.toNat) = c h n := by
  rw [hr, show (bytesBE 2 n.toNat).length + 1 = 3 from rfl, Hdr.of_len hl]
  exact congrArg (c h) (ofNat_natBE_16 n)

theorem commandOf_numberByte {c : Hdr → BitVec 16 → BitVec 8 → Instr} {n : BitVec 16} {a : BitVec 8}
    (hr : ∀ p fs, commandOf p skey r fs =
      c ⟨p, fs.length + 1⟩ (BitVec.ofNat 16 (fieldAt fs 0 2)) (BitVec.ofNat 8 (fieldAt fs 2 1))) (hl : h.len = 4) :
    commandOf h.port skey r (bytesBE 2 n.toNat ++ [a]) = c h n a := by
  rw [hr, show (bytesBE 2 n.toNat ++ [a]).length + 1 = 4 from rfl, Hdr.of_len hl]
  exact congr (congrArg (c h) (ofNat_natBE_16 n)) (ofNat_natBE_byte a)

theorem commandOf_byteNumber {c : Hdr → BitVec 8 → BitVec 16 → Instr} {a : BitVec 8} {n : BitVec 16}
    (hr : ∀ p fs, commandOf p skey r fs =
      c ⟨p, fs.length + 1⟩ (BitVec.ofNat 8 (fieldAt fs 0 1)) (BitVec.ofNat 16 (fieldAt fs 1 2))) (hl : h.len = 4) :
    commandOf h.port skey r (a :: bytesBE 2 n.toNat) = c h a n := by
  rw [hr, show (a :: bytesBE 2 n.toNat).length + 1 = 4 from rfl, Hdr.of_len hl]
  exact congr (congrArg (c h) (ofNat_natBE_byte a)) (ofNat_natBE_16 n)

theorem commandOf_twoNumbers {c : Hdr → BitVec 16 → BitVec 16 → Instr} {n m : BitVec 16}
    (hr : ∀ p fs, commandOf p skey r fs =
      c ⟨p, fs.length + 1⟩ (BitVec.ofNat 16 (fieldAt fs 0 2)) (BitVec.ofNat 16 (fieldAt fs 2 2))) (hl : h.len = 5) :
    commandOf h.port skey r (bytesBE 2 n.toNat ++ bytesBE 2 m.toNat) = c h n m := by
  rw [hr, show (bytesBE 2 n.toNat ++ bytesBE 2 m.toNat).length + 1 = 5 from rfl, Hdr.of_len hl]
  exact congr (congrArg (c h) (ofNat_natBE_16 n)) (ofNat_natBE_16 m)

theorem commandOf_bytesValue {k w : Nat} {c : Hdr → BitVec 8 → BitVec 8 → BitVec k → Instr} {a b : BitVec 8} {n : BitVec k}
    (hn : BitVec.ofNat k (natBE (bytesBE w n.toNat)) = n)
    (hr : ∀ p fs, commandOf p skey r fs = c ⟨p, fs.length + 1⟩ (BitVec.ofNat 8 (fieldAt fs 0 1))
      (BitVec.ofNat 8 (fieldAt fs 1 1)) (BitVec.ofNat k (fieldAt fs 2 w)))
    (hl : h.len = (a :: b :: bytesBE w n.toNat).length + 1) :
    commandOf h.port skey r (a :: b :: bytesBE w n.toNat) = c h a b n := by
  have hvalue : fieldAt (a :: b :: bytesBE w n.toNat) 2 w = natBE (bytesBE w n.toNat) := by
    rw [fieldAt, List.drop_succ_cons, List.drop_succ_cons, List.drop_zero,
      List.take_of_length_le (Nat.le_of_eq (length_bytesBE w n.toNat))]
  rw [hr, Hdr.of_len hl, hvalue, hn]
  exact congrFun (congr (congrArg (c h) (ofNat_natBE_byte a)) (ofNat_natBE_byte b)) n

theorem commandOf_fiveBytes {c : Hdr → BitVec 8 → BitVec 8 → BitVec 8 → BitVec 8 → BitVec 8 → Instr}
    {a1 a2 a3 a4 a5 : BitVec 8}
    (hr : ∀ p fs, commandOf p skey r fs = c ⟨p, fs.length + 1⟩ (BitVec.ofNat 8 (fieldAt fs 0 1))
      (BitVec.ofNat 8 (fieldAt fs 1 1)) (BitVec.ofNat 8 (fieldAt fs 2 1)) (BitVec.ofNat 8 (fieldAt fs 3 1))
      (BitVec.ofNat 8 (fieldAt fs 4 1)))
    (hl : h.len = 6) : commandOf h.port skey r [a1, a2, a3, a4, a5] = c h a1 a2 a3 a4 a5 := by
  rw [hr, show ([a1, a2, a3, a4, a5] : List Byte).length + 1 = 6 from rfl, Hdr.of_len hl]
  congr 1
  · exact ofNat_natBE_byte a1
  · exact ofNat_natBE_byte a2
  · exact ofNat_natBE_byte a3
  · exact ofNat_natBE_byte a4
  · exact ofNat_natBE_byte a5

theorem commandOf_register {a : BitVec 8} {n : BitVec 16} {b c d : BitVec 8}
    (hl : h.len = (a :: bytesBE 2 n.toNat ++ [b, c, d]).length + 1) :
    commandOf h.port skey .register (a :: bytesBE 2 n.toNat ++ [b, c, d]) = .register h a n b c d := by
  rw [commandOf, Hdr.of_len hl]
  congr 1
  · exact ofNat_natBE_byte a
  · exact ofNat_natBE_16 n
  · exact ofNat_natBE_byte b
  · exact ofNat_natBE_byte c
  · exact ofNat_natBE_byte d

end

/-! ## SET_RECIPE, whose fields begin after a name of its own length (R180) -/

/-- The field at `k` of what follows the index, the valid code and the name. -/
theorem fieldAt_after_name (a b l : Byte) (name rest : List Byte) {off k w : Nat} (h : off = 3 + k + name.length) :
    fieldAt (a :: b :: l :: (name ++ rest)) off w = fieldAt rest k w := by
  have hsplit : a :: b :: l :: (name ++ rest) = ([a, b, l] ++ name) ++ rest := rfl
  have hoff : off = ([a, b, l] ++ name).length + k := by
    rw [h, List.length_append]
    show 3 + k + name.length = 3 + name.length + k
    omega
  rw [fieldAt, hsplit, hoff, List.drop_length_add_append]
  rfl

/-- The figures of a recipe as SET_RECIPE carries them. -/
def recipeBytes (th re : BitVec 16) (ba ma : BitVec 24) (w0 mg dt : BitVec 16) (uc ua : BitVec 24) : List Byte :=
  bytesBE 2 th.toNat ++ (bytesBE 2 re.toNat ++ (bytesBE 3 ba.toNat ++ (bytesBE 3 ma.toNat ++ (bytesBE 2 w0.toNat ++
    (bytesBE 2 mg.toNat ++ (bytesBE 2 dt.toNat ++ (bytesBE 3 uc.toNat ++ bytesBE 3 ua.toNat)))))))

theorem commandOf_setRecipe {h : Hdr} {skey : Bool} {i v : BitVec 8} {name : List Byte} {th re : BitVec 16}
    {ba ma : BitVec 24} {w0 mg dt : BitVec 16} {uc ua : BitVec 24} (hn : name.length < 256)
    (hl : h.len = (i :: v :: BitVec.ofNat 8 name.length :: (name ++ recipeBytes th re ba ma w0 mg dt uc ua)).length + 1) :
    commandOf h.port skey .setRecipe
      (i :: v :: BitVec.ofNat 8 name.length :: (name ++ recipeBytes th re ba ma w0 mg dt uc ua)) =
      .setRecipe h i v name th re ba ma w0 mg dt uc ua := by
  have hname : (BitVec.ofNat 8 (natBE [BitVec.ofNat 8 name.length])).toNat = name.length := by
    rw [ofNat_natBE_byte, BitVec.toNat_ofNat]
    exact Nat.mod_eq_of_lt hn
  have hcount : (BitVec.ofNat 8 (fieldAt (i :: v :: BitVec.ofNat 8 name.length ::
      (name ++ recipeBytes th re ba ma w0 mg dt uc ua)) 2 1)).toNat = name.length := hname
  have hafter (off k w : Nat) (ho : off = 3 + k) : fieldAt (i :: v :: BitVec.ofNat 8 name.length ::
      (name ++ recipeBytes th re ba ma w0 mg dt uc ua)) (off + name.length) w =
      fieldAt (recipeBytes th re ba ma w0 mg dt uc ua) k w :=
    fieldAt_after_name i v (BitVec.ofNat 8 name.length) name _ (by rw [ho])
  have hbytes : List.take name.length (List.drop 3 (i :: v :: BitVec.ofNat 8 name.length ::
      (name ++ recipeBytes th re ba ma w0 mg dt uc ua))) = name := List.take_left' rfl
  simp only [commandOf, hcount]
  rw [Hdr.of_len hl, hbytes, hafter 3 0 2 rfl, hafter 5 2 2 rfl, hafter 7 4 3 rfl, hafter 10 7 3 rfl,
    hafter 13 10 2 rfl, hafter 15 12 2 rfl, hafter 17 14 2 rfl, hafter 19 16 3 rfl, hafter 22 19 3 rfl]
  congr 1
  · exact ofNat_natBE_byte i
  · exact ofNat_natBE_byte v
  · exact ofNat_natBE_16 th
  · exact ofNat_natBE_16 re
  · exact ofNat_natBE_24 ba
  · exact ofNat_natBE_24 ma
  · exact ofNat_natBE_16 w0
  · exact ofNat_natBE_16 mg
  · exact ofNat_natBE_16 dt
  · exact ofNat_natBE_24 uc
  · exact ofNat_natBE_24 ua

/-- R178, R181: the fields of a request command spell that command. -/
theorem commandOf_fieldsOf {i : Instr} {r : Request} {p : Port} {fs : List Byte} (hlen : fs.length + 1 ≤ 120)
    (hw : operandsInRange i = true) (hf : fieldsOf i = some (r, p, fs)) (hl : lenOf i = some (fs.length + 1)) :
    commandOf p (skeyOf i) r fs = i := by
  cases i <;> cases hf <;> replace hl := Option.some.inj hl
  case lineClear h | recall.refl h | storeInfo h | feed h | readWash h | readBath h | readDryer h | readFinisher h | status h |
      ack h | clearCounters h | readCounters h | ping h | portInfo h =>
    exact commandOf_plain (fun _ _ => rfl) hl
  case readRecipe h a | readLevel h a | clearChannel h a | readChannel h a | readUnit h a | readNotice h a |
      setThreshold h a =>
    exact commandOf_byte (fun _ _ => rfl) hl
  case list h a b | readSetting h a b | setLevel h a b | drawerUnloaded h a b =>
    exact commandOf_twoBytes (fun _ _ => rfl) hl
  case cancel h n | retire h n | claim h n | startBack h n | startMain h n | exit h n | claimFinish h n | startFinish h n =>
    exact commandOf_number (fun _ => rfl) hl
  case drawerLoaded h a n => exact commandOf_byteNumber (fun _ _ => rfl) hl
  case readDocket h n a => exact commandOf_numberByte (fun _ _ => rfl) hl
  case reportBath h n m | replenish h n m => exact commandOf_twoNumbers (fun _ _ => rfl) hl
  case store h k => exact commandOf_plain (skey := k) (c := fun h => .store h k) (fun _ _ => rfl) hl
  case releasePass h n f =>
    exact (commandOf_numberByte (c := fun h n f => if f = 1 then .releaseRewash h n f else .releasePass h n f)
      (fun _ _ => rfl) hl).trans (if_neg (of_decide_eq_true hw))
  case releaseRewash h n f =>
    exact (commandOf_numberByte (c := fun h n f => if f = 1 then .releaseRewash h n f else .releasePass h n f)
      (fun _ _ => rfl) hl).trans (if_pos (of_decide_eq_true hw))
  case drawerServiceOut h a f =>
    exact (commandOf_twoBytes (c := fun h a f => if f = 1 then .drawerServiceIn h a f else .drawerServiceOut h a f)
      (fun _ _ => rfl) hl).trans (if_neg (of_decide_eq_true hw))
  case drawerServiceIn h a f =>
    exact (commandOf_twoBytes (c := fun h a f => if f = 1 then .drawerServiceIn h a f else .drawerServiceOut h a f)
      (fun _ _ => rfl) hl).trans (if_pos (of_decide_eq_true hw))
  case stop h n => exact commandOf_number (fun _ => if_neg (of_decide_eq_true hw)) hl
  case resume h n => exact commandOf_number (fun _ => if_neg (of_decide_eq_true hw)) hl
  case returnDocket h n => exact commandOf_number (fun _ => if_neg (of_decide_eq_true hw)) hl
  case finisherStop len n =>
    exact commandOf_number (h := ⟨.F, len⟩) (c := fun h n => .finisherStop h.len n) (fun _ => rfl) hl
  case finisherResume len n =>
    exact commandOf_number (h := ⟨.F, len⟩) (c := fun h n => .finisherResume h.len n) (fun _ => rfl) hl
  case finisherReturn len n =>
    exact commandOf_number (h := ⟨.F, len⟩) (c := fun h n => .finisherReturn h.len n) (fun _ => rfl) hl
  case setLampRefValue h a f n =>
    exact (commandOf_bytesValue (c := fun h a f n => if f = 1 then .setLampRefMeasured h a f n else .setLampRefValue h a f n)
      (ofNat_natBE_24 n) (fun _ _ => rfl) hl).trans (if_neg (of_decide_eq_true hw))
  case setLampRefMeasured h a f n =>
    exact (commandOf_bytesValue (c := fun h a f n => if f = 1 then .setLampRefMeasured h a f n else .setLampRefValue h a f n)
      (ofNat_natBE_24 n) (fun _ _ => rfl) hl).trans (if_pos (of_decide_eq_true hw))
  case setSetting h a b n => exact commandOf_bytesValue (ofNat_natBE_32 n) (fun _ _ => rfl) hl
  case setCounter h a b c d e =>
    exact commandOf_fiveBytes (fun _ _ => rfl) hl
  case register h a n b c d =>
    exact commandOf_register hl
  case setRecipe h i v name th re ba ma w0 mg dt uc ua =>
    have hfs : i :: v :: BitVec.ofNat 8 name.length :: name ++ bytesBE 2 th.toNat ++ bytesBE 2 re.toNat
        ++ bytesBE 3 ba.toNat ++ bytesBE 3 ma.toNat ++ bytesBE 2 w0.toNat ++ bytesBE 2 mg.toNat ++ bytesBE 2 dt.toNat
        ++ bytesBE 3 uc.toNat ++ bytesBE 3 ua.toNat =
        i :: v :: BitVec.ofNat 8 name.length :: (name ++ recipeBytes th re ba ma w0 mg dt uc ua) := by
      simp only [recipeBytes, List.cons_append, List.append_assoc]
    rw [hfs] at hl hlen ⊢
    refine commandOf_setRecipe ?_ hl
    simp only [List.length_cons, List.length_append] at hlen
    omega

/-- Settles O59. -/
theorem framesAreReadBack : Obligations.FramesAreReadBack := by
  unfold Obligations.FramesAreReadBack
  intro i r p fields frame hwf hwhole hf he
  obtain ⟨hin, hop⟩ := Bool.and_eq_true_iff.mp hwf
  have hframe : frame = frameOf r.kind fields := by
    rw [encodeFrame, hf] at he
    exact (Option.some.inj he).symm
  cases hlen : lenOf i with
  | none => simp [wholeFrame, hf, hlen] at hwhole
  | some len =>
    have hl : len = fields.length + 1 := by simpa [wholeFrame, hf, hlen] using hwhole
    have hbound : fields.length + 1 ≤ 120 := by
      have hrange : 1 ≤ len ∧ len ≤ 120 := by simpa [hlen, lenInRange] using hin
      omega
    rw [hframe, commandOfFrame_frameOf p (skeyOf i) r hbound,
      commandOf_fieldsOf hbound hop hf (hlen.trans (congrArg some hl))]

end Sys2Proof.Machine
end
